-- ==== Sys2Proof/Word.lean ====
section
/-! DEFINITION. The plainest words of the model: a character's eight data bits, and counting that
saturates (00_scope.md, "A value said to saturate stops at the end of its range"). -/

namespace Sys2Proof

/-- The eight data bits of a character of the loop (R2, R179). -/
abbrev Byte := BitVec 8

/-- The end of a 16-bit counter's range (R15, R178). -/
def max16 : Nat := 65535

/-- The end of a 32-bit total's range (R65, R106, R162). -/
def max32 : Nat := 4294967295

/-- Addition that stops at the end of the range. -/
def addSat (top n k : Nat) : Nat := min top (n + k)

end Sys2Proof
end

