-- ==== Sys2Proof/Syntax.lean ====
section
/-! DEFINITION. The commands of the block: one constructor of `Instr` for each row of
spec/opcode_table.json, with the operands the row's rule gives it. A command is an event at the
block's lines or timers, or a request of a management source. -/

namespace Sys2Proof

/-- Pump numbers 1 to 6 (00_scope.md, Conventions). -/
inductive Pump where
  | p1 | p2 | p3 | p4 | p5 | p6
  deriving DecidableEq, Repr

/-- Screens and their rakes, A and B. -/
inductive Side where
  | a | b
  deriving DecidableEq, Repr

/-- The bit times of a character after its data bits, as levels (R2): the marker, the parity bit, and the line at
the stop-bit position. True is 1, or mark. -/
structure CharEnding where
  marker : Bool
  parity : Bool
  stop : Bool
  deriving DecidableEq, Repr

/-- The two character errors of R5. -/
inductive CharError where
  | parity | framing
  deriving DecidableEq, Repr

/-- A frame by its fields (R179). LEN is the length of `payload`, and the two CHECK characters are
those R180 computes, so neither is held apart. -/
structure Frame where
  dest : Byte
  src : Byte
  kindFlags : Byte
  seq : Byte
  payload : List Byte
  deriving DecidableEq, Repr

/-- The order in which two pairs of blocks take one balance record, which the manual leaves open:
pump protection before the pump sequencer (R112, R117), and the screen controller before the pump
sequencer (R100). -/
structure BalanceOrder where
  protectionFirst : Bool
  screenFirst : Bool
  deriving DecidableEq, Repr

/-- The commands. A request carries the source address and the tag of its MANAGE frame, then the
parameters of R182 as characters (two-character figures whole); `part` is the optional part index
of R183. -/
inductive Instr where
  /-- POWER_UP (R176): main power comes up with these strap positions (R1); `backupHeld` says
  whether the backup supply kept the retained memory meanwhile. -/
  | powerUp (addr : Byte) (rate : BitVec 2) (backupHeld : Bool)
  /-- RESET_RELEASE (R176): the reset input is released, with these strap positions. -/
  | resetRelease (addr : Byte) (rate : BitVec 2)
  /-- CHARACTER_RECEIVED (R2, R4): the stop-bit position of a character is reached; what followed its start bit. -/
  | characterReceived (data : Byte) (ending : CharEnding)
  /-- CHARACTER_ERROR (R5): a parity error, or a framing error judged at the return to mark. -/
  | characterError (e : CharError)
  /-- GAP_TIMER_EXPIRY (R6). -/
  | gapTimerExpiry
  /-- FRAME_RECEIVED (R17): a good frame is handed to the transit section. -/
  | frameReceived (f : Frame)
  /-- STROBE_END (R14). -/
  | strobeEnd
  /-- TRANSMIT_START (R29). -/
  | transmitStart
  /-- FRAME_SENT (R3). -/
  | frameSent
  /-- HOLD_IN_ASSERTED (R12). -/
  | holdInAsserted
  /-- HOLD_IN_RELEASED (R11). -/
  | holdInReleased
  /-- STALL_TIMER_EXPIRY (R12). -/
  | stallTimerExpiry
  /-- BREAK_DETECTED (R8). -/
  | breakDetected
  /-- LOOP_RESET (R10). -/
  | loopReset
  /-- BREAK_END (R8). -/
  | breakEnd
  /-- LOOP_HEALTH_TIMER_EXPIRY (R16). -/
  | loopHealthTimerExpiry
  /-- LAP_TIMEOUT (R33). -/
  | lapTimeout
  /-- POINT_SECOND_TIMER_EXPIRY (R46). -/
  | pointSecondTimerExpiry
  /-- BALANCE_UPDATE (R58). -/
  | balanceUpdate (order : BalanceOrder)
  /-- STAGGER_TIMER_EXPIRY (R77). -/
  | staggerTimerExpiry
  /-- POWER_RETURN_TIMER_EXPIRY (R78). -/
  | powerReturnTimerExpiry
  /-- START_CONFIRM_EXPIRY (R92). -/
  | startConfirmExpiry (p : Pump)
  /-- STOP_CONFIRM_EXPIRY (R93). -/
  | stopConfirmExpiry (p : Pump)
  /-- OVERCURRENT_TIMER_EXPIRY (R111). -/
  | overcurrentTimerExpiry (p : Pump)
  /-- TRAVEL_TIMER_EXPIRY (R129). -/
  | travelTimerExpiry (r : Side)
  /-- JAM_CURRENT_TIMER_EXPIRY (R129). -/
  | jamCurrentTimerExpiry (r : Side)
  /-- REVERSE_TIMER_EXPIRY (R130). -/
  | reverseTimerExpiry (r : Side)
  /-- RENOTIFY_TIMER_EXPIRY (R159), of alarm entry 1 to 73. -/
  | renotifyTimerExpiry (entry : Nat)
  /-- SUMMARY_TIMER_EXPIRY (R161). -/
  | summaryTimerExpiry
  /-- SETTLING_TIMER_EXPIRY (R175). -/
  | settlingTimerExpiry
  /-- WRITE_COMPLETION (R173); `agrees` says whether the image read back agrees with its check. -/
  | writeCompletion (agrees : Bool)
  /-- RESTART_BEGIN (R177), with the strap positions then read (R1). -/
  | restartBegin (addr : Byte) (rate : BitVec 2)
  /-- READ_STATUS (R167). -/
  | readStatus (src tag : Byte) (part : Option Byte)
  /-- READ_COUNTERS (R178). -/
  | readCounters (src tag group : Byte) (part : Option Byte)
  /-- READ_POINT (R56). -/
  | readPoint (src tag first count : Byte) (part : Option Byte)
  /-- READ_PUMP (R107). -/
  | readPump (src tag pump : Byte) (part : Option Byte)
  /-- READ_RAKE (R135). -/
  | readRake (src tag drive : Byte) (part : Option Byte)
  /-- READ_FLOW (R59). -/
  | readFlow (src tag : Byte) (part : Option Byte)
  /-- READ_ALARMS (R163). -/
  | readAlarms (src tag first count : Byte) (part : Option Byte)
  /-- READ_SPILL (R149). -/
  | readSpill (src tag form : Byte) (number : BitVec 16) (part : Option Byte)
  /-- READ_TABLE (R169). -/
  | readTable (src tag table copy index : Byte) (part : Option Byte)
  /-- SET_DRIVE_MODE (R87, R125). -/
  | setDriveMode (src tag drive mode : Byte)
  /-- RESET_DRIVE (R119, R133). -/
  | resetDrive (src tag drive : Byte)
  /-- RAKE_NOW (R127). -/
  | rakeNow (src tag drive : Byte)
  /-- FORCE_POINT (R49). -/
  | forcePoint (src tag point : Byte) (value : BitVec 16)
  /-- RELEASE_POINT (R50). -/
  | releasePoint (src tag point : Byte)
  /-- ACK_ALARM (R155). -/
  | ackAlarm (src tag entry : Byte)
  /-- SILENCE (R157). -/
  | silence (src tag : Byte)
  /-- COLLECT_SPILL (R148). -/
  | collectSpill (src tag : Byte) (number : BitVec 16)
  /-- TABLE_BEGIN (R168). -/
  | tableBegin (src tag table count : Byte)
  /-- TABLE_SEGMENT (R169). -/
  | tableSegment (src tag table index : Byte) (data : List Byte)
  /-- TABLE_COMMIT (R170). -/
  | tableCommit (src tag table method : Byte) (check : BitVec 16)
  /-- TABLE_ABANDON (R168). -/
  | tableAbandon (src tag table : Byte)
  /-- SET_STATION_MODE (R174). -/
  | setStationMode (src tag mode : Byte)
  /-- CLEAR_COUNTERS (R178). -/
  | clearCounters (src tag : Byte)
  /-- RESTART (R177). -/
  | restart (src tag : Byte)
  /-- RUNNING_SECONDS (R162). -/
  | runningSeconds
  /-- RESET_ASSERTED (R176): the reset input is driven low. -/
  | resetAsserted
  /-- MAIN_POWER_LOST (R173). -/
  | mainPowerLost
  deriving DecidableEq, Repr

end Sys2Proof
end

