-- ==== Sys2Proof/Config.lean ====
section
/-! DEFINITION. What the part fixes (capacities), and the one free value: a value the manual leaves
open, of which nothing can be proved. -/

namespace Sys2Proof.Config

/-- Free value (log 7): DEST of a notice posted while no STATION table names a gateway (R25), for the
SEQ it takes. -/
opaque noticeDestination : Byte → Byte

/-- Capacity of the transit queue in characters (R24). -/
def transitCapacity : Nat := 384

/-- Capacity of the ACTUATOR class (R26). -/
def actuatorCapacity : Nat := 12

/-- Capacity of the NOTICE class (R27). -/
def noticeCapacity : Nat := 8

/-- Capacity of the RESPONSE class (R28). -/
def responseCapacity : Nat := 4

/-- Capacity of the lap list (R31). -/
def lapCapacity : Nat := 16

/-- Capacity of the volume history ring (R67). A window W of 60, which R62 allows, asks for one entry more
(DEDUCED, log 54). -/
def ringCapacity : Nat := 60

/-- Capacity of the spill log (R145). -/
def logCapacity : Nat := 32

/-- Length of the settling timer in seconds (R174). -/
def settlingLength : Nat := 10

/-- The deadline of a pending restart in seconds (R177). -/
def restartDeadline : Nat := 5

/-- The loop health timer's length in seconds (R16). -/
def healthLength : Nat := 10

end Sys2Proof.Config
end

