-- ==== Sys2Proof/Machine/State.lean ====
section
/-! DEFINITION. The state of the PS-62, block by block, as plain data; its faults and refusals; and the
state a cold start leaves (`State.reset`). -/

namespace Sys2Proof.Machine

/-! ### Named values -/

/-- Positions of a selector and modes of a drive (R85, R125; codes OFF 0, HAND 1, AUTO 2). -/
inductive Mode where
  | off | hand | auto
  deriving DecidableEq, Repr

/-- The supply state (R74). -/
inductive Supply where
  | mains | generator | lost
  deriving DecidableEq, Repr

/-- The states of a pump (R85): HAND, OFF, and the seven AUTO states. -/
inductive PumpState where
  | hand | off | idle | startWait | starting | running | stopping | held | tripped
  deriving DecidableEq, Repr

/-- The states of a rake (R125). -/
inductive RakeState where
  | hand | off | idle | waitSlot | raking | reversing | jammed
  deriving DecidableEq, Repr

/-- Command codes (R181). -/
inductive CommandCode where
  | stop | run | runReverse | annunciate
  deriving DecidableEq, Repr

/-- The fault sources of a pump, in the order of R116 with COMMAND_LOST where R109 lists it. -/
inductive FaultSource where
  | f1 | f2 | f3 | overcurrent | uncommandedStop | commandLost | failToStart | failToStop
  deriving DecidableEq, Repr

/-- Class of a source (R109). -/
inductive SourceClass where
  | latch | hold
  deriving DecidableEq, Repr

/-- Action of a source (R109). -/
inductive SourceAction where
  | stop | inhibitStart | alarmOnly
  deriving DecidableEq, Repr

/-- Polarity of a fault point (R110). -/
inductive Polarity where
  | activeHigh | activeLow
  deriving DecidableEq, Repr

/-- Causes of a jam latch (R125). -/
inductive JamCause where
  | travel | current | commandLost
  deriving DecidableEq, Repr

/-- Point classes (R44). -/
inductive PointClass where
  | level | current | state | select
  deriving DecidableEq, Repr

/-- Point qualities (section 3.4). -/
inductive Quality where
  | none | good | clamped | stale | failed | substituted | forced
  deriving DecidableEq, Repr

/-- Out-of-window policies (R40). -/
inductive Policy where
  | clamp | reject
  deriving DecidableEq, Repr

/-- Forwarding of a tap (R40). -/
inductive Forwarding where
  | pass | sink
  deriving DecidableEq, Repr

/-- Permissions (R165), each including those before it. -/
inductive Permission where
  | view | operate | configure
  deriving DecidableEq, Repr

/-- Activation methods (R172). -/
inductive Method where
  | immediate | nextPeriod | quiet
  deriving DecidableEq, Repr

/-- The ten tables, in table order (R172, R182). -/
inductive TableId where
  | station | access | tap | point | storage | pump | band | screen | weir | alarm
  deriving DecidableEq, Repr

/-- The station mode (R174). -/
inductive StationMode where
  | standby | settling | automatic
  deriving DecidableEq, Repr

/-- The wanted mode (R174). -/
inductive WantedMode where
  | standby | automatic
  deriving DecidableEq, Repr

/-- Outcome of a table's last activation (R172). -/
inductive Activation where
  | activated | refused | none
  deriving DecidableEq, Repr

/-- Cases of demand (R99). -/
inductive DemandCase where
  | lowFloat | highFloat | failedLevel | bands
  deriving DecidableEq, Repr

/-- Basis of the filtered level, and the well basis of the head (R59, R63). -/
inductive LevelBasis where
  | filtered | held | none
  deriving DecidableEq, Repr

/-- Discharge basis of the head (R63). -/
inductive DischargeBasis where
  | river | design
  deriving DecidableEq, Repr

/-- Quality of the inflow estimate (R68). -/
inductive FlowQuality where
  | valid | part | invalid
  deriving DecidableEq, Repr

/-- Weirs 1 and 2. -/
inductive Weir where
  | w1 | w2
  deriving DecidableEq, Repr

/-- States of a weir (R137). -/
inductive WeirState where
  | dry | onset | spilling | receding
  deriving DecidableEq, Repr

/-- States of a spill record (R143). -/
inductive SpillState where
  | opened | closed | collected
  deriving DecidableEq, Repr

/-- States of an alarm entry (R153). -/
inductive AlarmState where
  | normal | activeUnack | activeAck | returnedUnack
  deriving DecidableEq, Repr

/-- Annunciator modes (R156; codes OFF 0 to FLASH_HORN 3). -/
inductive AnnMode where
  | off | steady | flash | flashHorn
  deriving DecidableEq, Repr

/-- Notice types (R25, R185). -/
inductive NoticeType where
  | alarm | spillOpen | spillClose | summary
  deriving DecidableEq, Repr

/-- What the controller commands: at most nine actuators (R26). -/
inductive Actuator where
  | pump (p : Pump) | rake (r : Side) | annunciator
  deriving DecidableEq, Repr

/-- Hold Out (R13). -/
inductive HoldOut where
  | released | asserted | strobe
  deriving DecidableEq, Repr

/-- Loop health (R16). -/
inductive LoopHealth where
  | good | degraded | stalled
  deriving DecidableEq, Repr

/-- The power-return timer (R78): stopped and unexpired, running since a reading, or expired. -/
inductive PowerReturn where
  | stopped | running (since : Nat) | expired
  deriving DecidableEq, Repr

/-! ### Fixed collections -/

/-- One value for each pump number. -/
structure Six (α : Type) where
  p1 : α
  p2 : α
  p3 : α
  p4 : α
  p5 : α
  p6 : α
  deriving DecidableEq, Repr

/-- The value of one pump number. -/
def Six.get {α : Type} (x : Six α) : Pump → α
  | .p1 => x.p1
  | .p2 => x.p2
  | .p3 => x.p3
  | .p4 => x.p4
  | .p5 => x.p5
  | .p6 => x.p6

/-- Replace the value of one pump number. -/
def Six.set {α : Type} (x : Six α) (p : Pump) (v : α) : Six α :=
  match p with
  | .p1 => { x with p1 := v }
  | .p2 => { x with p2 := v }
  | .p3 => { x with p3 := v }
  | .p4 => { x with p4 := v }
  | .p5 => { x with p5 := v }
  | .p6 => { x with p6 := v }

/-- The same value for each pump number. -/
def Six.all {α : Type} (v : α) : Six α := ⟨v, v, v, v, v, v⟩

/-- Work on each value. -/
def Six.map {α β : Type} (f : α → β) (x : Six α) : Six β :=
  ⟨f x.p1, f x.p2, f x.p3, f x.p4, f x.p5, f x.p6⟩

/-- Form a value for each pump number. -/
def Six.ofFn {α : Type} (f : Pump → α) : Six α := ⟨f .p1, f .p2, f .p3, f .p4, f .p5, f .p6⟩

/-- The values in number order. -/
def Six.toList {α : Type} (x : Six α) : List α := [x.p1, x.p2, x.p3, x.p4, x.p5, x.p6]

/-- The pump numbers in order. -/
def pumps : List Pump := [.p1, .p2, .p3, .p4, .p5, .p6]

/-- One value for each of A and B. -/
structure Two (α : Type) where
  a : α
  b : α
  deriving DecidableEq, Repr

/-- The value of one side. -/
def Two.get {α : Type} (x : Two α) : Side → α
  | .a => x.a
  | .b => x.b

/-- Replace the value of one side. -/
def Two.set {α : Type} (x : Two α) (r : Side) (v : α) : Two α :=
  match r with
  | .a => { x with a := v }
  | .b => { x with b := v }

/-- A and B in letter order. -/
def sides : List Side := [.a, .b]

/-- One value for each weir. -/
structure Weirs (α : Type) where
  w1 : α
  w2 : α
  deriving DecidableEq, Repr

/-- The value of one weir. -/
def Weirs.get {α : Type} (x : Weirs α) : Weir → α
  | .w1 => x.w1
  | .w2 => x.w2

/-- Replace the value of one weir. -/
def Weirs.set {α : Type} (x : Weirs α) (w : Weir) (v : α) : Weirs α :=
  match w with
  | .w1 => { x with w1 := v }
  | .w2 => { x with w2 := v }

/-- The weirs in number order. -/
def weirs : List Weir := [.w1, .w2]

/-- One value for each table. -/
structure PerTable (α : Type) where
  station : α
  access : α
  tap : α
  point : α
  storage : α
  pump : α
  band : α
  screen : α
  weir : α
  alarm : α
  deriving DecidableEq, Repr

/-- The value of one table. -/
def PerTable.get {α : Type} (x : PerTable α) : TableId → α
  | .station => x.station
  | .access => x.access
  | .tap => x.tap
  | .point => x.point
  | .storage => x.storage
  | .pump => x.pump
  | .band => x.band
  | .screen => x.screen
  | .weir => x.weir
  | .alarm => x.alarm

/-- Replace the value of one table. -/
def PerTable.set {α : Type} (x : PerTable α) (t : TableId) (v : α) : PerTable α :=
  match t with
  | .station => { x with station := v }
  | .access => { x with access := v }
  | .tap => { x with tap := v }
  | .point => { x with point := v }
  | .storage => { x with storage := v }
  | .pump => { x with pump := v }
  | .band => { x with band := v }
  | .screen => { x with screen := v }
  | .weir => { x with weir := v }
  | .alarm => { x with alarm := v }

/-- The same value for each table. -/
def PerTable.all {α : Type} (v : α) : PerTable α := ⟨v, v, v, v, v, v, v, v, v, v⟩

/-- The values in table order. -/
def PerTable.toList {α : Type} (x : PerTable α) : List α :=
  [x.station, x.access, x.tap, x.point, x.storage, x.pump, x.band, x.screen, x.weir, x.alarm]

/-- The tables in table order (R172). -/
def tableIds : List TableId :=
  [.station, .access, .tap, .point, .storage, .pump, .band, .screen, .weir, .alarm]

/-! ### The tables' fields -/

/-- An entry of the actuator list (R171). -/
structure ActuatorDef where
  node : Byte
  channel : Byte
  drive : Actuator
  deriving DecidableEq, Repr

/-- The role assignments (R55), each a point number or absent. -/
structure Roles where
  wetWell : Option Nat
  river : Option Nat
  highFloat : Option Nat
  lowFloat : Option Nat
  supply : Option Nat
  feedback : Six (Option Nat)
  current : Six (Option Nat)
  selector : Six (Option Nat)
  f1 : Six (Option Nat)
  f2 : Six (Option Nat)
  f3 : Six (Option Nat)
  upstream : Two (Option Nat)
  downstream : Two (Option Nat)
  park : Two (Option Nat)
  rakeCurrent : Two (Option Nat)
  weirLevel : Weirs (Option Nat)
  deriving DecidableEq, Repr

/-- The STATION table (R171). -/
structure StationTable where
  gapLimit : Nat
  stallLimit : Nat
  upper : Nat
  lower : Nat
  restrobe : Nat
  lapTimeout : Nat
  gateway : Byte
  actuators : List ActuatorDef
  installed : Six Bool
  mainsSlots : Nat
  generatorSlots : Nat
  powerReturn : Nat
  roles : Roles
  deriving DecidableEq, Repr

/-- An entry of the ACCESS table (R165). -/
structure AccessEntry where
  source : Byte
  permission : Permission
  deriving DecidableEq, Repr

/-- A tap (R40). -/
structure Tap where
  node : Byte
  channel : Byte
  target : Nat
  gain : Int
  offset : Int
  windowMin : Int
  windowMax : Int
  policy : Policy
  forwarding : Forwarding
  deriving DecidableEq, Repr

/-- A point definition (R52). -/
structure PointDef where
  number : Nat
  cls : PointClass
  stale : Nat
  fail : Nat
  substitute : Option Nat
  alarmEnable : Bool
  deriving DecidableEq, Repr

/-- A curve: breakpoints (x, y), x strictly increasing (R60). -/
abbrev Curve := List (Int × Int)

/-- The STORAGE table (R62). -/
structure StorageTable where
  curve : Curve
  k : Nat
  window : Nat
  deriving DecidableEq, Repr

/-- Class and action of a source (R109). -/
structure SourceSetting where
  cls : SourceClass
  action : SourceAction
  deriving DecidableEq, Repr

/-- Settings of a fault point (R109). -/
structure FaultSetting where
  polarity : Polarity
  setting : SourceSetting
  deriving DecidableEq, Repr

/-- A pump's entry in the PUMP table (R94, R103, R109, R184). -/
structure PumpEntry where
  pump : Pump
  curve : Curve
  minRun : Nat
  minOff : Nat
  startConfirm : Nat
  stopConfirm : Nat
  startLimit : Nat
  f1 : FaultSetting
  f2 : FaultSetting
  f3 : FaultSetting
  currentLimit : Nat
  currentDelay : Nat
  overcurrent : SourceSetting
  uncommanded : SourceSetting
  deriving DecidableEq, Repr

/-- The PUMP table (R184). -/
structure PumpTable where
  stagger : Nat
  design : Int
  allowance : Int
  entries : List PumpEntry
  deriving DecidableEq, Repr

/-- A band (R97). -/
structure Band where
  start : Int
  stop : Int
  lead : Int
  count : Nat
  deriving DecidableEq, Repr

/-- The BAND table (R97). -/
structure BandTable where
  bands : List Band
  failedCount : Nat
  deriving DecidableEq, Repr

/-- A screen's settings (R122). -/
structure ScreenDef where
  rakeStart : Int
  blinded : Int
  clear : Int
  interval : Nat
  travelLimit : Nat
  jamLimit : Nat
  jamDelay : Nat
  reverseTime : Nat
  retryLimit : Nat
  deriving DecidableEq, Repr

/-- The SCREEN table (R122). -/
structure ScreenTable where
  screens : Two (Option ScreenDef)
  oneCap : Nat
  twoCap : Nat
  deriving DecidableEq, Repr

/-- A weir's settings (R66, R137). -/
structure WeirDef where
  crest : Int
  curve : Curve
  onsetConfirm : Nat
  hysteresis : Int
  endConfirm : Nat
  merge : Nat
  deriving DecidableEq, Repr

/-- The WEIR table (R137). -/
abbrev WeirTable := Weirs (Option WeirDef)

/-- The ALARM table (R160). -/
structure AlarmTable where
  priorities : List Nat
  threshold : Nat
  renotify : Nat
  summary : Nat
  level : Int
  deriving DecidableEq, Repr

/-- An active copy: the image and its fields (R168, R169). -/
structure Active (α : Type) where
  image : List Byte
  data : α
  deriving DecidableEq, Repr

/-! ### Loop port and transit section -/

/-- The receive assembler (R4). IN_FRAME holds the characters received so far, DEST first. -/
inductive Assembler where
  | idle | inFrame (chars : List Byte) | discard | brk
  deriving DecidableEq, Repr

/-- What a posting gives for the outcome to find its way back (R25). `restart` marks the response
that a pending restart waits for (R177). -/
inductive Ref where
  | command (a : Actuator) (code : CommandCode) (arg : Byte)
  | notice (t : NoticeType) (ref : Nat)
  | response (tag : Byte) (restart : Bool)
  deriving DecidableEq, Repr

/-- An own frame waiting in its class (R25). `dest` is absent for a notice posted while no STATION
table names the gateway (log 7). -/
structure OwnFrame where
  dest : Option Byte
  payload : List Byte
  ref : Ref
  retry : Nat
  deriving DecidableEq, Repr

/-- The transmitter (R11), with the frame being sent (R26, R31). -/
inductive Tx where
  | idle
  | transit (f : Frame)
  | own (o : OwnFrame) (f : Frame) (superseded : Bool)
  | breakHold
  deriving DecidableEq, Repr

/-- The thirteen line counters (R15). -/
structure LineCounters where
  goodFrames : Nat
  stray : Nat
  markerAborts : Nat
  lengthErrors : Nat
  checkErrors : Nat
  malformed : Nat
  parityErrors : Nat
  framingErrors : Nat
  gapAborts : Nat
  breakAborts : Nat
  breaks : Nat
  longBreaks : Nat
  lostToBreak : Nat
  deriving DecidableEq, Repr

/-- The loop port (01_the_station_loop.md). `deferred` is the receiver's judgement deferred (R2). Timers hold
the reading of `Chip.uptime` at their start, but `gapTimer` a reading in milliseconds (R6, log 21). -/
structure LoopPort where
  assembler : Assembler
  deferred : Bool
  gapTimer : Option Nat
  handed : List Frame
  breakReset : Bool
  tx : Tx
  stallTimer : Option Nat
  loopStall : Bool
  holdOut : HoldOut
  restrobe : Nat
  healthTimer : Option Nat
  line : LineCounters
  deriving DecidableEq, Repr

/-- An entry of the lap list (R31); `frame.seq` is its SEQ, `sentAt` in milliseconds. -/
structure LapEntry where
  own : OwnFrame
  frame : Frame
  superseded : Bool
  sentAt : Nat
  deriving DecidableEq, Repr

/-- An entry of the command gate list (R36). -/
structure GateEntry where
  node : Byte
  channel : Byte
  drive : Actuator
  foreignCount : Nat
  deriving DecidableEq, Repr

/-- The transit counters (R39) but for the foreign command counts, which the gate list keeps. -/
structure TransitCounters where
  orphans : Nat
  contentErrors : Nat
  unlisted : Nat
  shed : Nat
  timeRefused : Nat
  overflow : Nat
  noticesLost : Nat
  strayOwn : Nat
  retries : Nat
  undelivered : Nat
  unconfirmed : Nat
  givenUp : Nat
  deriving DecidableEq, Repr

/-- Notices posted within the present event, which R27 orders at its end. Model's own; empty between
events (log 11). -/
structure Outbox where
  retried : List OwnFrame
  spill : List (Weir × OwnFrame)
  alarm : List (Nat × OwnFrame)
  summary : List OwnFrame
  deriving DecidableEq, Repr

/-- The transit section (02_frames_in_transit.md). The classes hold their unsent members, head first. -/
structure Transit where
  queue : List Frame
  actuator : List OwnFrame
  notice : List OwnFrame
  response : List OwnFrame
  fairness : Nat
  nextSeq : Byte
  lap : List LapEntry
  gate : List GateEntry
  count : TransitCounters
  outbox : Outbox
  deriving DecidableEq, Repr

/-! ### Points and flow -/

/-- The state of a point record (section 3.4). -/
structure PointRec where
  value : Int
  accepted : Option (Int × Quality)
  quality : Quality
  age : Nat
  forced : Bool
  deriving DecidableEq, Repr

/-- The point section (03_taps_and_points.md): 48 records. -/
structure Points where
  recs : List PointRec
  rejected : Nat
  toUndefined : Nat
  deriving DecidableEq, Repr

/-- An entry of the volume history ring (R67). -/
structure RingEntry where
  volume : Int
  pumped : Int
  spilled : Int
  deriving DecidableEq, Repr

/-- The head of a balance record (R63). -/
structure Head where
  value : Int
  discharge : DischargeBasis
  well : LevelBasis
  deriving DecidableEq, Repr

/-- A weir's part of a balance record (R66): the head with its level-usable mark, and the flow. -/
structure WeirFlow where
  head : Option Int
  usable : Bool
  flow : Int
  deriving DecidableEq, Repr

/-- The balance record (R59). -/
structure BalanceRecord where
  running : Nat
  wetWell : Option (Int × Quality)
  level : Int
  basis : LevelBasis
  volume : Option Int
  head : Option Head
  flows : Six Int
  total : Int
  weirs : Weirs WeirFlow
  qin : Int
  qinQuality : FlowQuality
  deriving DecidableEq, Repr

/-- The flow accountant (04_storage_and_flow_accounting.md). `filter` is L_f16 while initialised. -/
structure Flow where
  filter : Option Int
  held : Option Int
  ring : List RingEntry
  record : BalanceRecord
  totals : Six Nat
  deriving DecidableEq, Repr

/-! ### Drives -/

/-- The drive arbiter (05_drive_slots_and_supply.md). `stagger` is absent once expired. -/
structure Arbiter where
  supply : Supply
  stagger : Option Nat
  powerReturn : PowerReturn
  preempt : Two Bool
  deriving DecidableEq, Repr

/-- The stored states of a pump's fault sources (R109). FAIL_TO_STOP is held as raised; it is present
while the run feedback is active as well (R114). -/
structure Sources where
  f1 : Bool
  f2 : Bool
  f3 : Bool
  overcurrent : Bool
  uncommandedStop : Bool
  commandLost : Bool
  failToStart : Bool
  failToStopRaised : Bool
  deriving DecidableEq, Repr

/-- A pump's record (R85), with what pump protection holds for it (07_pump_protection.md). -/
structure PumpRec where
  mgmt : Mode
  selector : Mode
  state : PumpState
  latch : Option FaultSource
  command : CommandCode
  confirmed : Bool
  minRun : Option Nat
  minOff : Option Nat
  startConfirm : Option Nat
  stopConfirm : Option Nat
  history : List Nat
  runSeconds : Nat
  sources : Sources
  overTimer : Option Nat
  uncommanded : Nat
  deriving DecidableEq, Repr

/-- The demand record (R99). -/
structure DemandRecord where
  d : Nat
  reason : DemandCase
  uncapped : Nat
  cap : Option Nat
  deriving DecidableEq, Repr

/-- The pump sequencer (06_pump_sequencing.md). -/
structure Sequencer where
  pumps : Six PumpRec
  duty : List Pump
  run : List Pump
  engaged : List Bool
  demand : DemandRecord
  highLevel : Bool
  backupFloat : Bool
  deriving DecidableEq, Repr

/-- A screen record (R123): measured while the differential is present. `atStart` says whether it met the
rake start differential at the last balance update (R127, R134; DEDUCED, log 48). -/
structure ScreenRec where
  differential : Option Int
  atStart : Bool
  blinded : Bool
  deriving DecidableEq, Repr

/-- A rake record (R125, R129, R132, R124). -/
structure RakeRec where
  mgmt : Mode
  state : RakeState
  latch : Option JamCause
  attempts : Nat
  parkSeen : Bool
  cause : JamCause
  travel : Option Nat
  reverse : Option Nat
  jam : Option Nat
  command : CommandCode
  confirmed : Bool
  lost : Bool
  cycles : Nat
  interval : Nat
  deriving DecidableEq, Repr

/-- The screen controller (08_screens_and_rakes.md). -/
structure Screens where
  screens : Two ScreenRec
  rakes : Two RakeRec
  deriving DecidableEq, Repr

/-! ### Spills -/

/-- An onset capture (R137): clock time, running seconds, and whether the clock was SET. -/
structure OnsetCapture where
  clock : Nat
  running : Nat
  clockSet : Bool
  deriving DecidableEq, Repr

/-- An end candidate capture (R137). -/
structure Capture where
  clock : Nat
  running : Nat
  deriving DecidableEq, Repr

/-- A weir record (R137). -/
structure WeirRec where
  state : WeirState
  onset : Option OnsetCapture
  onsetCount : Nat
  pendingLitres : Int
  pendingPeak : Int
  clockSetMark : Bool
  candidate : Option Capture
  endCount : Nat
  deriving DecidableEq, Repr

/-- Flags of a spill record (R143). -/
structure SpillFlags where
  merged : Bool
  follows : Bool
  clockSet : Bool
  clockUnset : Bool
  levelDoubt : Bool
  tableChanged : Bool
  logLoss : Bool
  volumeSaturated : Bool
  deriving DecidableEq, Repr

/-- End times and duration (R143). -/
structure SpillEnd where
  clock : Nat
  running : Nat
  duration : Nat
  deriving DecidableEq, Repr

/-- A spill record (R143). -/
structure SpillRec where
  number : Nat
  weir : Weir
  state : SpillState
  startClock : Nat
  startRunning : Nat
  ending : Option SpillEnd
  peak : Int
  volume : Nat
  flags : SpillFlags
  deriving DecidableEq, Repr

/-- The spill monitor (09_overflow_and_spill_records.md). -/
structure Spill where
  weirs : Weirs WeirRec
  log : List SpillRec
  nextNumber : Nat
  lostCount : Nat
  lossToFlag : Bool
  collectionOwed : Bool
  falseOnsets : Weirs Nat
  deriving DecidableEq, Repr

/-! ### Alarms, clock, requests, tables -/

/-- An alarm entry (R153); the priority is read from the ALARM table. -/
structure AlarmEntry where
  condition : Bool
  state : AlarmState
  firstActive : Option Nat
  lastChange : Option Nat
  count : Nat
  renotify : Option Nat
  deriving DecidableEq, Repr

/-- The alarm unit (R153, R156, R157): 73 entries. -/
structure Alarms where
  entries : List AlarmEntry
  silence : Bool
  posted : Option AnnMode
  confirmed : Bool
  deriving DecidableEq, Repr

/-- The report section (R161). -/
structure Report where
  summaryTimer : Option Nat
  deriving DecidableEq, Repr

/-- The station clock (R162). -/
structure Clock where
  running : Nat
  offset : Nat
  set : Bool
  deriving DecidableEq, Repr

/-- A pending restart (R177). -/
structure RestartPending where
  since : Nat
  responseGone : Bool
  deriving DecidableEq, Repr

/-- The request handler (R166, R177, R178). -/
structure Handler where
  restart : Option RestartPending
  denied : Nat
  malformed : Nat
  deriving DecidableEq, Repr

/-- A shadow (R168, R169): segments held by index, or the whole image waiting for its method. -/
inductive Shadow where
  | empty
  | loading (segments : List (Option (List Byte)))
  | waiting (segments : List (List Byte)) (method : Method)
  deriving DecidableEq, Repr

/-- A table's place in the store (R173): never written, an image that agrees with its check, or one
that fails it. -/
inductive StoredImage where
  | blank | intact (image : List Byte) | failing
  deriving DecidableEq, Repr

/-- The active copies (R168). -/
structure ActiveTables where
  station : Option (Active StationTable)
  access : Option (Active (List AccessEntry))
  tap : Option (Active (List Tap))
  point : Option (Active (List PointDef))
  storage : Option (Active StorageTable)
  pump : Option (Active PumpTable)
  band : Option (Active BandTable)
  screen : Option (Active ScreenTable)
  weir : Option (Active WeirTable)
  alarm : Option (Active AlarmTable)
  deriving DecidableEq, Repr

/-- The table manager (11_tables_requests_and_start_up.md). -/
structure Tables where
  active : ActiveTables
  shadows : PerTable Shadow
  outcomes : PerTable Activation
  marks : PerTable Bool
  stored : PerTable StoredImage
  queue : List (TableId × List Byte)
  writing : Option (TableId × List Byte)
  refused : Nat
  writeFailures : Nat
  mode : StationMode
  wanted : WantedMode
  settling : Option Nat
  deriving DecidableEq, Repr

/-- Power, pins, straps and the model's time base (R1, R11, R176; log 3). -/
structure Chip where
  mainPower : Bool
  resetLow : Bool
  ownAddress : Byte
  rate : BitVec 2
  holdIn : Bool
  checkAgrees : Bool
  uptime : Nat
  millis : Nat
  deriving DecidableEq, Repr

/-! ### The machine -/

/-- The state of the controller. `pending` is the queue of waiting commands, first in, first out. -/
structure State where
  pending : List Instr
  chip : Chip
  loop : LoopPort
  transit : Transit
  points : Points
  flow : Flow
  arbiter : Arbiter
  seq : Sequencer
  screens : Screens
  spill : Spill
  alarms : Alarms
  report : Report
  clock : Clock
  handler : Handler
  tables : Tables
  deriving DecidableEq, Repr

/-- Reasons to stop. -/
inductive Fault where
  /-- Raised by FRAME_RECEIVED when its operand is no good frame in the sense of R4 (more than 40
  payload characters, or an invalid address). Safe: the assembler never hands over such a frame, so
  the controller has no behaviour there that the stop could hide (log 26). -/
  | notAGoodFrame
  deriving DecidableEq, Repr

/-- Refusals. -/
inductive Refusal where
  /-- A command with no meaning yet, by its mnemonic in spec/opcode_table.json. Safe: nothing is
  claimed of it. Raised by `exec` alone. -/
  | notModelled (mnemonic : String)
  deriving DecidableEq, Repr

/-! ### Start values -/

/-- Every line counter at 0 (R15). -/
def LineCounters.zero : LineCounters := ⟨0, 0, 0, 0, 0, 0, 0, 0, 0, 0, 0, 0, 0⟩

/-- Every transit counter at 0 (R39). -/
def TransitCounters.zero : TransitCounters := ⟨0, 0, 0, 0, 0, 0, 0, 0, 0, 0, 0, 0⟩

/-- No notice posted. -/
def Outbox.empty : Outbox := ⟨[], [], [], []⟩

/-- A point record at a start (R57). -/
def PointRec.start : PointRec := ⟨0, none, .none, 0, false⟩

/-- The point section at a start (R57). -/
def Points.start : Points := ⟨List.replicate 48 PointRec.start, 0, 0⟩

/-- A weir's part of the record at a start (R73). -/
def WeirFlow.absent : WeirFlow := ⟨none, false, 0⟩

/-- The standing record at a start (R73): the wet-well level 0 with quality NONE, absent without its role
(R59, log 37). -/
def BalanceRecord.start (wellRole : Bool) : BalanceRecord :=
  { running := 0, wetWell := if wellRole then some (0, .none) else none, level := 0, basis := .none,
    volume := none, head := none, flows := Six.all 0, total := 0, weirs := ⟨WeirFlow.absent, WeirFlow.absent⟩, qin := 0,
    qinQuality := .invalid }

/-- The flow accountant at a start (R73), with the pumped totals it then has (R65). -/
def Flow.start (wellRole : Bool) (totals : Six Nat) : Flow :=
  ⟨none, none, [], BalanceRecord.start wellRole, totals⟩

/-- The drive arbiter at a start (R84). -/
def Arbiter.start : Arbiter := ⟨.mains, none, .stopped, ⟨false, false⟩⟩

/-- Every source absent (R121). -/
def Sources.absent : Sources := ⟨false, false, false, false, false, false, false, false⟩

/-- The sources of a pump started afresh (R120, R121): absent; FAIL_TO_STOP stays raised while the latch holds
it as its cause. -/
def Sources.fresh (latch : Option FaultSource) : Sources :=
  { Sources.absent with failToStopRaised := decide (latch = some .failToStop) }

/-- A pump's record at a start (R108, R121) with its retained fields. -/
def PumpRec.start (mgmt : Mode) (latch : Option FaultSource) (history : List Nat)
    (runSeconds : Nat) : PumpRec :=
  { mgmt, selector := .auto, state := .hand, latch, command := .stop, confirmed := false,
    minRun := none, minOff := none, startConfirm := none, stopConfirm := none, history, runSeconds,
    sources := Sources.fresh latch, overTimer := none, uncommanded := 0 }

/-- A pump's record at a cold start (R108). -/
def PumpRec.cold : PumpRec := PumpRec.start .auto none [] 0

/-- The demand record at a start (R99). -/
def DemandRecord.start : DemandRecord := ⟨0, .failedLevel, 0, none⟩

/-- A screen record at a start (R136). -/
def ScreenRec.start : ScreenRec := ⟨none, false, false⟩

/-- A rake record at a start (R136) with its retained fields. -/
def RakeRec.start (mgmt : Mode) (latch : Option JamCause) (cycles : Nat) : RakeRec :=
  { mgmt, state := .hand, latch, attempts := 0, parkSeen := false, cause := .travel, travel := none,
    reverse := none, jam := none, command := .stop, confirmed := false, lost := false, cycles,
    interval := 0 }

/-- A rake record at a cold start (R136). -/
def RakeRec.cold : RakeRec := RakeRec.start .auto none 0

/-- A weir record in DRY, its working fields cleared (R137). -/
def WeirRec.dry : WeirRec := ⟨.dry, none, 0, 0, 0, false, none, 0⟩

/-- The spill monitor at a cold start (R152). -/
def Spill.cold : Spill := ⟨⟨WeirRec.dry, WeirRec.dry⟩, [], 1, 0, true, true, ⟨0, 0⟩⟩

/-- An alarm entry at a start (R164) with its retained count. -/
def AlarmEntry.start (count : Nat) : AlarmEntry := ⟨false, .normal, none, none, count, none⟩

/-- The alarm unit as R164 first sets it, with the retained counts. -/
def Alarms.start (counts : List Nat) : Alarms := ⟨counts.map AlarmEntry.start, false, none, false⟩

/-- No flag set. -/
def SpillFlags.clear : SpillFlags := ⟨false, false, false, false, false, false, false, false⟩

/-- No table active. -/
def ActiveTables.absent : ActiveTables :=
  ⟨none, none, none, none, none, none, none, none, none, none⟩

/-- The loop port at a start (R2, R4, R11, R12, R13, R15, R16), the model's readings at 0. -/
def LoopPort.start : LoopPort :=
  { assembler := .idle, deferred := false, gapTimer := some 0, handed := [], breakReset := false, tx := .idle, stallTimer := none,
    loopStall := false, holdOut := .released, restrobe := 0, healthTimer := none,
    line := LineCounters.zero }

/-- The transit section at a start (R39), before the gate list is built. -/
def Transit.start : Transit :=
  { queue := [], actuator := [], notice := [], response := [], fairness := 0, nextSeq := 0, lap := [],
    gate := [], count := TransitCounters.zero, outbox := Outbox.empty }

/-- The ALARM notice of entry 24 that the cold start posts (R158, R164, R185): ACTIVE_UNACK, priority
2, condition present, clock UNSET, both times present and 0, count 1. -/
def storeFaultNotice : OwnFrame :=
  { dest := none, payload := [1, 24, 1, 2, 25, 0, 0, 0, 0, 0, 0, 0, 0, 1],
    ref := .notice .alarm 24, retry := 0 }

/-- An entry made active by the cold start (R154): times 0, count 1. -/
def AlarmEntry.atStart : AlarmEntry := ⟨true, .activeUnack, some 0, some 0, 1, none⟩

/-- The state a cold start leaves in a part with a blank table store, open straps and Hold In released
(log 1): every table absent with its store fault mark set, so that STORE_FAULT and LOG_LOSS are
present (R152, R164, R176), the derived annunciator mode FLASH posted (R156, R164), the station in
STANDBY with wanted mode AUTOMATIC (R176). -/
def State.reset : State :=
  { pending := []
    chip :=
      { mainPower := true, resetLow := false, ownAddress := 239, rate := 0, holdIn := false,
        checkAgrees := true, uptime := 0, millis := 0 }
    loop := LoopPort.start
    transit := { Transit.start with notice := [storeFaultNotice] }
    points := Points.start
    flow := Flow.start false (Six.all 0)
    arbiter := Arbiter.start
    seq :=
      { pumps := Six.all PumpRec.cold, duty := [], run := [], engaged := [],
        demand := DemandRecord.start, highLevel := false, backupFloat := false }
    screens := ⟨⟨ScreenRec.start, ScreenRec.start⟩, ⟨RakeRec.cold, RakeRec.cold⟩⟩
    spill := Spill.cold
    alarms :=
      { entries := List.replicate 23 (AlarmEntry.start 0) ++
          [AlarmEntry.atStart, AlarmEntry.atStart] ++ List.replicate 48 (AlarmEntry.start 0)
        silence := false, posted := some .flash, confirmed := false }
    report := ⟨some 0⟩
    clock := ⟨0, 0, false⟩
    handler := ⟨none, 0, 0⟩
    tables :=
      { active := ActiveTables.absent, shadows := PerTable.all .empty,
        outcomes := PerTable.all .none, marks := PerTable.all true, stored := PerTable.all .blank,
        queue := [], writing := none, refused := 0, writeFailures := 0, mode := .standby,
        wanted := .automatic, settling := none } }

end Sys2Proof.Machine
end

