-- ==== Sys2Proof/Machine/Operands.lean ====
section
/-! DEFINITION. Operand forms: how figures, frames, codes and request parameters stand in the
characters of the loop (12_frame_layouts_and_connections.md, R179 to R183), and the one CHECK
computation (R180). -/

namespace Sys2Proof.Machine

/-! ### Figures (section 12, high byte first) -/

/-- One character. -/
def u8 (n : Nat) : List Byte := [BitVec.ofNat 8 n]

/-- Two characters, high byte first. -/
def u16 (n : Nat) : List Byte := [BitVec.ofNat 8 (n / 256), BitVec.ofNat 8 n]

/-- Four characters, high byte first. -/
def u32 (n : Nat) : List Byte :=
  [BitVec.ofNat 8 (n / 16777216), BitVec.ofNat 8 (n / 65536), BitVec.ofNat 8 (n / 256),
    BitVec.ofNat 8 n]

/-- Two characters in two's complement. -/
def s16 (i : Int) : List Byte := u16 (BitVec.ofInt 16 i).toNat

/-- A mark as one character: 1 where it is present, set or yes, 0 where not (DESIGN CHOICE, log 16). -/
def flag (b : Bool) : List Byte := [if b then 1 else 0]

/-- A field that may be absent (R183): presence character, then the field, its characters 0 when
absent. -/
def maybe {α : Type} (width : Nat) (enc : α → List Byte) : Option α → List Byte
  | none => 0 :: List.replicate width 0
  | some v => 1 :: enc v

/-- A list of varying length, preceded by a count character (R183). -/
def counted {α : Type} (enc : α → List Byte) (l : List α) : List Byte :=
  u8 l.length ++ l.flatMap enc

/-- Two characters joined, high byte first. -/
def join16 (hi lo : Byte) : BitVec 16 := hi ++ lo

/-- Four characters joined as an unsigned figure, high byte first. -/
def join32 (a b c d : Byte) : Nat :=
  ((a.toNat * 256 + b.toNat) * 256 + c.toNat) * 256 + d.toNat

/-- The high character of a two-character figure. -/
def hi16 (w : BitVec 16) : Byte := w.extractLsb' 8 8

/-- The low character of a two-character figure. -/
def lo16 (w : BitVec 16) : Byte := w.extractLsb' 0 8

/-! ### CHECK (R180) -/

/-- One bit of the CRC register with generator x^16 + x^12 + x^5 + 1, bit 15 holding the coefficient of
x^15 (R180; DESIGN CHOICE, log 8). -/
def crcBit (reg : BitVec 16) (bit : Bool) : BitVec 16 :=
  if reg.msb != bit then (reg <<< 1) ^^^ 0x1021 else reg <<< 1

/-- One character of the CRC, its eight data bits least significant first (R180). -/
def crcByte (reg : BitVec 16) (b : Byte) : BitVec 16 :=
  [0, 1, 2, 3, 4, 5, 6, 7].foldl (fun r i => crcBit r (b.getLsbD i)) reg

/-- The loop CRC over characters (R180): initial value all ones, no finishing. -/
def crc (cs : List Byte) : BitVec 16 := cs.foldl crcByte 0xFFFF

end Sys2Proof.Machine

namespace Sys2Proof

open Machine

/-! ### Characters on the line (R2) -/

/-- The parity bit (R2): it makes the number of ones among data, marker and parity even. -/
def parityBit (data : Byte) (marker : Bool) : Bool :=
  [0, 1, 2, 3, 4, 5, 6, 7].foldl (fun p i => p != data.getLsbD i) marker

/-- What follows the data bits of a character as it is sent (R2): the marker, the parity bit, the stop bit at
mark. -/
def sentEnding (data : Byte) (marker : Bool) : CharEnding := ⟨marker, parityBit data marker, true⟩

/-- The twelve bit times of a character in their order on the line (R2): the start bit at space, the data bits
least significant first, the marker, the parity bit, the stop bit. -/
def bitTimes (data : Byte) (e : CharEnding) : List Bool :=
  [false] ++ [0, 1, 2, 3, 4, 5, 6, 7].map (fun i => data.getLsbD i) ++ [e.marker, e.parity, e.stop]

/-- The receiver's judgement at the stop-bit position (R2): a good character, a parity error, or judgement
deferred. -/
inductive Judged where
  | good | parityError | deferred
  deriving DecidableEq, Repr

/-- A character judged (R2): with the stop bit at space, parity is not judged. -/
def judgeChar (data : Byte) (e : CharEnding) : Judged :=
  if e.stop = false then .deferred
  else if e.parity = parityBit data e.marker then .good
  else .parityError

/-! ### Frames (R179) -/

/-- The characters of a frame before CHECK. -/
def Frame.body (f : Frame) : List Byte :=
  [f.dest, f.src, f.kindFlags, f.seq] ++ u8 f.payload.length ++ f.payload

/-- The characters of a frame, CHECK sent high byte first (R179). -/
def Frame.chars (f : Frame) : List Byte :=
  f.body ++ [hi16 (crc f.body), lo16 (crc f.body)]

/-- The characters of a frame on the line (R2, R179): DEST with marker 1, the others with marker 0. -/
def Frame.line (f : Frame) : List (Byte × CharEnding) :=
  match f.chars with
  | [] => []
  | d :: rest => (d, sentEnding d true) :: rest.map fun c => (c, sentEnding c false)

/-- The bit times that carry a frame, its characters back to back (R2). -/
def Frame.bitTimes (f : Frame) : List Bool := f.line.flatMap fun c => Sys2Proof.bitTimes c.1 c.2

/-- The length of a frame in characters: LEN + 7. -/
def Frame.length (f : Frame) : Nat := f.payload.length + 7

/-- The kind code, bits 0 to 3 of KIND/FLAGS (R179). -/
def Frame.kindCode (f : Frame) : Nat := (f.kindFlags.extractLsb' 0 4).toNat

/-- The pass mark, bit 4 (R179). -/
def Frame.passMark (f : Frame) : Bool := f.kindFlags.getLsbD 4

/-- The taken mark, bit 5 (R179). -/
def Frame.takenMark (f : Frame) : Bool := f.kindFlags.getLsbD 5

/-- The six kinds (R179). -/
inductive Machine.Kind where
  | sample | command | manage | response | notice | time
  deriving DecidableEq, Repr

/-- The kind a code names, if any (R179). -/
def Frame.kind (f : Frame) : Option Kind :=
  match f.kindCode with
  | 1 => some .sample
  | 2 => some .command
  | 3 => some .manage
  | 4 => some .response
  | 5 => some .notice
  | 6 => some .time
  | _ => none

/-- The copy the controller forwards (R23): the pass mark set, all else as it arrived (CHECK follows
from the characters). -/
def Frame.withPassMark (f : Frame) : Frame := { f with kindFlags := f.kindFlags ||| 0x10 }

/-- Pump numbers. -/
def Pump.number : Pump → Nat
  | .p1 => 1
  | .p2 => 2
  | .p3 => 3
  | .p4 => 4
  | .p5 => 5
  | .p6 => 6

end Sys2Proof

namespace Sys2Proof.Machine

/-- The frame the received characters spell, if LEN and the count agree, with the CHECK received. -/
def frameOfChars (cs : List Byte) : Option (Frame × BitVec 16) :=
  match cs with
  | dest :: src :: kf :: seq :: len :: rest =>
    if rest.length = len.toNat + 2 then
      match rest.drop len.toNat with
      | [hi, lo] => some (⟨dest, src, kf, seq, rest.take len.toNat⟩, join16 hi lo)
      | _ => none
    else none
  | _ => none

/-! ### Codes (R181 to R185) -/

/-- Command codes (R181). -/
def CommandCode.code : CommandCode → Byte
  | .stop => 0
  | .run => 1
  | .runReverse => 2
  | .annunciate => 3

/-- Annunciator modes (R181). -/
def AnnMode.code : AnnMode → Byte
  | .off => 0
  | .steady => 1
  | .flash => 2
  | .flashHorn => 3

/-- Modes (R182). -/
def Mode.code : Mode → Nat
  | .off => 0
  | .hand => 1
  | .auto => 2

/-- The mode a code names (R182). -/
def modeOfCode (b : Byte) : Option Mode :=
  match b.toNat with
  | 0 => some .off
  | 1 => some .hand
  | 2 => some .auto
  | _ => none

/-- The pump a number names. -/
def pumpOfNumber : Nat → Option Pump
  | 1 => some .p1
  | 2 => some .p2
  | 3 => some .p3
  | 4 => some .p4
  | 5 => some .p5
  | 6 => some .p6
  | _ => none

/-- A drive that a request can name: a pump or a rake (R182). -/
inductive Drive where
  | pump (p : Pump) | rake (r : Side)
  deriving DecidableEq, Repr

/-- The drive a code names in a request (R182); 9 names none. -/
def driveOfCode (b : Byte) : Option Drive :=
  match b.toNat with
  | 7 => some (.rake .a)
  | 8 => some (.rake .b)
  | n => (pumpOfNumber n).map .pump

/-- The actuator a code names in a STATION image (R182). -/
def actuatorOfCode (n : Nat) : Option Actuator :=
  match n with
  | 7 => some (.rake .a)
  | 8 => some (.rake .b)
  | 9 => some .annunciator
  | n => (pumpOfNumber n).map .pump

/-- The actuators in the order of R38: pumps 1 to 6, rake A, rake B, annunciator. -/
def actuators : List Actuator :=
  pumps.map .pump ++ [.rake .a, .rake .b, .annunciator]

/-- Table codes (R182). -/
def TableId.code : TableId → Nat
  | .station => 1
  | .access => 2
  | .tap => 3
  | .point => 4
  | .storage => 5
  | .pump => 6
  | .band => 7
  | .screen => 8
  | .weir => 9
  | .alarm => 10

/-- The table a code names (R182). -/
def tableOfCode (b : Byte) : Option TableId :=
  match b.toNat with
  | 1 => some .station
  | 2 => some .access
  | 3 => some .tap
  | 4 => some .point
  | 5 => some .storage
  | 6 => some .pump
  | 7 => some .band
  | 8 => some .screen
  | 9 => some .weir
  | 10 => some .alarm
  | _ => none

/-- The activation method a code names (R182). -/
def methodOfCode (b : Byte) : Option Method :=
  match b.toNat with
  | 0 => some .immediate
  | 1 => some .nextPeriod
  | 2 => some .quiet
  | _ => none

/-- Statuses of a response (R166, R182). -/
inductive Status where
  | done | denied | malformed | badState | notFound | notClosed | rejected
  deriving DecidableEq, Repr

/-- Status codes (R182). -/
def Status.code : Status → Nat
  | .done => 0
  | .denied => 1
  | .malformed => 2
  | .badState => 3
  | .notFound => 4
  | .notClosed => 5
  | .rejected => 6

/-- Reason codes of a rejection (R170, R182). -/
inductive Reason where
  | range | order | duplicate | reference | size | check
  deriving DecidableEq, Repr

/-- Reason codes (R182). -/
def Reason.code : Reason → Nat
  | .range => 1
  | .order => 2
  | .duplicate => 3
  | .reference => 4
  | .size => 5
  | .check => 6

/-- Permissions coded from 0 in their order (R183). -/
def Permission.code : Permission → Nat
  | .view => 0
  | .operate => 1
  | .configure => 2

/-- Whether a permission includes another (R165). -/
def Permission.covers (held need : Permission) : Bool := decide (need.code ≤ held.code)

/-! ### Requests (R166, R182) -/

/-- A request by its parameters, as characters; two-character figures whole. -/
inductive Request where
  | readStatus (part : Option Byte)
  | readCounters (group : Byte) (part : Option Byte)
  | readPoint (first count : Byte) (part : Option Byte)
  | readPump (pump : Byte) (part : Option Byte)
  | readRake (drive : Byte) (part : Option Byte)
  | readFlow (part : Option Byte)
  | readAlarms (first count : Byte) (part : Option Byte)
  | readSpill (form : Byte) (number : BitVec 16) (part : Option Byte)
  | readTable (table copy index : Byte) (part : Option Byte)
  | setDriveMode (drive mode : Byte)
  | resetDrive (drive : Byte)
  | rakeNow (drive : Byte)
  | forcePoint (point : Byte) (value : BitVec 16)
  | releasePoint (point : Byte)
  | ackAlarm (entry : Byte)
  | silence
  | collectSpill (number : BitVec 16)
  | tableBegin (table count : Byte)
  | tableSegment (table index : Byte) (data : List Byte)
  | tableCommit (table method : Byte) (check : BitVec 16)
  | tableAbandon (table : Byte)
  | setStationMode (mode : Byte)
  | clearCounters
  | restart
  deriving DecidableEq, Repr

/-- Request codes (R182). -/
def Request.code : Request → Byte
  | .readStatus .. => 1
  | .readCounters .. => 2
  | .readPoint .. => 3
  | .readPump .. => 4
  | .readRake .. => 5
  | .readFlow .. => 6
  | .readAlarms .. => 7
  | .readSpill .. => 8
  | .readTable .. => 9
  | .setDriveMode .. => 16
  | .resetDrive .. => 17
  | .rakeNow .. => 18
  | .forcePoint .. => 19
  | .releasePoint .. => 20
  | .ackAlarm .. => 21
  | .silence => 22
  | .collectSpill .. => 23
  | .tableBegin .. => 32
  | .tableSegment .. => 33
  | .tableCommit .. => 34
  | .tableAbandon .. => 35
  | .setStationMode .. => 36
  | .clearCounters => 37
  | .restart => 38

/-- The permission of a request code (R166), absent for a code that does not exist. -/
def permissionOfCode (code : Byte) : Option Permission :=
  let n := code.toNat
  if 1 ≤ n ∧ n ≤ 9 then some .view
  else if 16 ≤ n ∧ n ≤ 23 then some .operate
  else if 32 ≤ n ∧ n ≤ 38 then some .configure
  else none

/-- The optional part index of R183: no character, or one from 0 to 15. -/
def partOf : List Byte → Option (Option Byte)
  | [] => some none
  | [p] => if p.toNat ≤ 15 then some (some p) else none
  | _ => none

/-- The request a code and its parameters spell; absent where their number does not suit the code,
or a part index is out of range (R166 step 3, R182, R183). -/
def parseParams (code : Byte) (ps : List Byte) : Option Request :=
  match code.toNat, ps with
  | 1, r => (partOf r).map .readStatus
  | 2, g :: r => (partOf r).map (.readCounters g)
  | 3, a :: b :: r => (partOf r).map (.readPoint a b)
  | 4, a :: r => (partOf r).map (.readPump a)
  | 5, a :: r => (partOf r).map (.readRake a)
  | 6, r => (partOf r).map .readFlow
  | 7, a :: b :: r => (partOf r).map (.readAlarms a b)
  | 8, form :: hi :: lo :: r => (partOf r).map (.readSpill form (join16 hi lo))
  | 9, a :: b :: c :: r => (partOf r).map (.readTable a b c)
  | 16, [a, b] => some (.setDriveMode a b)
  | 17, [a] => some (.resetDrive a)
  | 18, [a] => some (.rakeNow a)
  | 19, [a, hi, lo] => some (.forcePoint a (join16 hi lo))
  | 20, [a] => some (.releasePoint a)
  | 21, [a] => some (.ackAlarm a)
  | 22, [] => some .silence
  | 23, [hi, lo] => some (.collectSpill (join16 hi lo))
  | 32, [a, b] => some (.tableBegin a b)
  | 33, a :: b :: r => if r.length ≤ 32 then some (.tableSegment a b r) else none
  | 34, [a, b, hi, lo] => some (.tableCommit a b (join16 hi lo))
  | 35, [a] => some (.tableAbandon a)
  | 36, [a] => some (.setStationMode a)
  | 37, [] => some .clearCounters
  | 38, [] => some .restart
  | _, _ => none

/-- The characters of an optional part index. -/
def partChars : Option Byte → List Byte
  | none => []
  | some p => [p]

/-- The parameter characters of a request (R182). -/
def Request.params : Request → List Byte
  | .readStatus p => partChars p
  | .readCounters g p => g :: partChars p
  | .readPoint a b p => a :: b :: partChars p
  | .readPump a p => a :: partChars p
  | .readRake a p => a :: partChars p
  | .readFlow p => partChars p
  | .readAlarms a b p => a :: b :: partChars p
  | .readSpill form n p => form :: hi16 n :: lo16 n :: partChars p
  | .readTable a b c p => a :: b :: c :: partChars p
  | .setDriveMode a b => [a, b]
  | .resetDrive a => [a]
  | .rakeNow a => [a]
  | .forcePoint a v => [a, hi16 v, lo16 v]
  | .releasePoint a => [a]
  | .ackAlarm a => [a]
  | .silence => []
  | .collectSpill n => [hi16 n, lo16 n]
  | .tableBegin a b => [a, b]
  | .tableSegment a b d => a :: b :: d
  | .tableCommit a b c => [a, b, hi16 c, lo16 c]
  | .tableAbandon a => [a]
  | .setStationMode a => [a]
  | .clearCounters => []
  | .restart => []

/-- The MANAGE payload of a request (R182): code, tag, parameters. -/
def Request.payload (r : Request) (tag : Byte) : List Byte := r.code :: tag :: r.params

/-! ### Pairs of a SAMPLE frame (R181) -/

/-- The pairs (channel, raw value) of a SAMPLE payload, in payload order. -/
def samplePairs : List Byte → List (Byte × Int)
  | c :: hi :: lo :: rest => (c, (join16 hi lo).toInt) :: samplePairs rest
  | _ => []

end Sys2Proof.Machine
end

