-- ==== Sys2Proof/Machine/Flags.lean ====
section
/-! DEFINITION. What the blocks read from the state without changing it: tables and roles, usable
points, timers, modes, slots, sources, conditions of the clock and of the alarm list. -/

namespace Sys2Proof.Machine

/-! ### Power and time -/

/-- The controller works: main power is up and the reset input is not held low (R176). -/
def State.on (s : State) : Bool := s.chip.mainPower && !s.chip.resetLow

/-- The present reading of the model's second count (log 3). -/
def State.now (s : State) : Nat := s.chip.uptime

/-- The present reading in milliseconds (log 3). -/
def State.nowMs (s : State) : Nat := 1000 * s.chip.uptime + s.chip.millis

/-- Seconds counted by a timer since its start. -/
def State.elapsed (s : State) (since : Nat) : Nat := s.now - since

/-- Time remaining on a running timer of the given length (R107, R135). -/
def State.remaining (s : State) (length : Nat) (timer : Option Nat) : Option Nat :=
  timer.map fun since => length - s.elapsed since

/-- A timer counts as elapsed when it is stopped, or once its time reaches its length (R94). -/
def State.timerElapsed (s : State) (length : Nat) : Option Nat → Bool
  | none => true
  | some since => decide (length ≤ s.elapsed since)

/-- The clock time (R162): running seconds plus the offset, wrapped. -/
def Clock.time (c : Clock) : Nat := (c.running + c.offset) % 4294967296

/-- The clock time of the state. -/
def State.clockTime (s : State) : Nat := s.clock.time

/-! ### Tables in use -/

/-- The active STATION table. -/
def State.station (s : State) : Option StationTable := s.tables.active.station.map (·.data)

/-- The active TAP table, empty while none is active (R40). -/
def State.taps (s : State) : List Tap := (s.tables.active.tap.map (·.data)).getD []

/-- The point definitions, none while no POINT table is active (R52). -/
def State.pointDefs (s : State) : List PointDef := (s.tables.active.point.map (·.data)).getD []

/-- The active PUMP table. -/
def State.pumpTable (s : State) : Option PumpTable := s.tables.active.pump.map (·.data)

/-- The active STORAGE table. -/
def State.storage (s : State) : Option StorageTable := s.tables.active.storage.map (·.data)

/-- The active BAND table. -/
def State.bandTable (s : State) : Option BandTable := s.tables.active.band.map (·.data)

/-- The bands in table order, none while no BAND table is active. -/
def State.bands (s : State) : List Band := (s.bandTable.map (·.bands)).getD []

/-- The active SCREEN table. -/
def State.screenTable (s : State) : Option ScreenTable := s.tables.active.screen.map (·.data)

/-- The settings of a screen, present while it is defined (R122). -/
def State.screenDef (s : State) (r : Side) : Option ScreenDef :=
  s.screenTable.bind fun t => t.screens.get r

/-- The settings of a weir, present while it is defined (R137). -/
def State.weirDef (s : State) (w : Weir) : Option WeirDef :=
  s.tables.active.weir.bind fun t => t.data.get w

/-- The active ALARM table. -/
def State.alarmTable (s : State) : Option AlarmTable := s.tables.active.alarm.map (·.data)

/-- A pump's entry in a PUMP table. -/
def PumpTable.entry (t : PumpTable) (p : Pump) : Option PumpEntry :=
  t.entries.find? fun e => decide (e.pump = p)

/-- A pump's entry in the active PUMP table. -/
def State.pumpEntry (s : State) (p : Pump) : Option PumpEntry := s.pumpTable.bind (·.entry p)

/-- The access list (R165): the active ACCESS table, or 247 with CONFIGURE. -/
def State.accessList (s : State) : List AccessEntry :=
  match s.tables.active.access with
  | some t => t.data
  | none => [⟨247, .configure⟩]

/-- The permission of a source, absent if unlisted (R165). -/
def State.permission (s : State) (src : Byte) : Option Permission :=
  (s.accessList.find? fun e => decide (e.source = src)).map (·.permission)

/-- The gap limit, default 4 (R6). -/
def State.gapLimit (s : State) : Nat := (s.station.map (·.gapLimit)).getD 4

/-- The stall limit, default 10 (R12). -/
def State.stallLimit (s : State) : Nat := (s.station.map (·.stallLimit)).getD 10

/-- Hold Out's upper threshold, default 256 (R13). -/
def State.upper (s : State) : Nat := (s.station.map (·.upper)).getD 256

/-- Hold Out's lower threshold, default 128 (R13). -/
def State.lower (s : State) : Nat := (s.station.map (·.lower)).getD 128

/-- The re-strobe figure N, default 4 (R14). -/
def State.restrobeN (s : State) : Nat := (s.station.map (·.restrobe)).getD 4

/-- The lap timeout in milliseconds, default 1,000 (R33). -/
def State.lapTimeout (s : State) : Nat := (s.station.map (·.lapTimeout)).getD 1000

/-- The power-return time in seconds (R78). -/
def State.powerReturnTime (s : State) : Nat := (s.station.map (·.powerReturn)).getD 0

/-- The stagger, taken as 2 s while no PUMP table is active (R77). -/
def State.staggerLength (s : State) : Nat := (s.pumpTable.map (·.stagger)).getD 2

/-- A pump is installed (R85). -/
def State.installed (s : State) (p : Pump) : Bool :=
  (s.station.map fun t => t.installed.get p).getD false

/-- The installed pumps in number order. -/
def State.installedPumps (s : State) : List Pump := pumps.filter s.installed

/-- A table is active. -/
def State.tableActive (s : State) : TableId → Bool
  | .station => s.tables.active.station.isSome
  | .access => s.tables.active.access.isSome
  | .tap => s.tables.active.tap.isSome
  | .point => s.tables.active.point.isSome
  | .storage => s.tables.active.storage.isSome
  | .pump => s.tables.active.pump.isSome
  | .band => s.tables.active.band.isSome
  | .screen => s.tables.active.screen.isSome
  | .weir => s.tables.active.weir.isSome
  | .alarm => s.tables.active.alarm.isSome

/-- The image of a table's active copy (R169). -/
def State.activeImage (s : State) : TableId → Option (List Byte)
  | .station => s.tables.active.station.map (·.image)
  | .access => s.tables.active.access.map (·.image)
  | .tap => s.tables.active.tap.map (·.image)
  | .point => s.tables.active.point.map (·.image)
  | .storage => s.tables.active.storage.map (·.image)
  | .pump => s.tables.active.pump.map (·.image)
  | .band => s.tables.active.band.map (·.image)
  | .screen => s.tables.active.screen.map (·.image)
  | .weir => s.tables.active.weir.map (·.image)
  | .alarm => s.tables.active.alarm.map (·.image)

/-- The station is SETTLING or AUTOMATIC. -/
def State.pastStandby (s : State) : Bool := decide (s.tables.mode ≠ .standby)

/-- The station is AUTOMATIC. -/
def State.automatic (s : State) : Bool := decide (s.tables.mode = .automatic)

/-! ### Points (R47, R55) -/

/-- Usable qualities (R47). -/
def Quality.usable : Quality → Bool
  | .none => false
  | .failed => false
  | _ => true

/-- The record of a point number. -/
def State.pointRec (s : State) (n : Nat) : PointRec := s.points.recs.getD n PointRec.start

/-- The definition of a point number, absent while undefined (R52). -/
def State.pointDef (s : State) (n : Nat) : Option PointDef :=
  s.pointDefs.find? fun d => decide (d.number = n)

/-- The role assignments, absent while no STATION table is active (R55). -/
def State.roles (s : State) : Option Roles := s.station.map (·.roles)

/-- The point that holds a role, if the role is present (R55). -/
def State.role (s : State) (f : Roles → Option Nat) : Option Nat := s.roles.bind f

/-- The record of the point that holds a role, if the role is present. -/
def State.roleRec (s : State) (f : Roles → Option Nat) : Option PointRec :=
  (s.role f).map s.pointRec

/-- The value of the point that holds a role, if the role is present and the point usable (R47). -/
def State.usableValue (s : State) (f : Roles → Option Nat) : Option Int :=
  (s.roleRec f).bind fun r => if r.quality.usable then some r.value else none

/-- A STATE point that holds a role is active: usable and reading 1 (R44). -/
def PointRec.active (r : PointRec) : Bool := r.quality.usable && decide (r.value = 1)

/-- The point that holds a role is active; never, while the role is absent (R55). -/
def State.roleActive (s : State) (f : Roles → Option Nat) : Bool :=
  ((s.roleRec f).map PointRec.active).getD false

/-- A pump's run feedback is active (R64). -/
def State.feedbackActive (s : State) (p : Pump) : Bool := s.roleActive fun r => r.feedback.get p

/-- A role assignment: the class it requires, its point, and the pump it belongs to, if any (R55). -/
structure RoleUse where
  cls : PointClass
  point : Option Nat
  pump : Option Pump
  deriving DecidableEq, Repr

/-- The roles of a pump's fault points. -/
def Roles.faults (r : Roles) (p : Pump) : List RoleUse :=
  [RoleUse.mk .state (r.f1.get p) (some p), RoleUse.mk .state (r.f2.get p) (some p),
    RoleUse.mk .state (r.f3.get p) (some p)]

/-- The role assignments in the order of R55, as a STATION image gives them (R184). -/
def Roles.list (r : Roles) : List RoleUse :=
  List.flatten
    [[RoleUse.mk .level r.wetWell none, RoleUse.mk .level r.river none,
        RoleUse.mk .state r.highFloat none, RoleUse.mk .state r.lowFloat none,
        RoleUse.mk .select r.supply none],
      pumps.map fun p => RoleUse.mk .state (r.feedback.get p) (some p),
      pumps.map fun p => RoleUse.mk .current (r.current.get p) (some p),
      pumps.map fun p => RoleUse.mk .select (r.selector.get p) (some p),
      pumps.flatMap r.faults,
      sides.map fun x => RoleUse.mk .level (r.upstream.get x) none,
      sides.map fun x => RoleUse.mk .level (r.downstream.get x) none,
      sides.map fun x => RoleUse.mk .state (r.park.get x) none,
      sides.map fun x => RoleUse.mk .current (r.rakeCurrent.get x) none,
      weirs.map fun w => RoleUse.mk .level (r.weirLevel.get w) none]

/-! ### Modes and drives (R36, R76, R77, R85, R125) -/

/-- The effective mode that goes with a pump's state (R85). -/
def PumpState.mode : PumpState → Mode
  | .hand => .hand
  | .off => .off
  | _ => .auto

/-- The effective mode that goes with a rake's state (R125). -/
def RakeState.mode : RakeState → Mode
  | .hand => .hand
  | .off => .off
  | _ => .auto

/-- A pump's record. -/
def State.pump (s : State) (p : Pump) : PumpRec := s.seq.pumps.get p

/-- A rake's record. -/
def State.rake (s : State) (r : Side) : RakeRec := s.screens.rakes.get r

/-- A screen's record. -/
def State.screen (s : State) (r : Side) : ScreenRec := s.screens.screens.get r

/-- An actuator is named in the command gate list (R36). -/
def State.gateEntry (s : State) (a : Actuator) : Option GateEntry :=
  s.transit.gate.find? fun e => decide (e.drive = a)

/-- A rake is in service (R122): its screen is defined and its actuator named in the STATION table. -/
def State.inService (s : State) (r : Side) : Bool :=
  (s.screenDef r).isSome &&
    ((s.station.map fun t => t.actuators.any fun e => decide (e.drive = .rake r)).getD false)

/-- The effective mode a pump should have (R86; HAND for a pump not installed, R85). -/
def State.targetMode (s : State) (p : Pump) : Mode :=
  if s.automatic && s.installed p then
    match (s.pump p).selector with
    | .off => .off
    | .hand => .hand
    | .auto => (s.pump p).mgmt
  else .hand

/-- The effective mode a rake should have (R125; HAND while out of service, R122). -/
def State.rakeTargetMode (s : State) (r : Side) : Mode :=
  if s.automatic && s.inService r then (s.rake r).mgmt else .hand

/-- A gate entry is OWNED (R36). -/
def State.owned (s : State) : Actuator → Bool
  | .pump p => s.automatic && decide ((s.pump p).state.mode ≠ .hand)
  | .rake r => s.automatic && decide ((s.rake r).state.mode ≠ .hand)
  | .annunciator => s.automatic

/-- A pump holds a grant: STARTING or RUNNING (R76). -/
def PumpState.granted : PumpState → Bool
  | .starting => true
  | .running => true
  | _ => false

/-- A rake holds a grant: RAKING or REVERSING (R76). -/
def RakeState.granted : RakeState → Bool
  | .raking => true
  | .reversing => true
  | _ => false

/-- The pumps holding grants. -/
def State.grantedPumps (s : State) : List Pump := pumps.filter fun p => (s.pump p).state.granted

/-- The rakes holding grants. -/
def State.grantedRakes (s : State) : List Side := sides.filter fun r => (s.rake r).state.granted

/-- The pumps running without a grant (R76). -/
def State.loosePumps (s : State) : List Pump :=
  pumps.filter fun p => !(s.pump p).state.granted && s.feedbackActive p

/-- The rakes running without a grant (R76). -/
def State.looseRakes (s : State) : List Side :=
  sides.filter fun r =>
    !(s.rake r).state.granted &&
      decide ((s.usableValue fun t => t.rakeCurrent.get r).getD 0 ≠ 0)

/-- The number of grants held. -/
def State.grants (s : State) : Nat := s.grantedPumps.length + s.grantedRakes.length

/-- The number of drives running without a grant. -/
def State.loose (s : State) : Nat := s.loosePumps.length + s.looseRakes.length

/-- The capacity of the slot record (R75). -/
def State.capacity (s : State) : Nat :=
  match s.station with
  | none => 0
  | some t =>
    match s.arbiter.supply with
    | .mains => t.mainsSlots
    | .generator => t.generatorSlots
    | .lost => 0

/-- The free slots (R76). -/
def State.freeSlots (s : State) : Nat := s.capacity - (s.grants + s.loose)

/-- The power-return timer has expired (R78). -/
def State.powerReturned (s : State) : Bool := decide (s.arbiter.powerReturn = .expired)

/-- The start slot is open (R77). -/
def State.startSlotOpen (s : State) : Bool :=
  pumps.all (fun p => decide ((s.pump p).state ≠ .starting)) && s.arbiter.stagger.isNone &&
    s.powerReturned && s.automatic

/-- A waiting rake's request is urgent (R127). -/
def State.urgent (s : State) (r : Side) : Bool := (s.screen r).blinded

/-- The number of pumps in START_WAIT, STARTING and RUNNING, A of section 6.3. -/
def State.committed (s : State) : Nat :=
  (pumps.filter fun p =>
    decide ((s.pump p).state = .startWait) || (s.pump p).state.granted).length

/-! ### Fault sources (R109, R114) -/

/-- The settings of a source (R109): fixed for three, from the PUMP table for the others. -/
def State.sourceSetting (s : State) (p : Pump) : FaultSource → Option SourceSetting
  | .f1 => (s.pumpEntry p).map (·.f1.setting)
  | .f2 => (s.pumpEntry p).map (·.f2.setting)
  | .f3 => (s.pumpEntry p).map (·.f3.setting)
  | .overcurrent => (s.pumpEntry p).map (·.overcurrent)
  | .uncommandedStop => (s.pumpEntry p).map (·.uncommanded)
  | .commandLost => some ⟨.hold, .stop⟩
  | .failToStart => some ⟨.latch, .stop⟩
  | .failToStop => some ⟨.latch, .stop⟩

/-- A source is present (R109). -/
def State.sourcePresent (s : State) (p : Pump) : FaultSource → Bool
  | .f1 => (s.pump p).sources.f1
  | .f2 => (s.pump p).sources.f2
  | .f3 => (s.pump p).sources.f3
  | .overcurrent => (s.pump p).sources.overcurrent
  | .uncommandedStop => (s.pump p).sources.uncommandedStop
  | .commandLost => (s.pump p).sources.commandLost
  | .failToStart => (s.pump p).sources.failToStart
  | .failToStop => (s.pump p).sources.failToStopRaised && s.feedbackActive p

/-- The sources in the order R109 lists them. -/
def faultSources : List FaultSource :=
  [.f1, .f2, .f3, .overcurrent, .uncommandedStop, .commandLost, .failToStart, .failToStop]

/-- The action in force for a source (R116). -/
def State.sourceAction (s : State) (p : Pump) (f : FaultSource) : Option SourceAction :=
  (s.sourceSetting p f).map (·.action)

/-- A source is present with the given class and action. -/
def State.presentWith (s : State) (p : Pump) (c : SourceClass) (a : SourceAction)
    (f : FaultSource) : Bool :=
  s.sourcePresent p f && decide (s.sourceSetting p f = some ⟨c, a⟩)

/-- A source that latches (R116): present, of class LATCH with action STOP or INHIBIT_START. -/
def State.latching (s : State) (p : Pump) (f : FaultSource) : Bool :=
  s.presentWith p .latch .stop f || s.presentWith p .latch .inhibitStart f

/-- The latching sources in the order of R116. FAIL_TO_START and FAIL_TO_STOP count among them at every judgement
made while they are present (DEDUCED, log 51). -/
def State.latchingSources (s : State) (p : Pump) : List FaultSource :=
  [FaultSource.f1, .f2, .f3, .overcurrent, .uncommandedStop, .failToStart, .failToStop].filter
    (s.latching p)

/-- A HOLD-class source with action STOP is present (R117). -/
def State.holdStop (s : State) (p : Pump) : Bool :=
  faultSources.any (s.presentWith p .hold .stop)

/-- Pump protection states a start inhibit (R117). It follows the class and action in force, so that a PUMP table
activation begins or ends it at once (DEDUCED, log 42). -/
def State.startInhibit (s : State) (p : Pump) : Bool :=
  faultSources.any (s.presentWith p .hold .inhibitStart)

/-- PUMP_FAULT (R120): any HOLD-class source is present; never for a pump not installed. -/
def State.pumpFault (s : State) (p : Pump) : Bool :=
  s.installed p && faultSources.any fun f =>
    s.sourcePresent p f && decide ((s.sourceSetting p f).map (·.cls) = some .hold)

/-- PUMP_TRIPPED (R120): the trip latch is present; never for a pump not installed. -/
def State.pumpTripped (s : State) (p : Pump) : Bool :=
  s.installed p && (s.pump p).latch.isSome

/-! ### Eligibility (R103) -/

/-- The start count: entries of the start history younger than 3,600 running seconds. -/
def State.startCount (s : State) (p : Pump) : Nat :=
  ((s.pump p).history.filter fun t => decide (s.clock.running - t < 3600)).length

/-- The start limit from the PUMP table. -/
def State.startLimit (s : State) (p : Pump) : Option Nat := (s.pumpEntry p).map (·.startLimit)

/-- The minimum off length: 0 while no PUMP table is active (R94), and for a pump to which the active one gives no
entry, of which R94 does not tell (DESIGN CHOICE, log 40). -/
def State.minOffLength (s : State) (p : Pump) : Nat := ((s.pumpEntry p).map (·.minOff)).getD 0

/-- The minimum run length: 0 while no PUMP table is active (R94), and for a pump to which the active one gives no
entry, of which R94 does not tell (DESIGN CHOICE, log 40). -/
def State.minRunLength (s : State) (p : Pump) : Nat := ((s.pumpEntry p).map (·.minRun)).getD 0

/-- A pump is eligible to start (R103). -/
def State.eligible (s : State) (p : Pump) : Bool :=
  decide ((s.pump p).state.mode = .auto) && (s.pump p).latch.isNone && !s.startInhibit p &&
    s.timerElapsed (s.minOffLength p) (s.pump p).minOff &&
    decide (s.startCount p < (s.startLimit p).getD 0)

/-! ### Transit (R24, R27, R28) -/

/-- The fill of the transit queue (R24). -/
def fill (q : List Frame) : Nat := (q.map Frame.length).sum

/-- An own frame of the given class is being sent. -/
def Tx.sendingNotice : Tx → Bool
  | .own o _ _ => match o.ref with
    | .notice _ _ => true
    | _ => false
  | _ => false

/-- A response is being sent. -/
def Tx.sendingResponse : Tx → Bool
  | .own o _ _ => match o.ref with
    | .response _ _ => true
    | _ => false
  | _ => false

/-- The NOTICE class is full (R27). -/
def State.noticeFull (s : State) : Bool :=
  decide (Config.noticeCapacity ≤ s.transit.notice.length + s.loop.tx.sendingNotice.toNat)

/-- The RESPONSE class is full (R28). -/
def State.responseFull (s : State) : Bool :=
  decide (Config.responseCapacity ≤ s.transit.response.length + s.loop.tx.sendingResponse.toNat)

/-- No class holds an unsent member (R30). -/
def Transit.noUnsent (t : Transit) : Bool :=
  t.actuator.isEmpty && t.notice.isEmpty && t.response.isEmpty

/-- The insertion candidate (R29). -/
def Transit.candidate (t : Transit) : Option OwnFrame :=
  if Config.lapCapacity ≤ t.lap.length then none
  else match t.actuator, t.notice, t.response with
    | o :: _, _, _ => some o
    | [], o :: _, _ => some o
    | [], [], o :: _ => some o
    | [], [], [] => none

/-- The gateway address a notice is posted to, absent while no STATION table is active (R25). -/
def State.gateway (s : State) : Option Byte := s.station.map (·.gateway)

/-- Loop health (R16). -/
def State.loopHealth (s : State) : LoopHealth :=
  if s.loop.loopStall then .stalled
  else if s.loop.healthTimer.isSome then .degraded
  else .good

/-- The bit times of the frame being sent on Loop Out (R2, R3). -/
def Tx.bitTimes : Tx → List Bool
  | .transit f => f.bitTimes
  | .own _ f _ => f.bitTimes
  | .idle => []
  | .breakHold => []

/-- The running silence has reached the gap limit (R6): the reading in milliseconds against character times of
625 µs at rate strap value 0, halved at each value above (R1), counted in eighths of a microsecond. -/
def State.gapPassed (s : State) : Bool :=
  match s.loop.gapTimer with
  | none => false
  | some t => decide (s.gapLimit * (5000 / 2 ^ s.chip.rate.toNat) ≤ 8000 * (s.nowMs - t))

/-- Loop Out rests at, or may leave, the high level (mark): low only through a break (R9), and high
while the controller is held in reset (section 12.5). -/
def State.loopOutHigh (s : State) : Bool := !(s.on && decide (s.loop.tx = .breakHold))

/-- The level of the Hold Out line: low while asserted (R13, R14, section 12.5). -/
def State.holdOutHigh (s : State) : Bool := !(s.on && decide (s.loop.holdOut = .asserted))

/-! ### Alarm list (R153 to R160) -/

/-- The default priorities (R160). -/
def defaultPriority (n : Nat) : Nat :=
  if 17 ≤ n ∧ n ≤ 21 then 1
  else if n = 22 ∨ n = 25 ∨ 26 ≤ n then 3
  else 2

/-- The priority of an entry under a table (R160). -/
def priorityIn (t : Option AlarmTable) (n : Nat) : Nat :=
  match t with
  | some t => t.priorities.getD (n - 1) 0
  | none => defaultPriority n

/-- The priority of an entry. -/
def State.priority (s : State) (n : Nat) : Nat := priorityIn s.alarmTable n

/-- The notify threshold, default 2 (R160). -/
def State.notifyThreshold (s : State) : Nat := (s.alarmTable.map (·.threshold)).getD 2

/-- The renotify interval in minutes, default 15 (R160). -/
def renotifyIn (t : Option AlarmTable) : Nat := (t.map (·.renotify)).getD 15

/-- The summary interval in minutes, default 15 (R160). -/
def summaryIn (t : Option AlarmTable) : Nat := (t.map (·.summary)).getD 15

/-- An entry is notified (R158). -/
def State.notified (s : State) (n : Nat) : Bool :=
  decide (1 ≤ s.priority n) && decide (s.priority n ≤ s.notifyThreshold)

/-- An alarm entry by its number, 1 to 73. -/
def State.alarm (s : State) (n : Nat) : AlarmEntry :=
  s.alarms.entries.getD (n - 1) (AlarmEntry.start 0)

/-- The entry numbers, 1 to 73. -/
def alarmNumbers : List Nat := (List.range 73).map (· + 1)

/-- Unacknowledged states (R153). -/
def AlarmState.unack : AlarmState → Bool
  | .activeUnack => true
  | .returnedUnack => true
  | _ => false

/-- Active states (R153). -/
def AlarmState.active : AlarmState → Bool
  | .activeUnack => true
  | .activeAck => true
  | _ => false

/-- The unacknowledged count (R153). -/
def State.unackCount (s : State) : Nat :=
  (s.alarms.entries.filter fun e => e.state.unack).length

/-- The annunciator mode derived from the alarm list and the silence flag (R156). -/
def State.annMode (s : State) : AnnMode :=
  if !s.alarms.silence &&
      alarmNumbers.any (fun n => (s.alarm n).state.unack && decide (s.priority n = 1)) then
    .flashHorn
  else if s.alarms.entries.any (fun e => e.state.unack) then .flash
  else if s.alarms.entries.any (fun e => e.state.active) then .steady
  else .off

/-- Alarm entry numbers of the conditions (R153). -/
def trippedEntry (p : Pump) : Nat := p.number

/-- PUMP_FAULT's entry. -/
def faultEntry (p : Pump) : Nat := 6 + p.number

/-- RAKE_JAMMED's entry. -/
def jammedEntry : Side → Nat
  | .a => 13
  | .b => 14

/-- SCREEN_BLINDED's entry. -/
def blindedEntry : Side → Nat
  | .a => 15
  | .b => 16

/-- SPILL's entry. -/
def Weir.spillEntry : Weir → Nat
  | .w1 => 17
  | .w2 => 18

end Sys2Proof.Machine
end

