-- ==== Sys2Proof/Machine/Ops.lean ====
section
/-! DEFINITION. The named operations on the state that several blocks share: record updates, counting,
Hold Out, the transit queue, posting and withdrawing commands, notices, and the alarm list. -/

namespace Sys2Proof.Machine

/-! ### Record updates -/

/-- Replace a pump's record. -/
def State.setPump (s : State) (p : Pump) (r : PumpRec) : State :=
  { s with seq := { s.seq with pumps := s.seq.pumps.set p r } }

/-- Replace a rake's record. -/
def State.setRake (s : State) (r : Side) (v : RakeRec) : State :=
  { s with screens := { s.screens with rakes := s.screens.rakes.set r v } }

/-- Replace a screen's record. -/
def State.setScreen (s : State) (r : Side) (v : ScreenRec) : State :=
  { s with screens := { s.screens with screens := s.screens.screens.set r v } }

/-- Replace a weir's record. -/
def State.setWeir (s : State) (w : Weir) (v : WeirRec) : State :=
  { s with spill := { s.spill with weirs := s.spill.weirs.set w v } }

/-- Replace a point's record. -/
def State.setPoint (s : State) (n : Nat) (v : PointRec) : State :=
  { s with points := { s.points with recs := s.points.recs.set n v } }

/-- Replace an alarm entry, numbered 1 to 73. -/
def State.setAlarm (s : State) (n : Nat) (v : AlarmEntry) : State :=
  { s with alarms := { s.alarms with entries := s.alarms.entries.set (n - 1) v } }

/-- Change the line counters. -/
def State.countLine (s : State) (f : LineCounters → LineCounters) : State :=
  { s with loop := { s.loop with line := f s.loop.line } }

/-- Change the transit counters. -/
def State.countTransit (s : State) (f : TransitCounters → TransitCounters) : State :=
  { s with transit := { s.transit with count := f s.transit.count } }

/-- One more, saturating at 65,535 (R15, R39, R178). -/
def inc16 (n : Nat) : Nat := addSat max16 n 1

/-- The state with another assembler state. -/
def State.setAssembler (s : State) (a : Assembler) : State :=
  { s with loop := { s.loop with assembler := a } }

/-- The loop health timer starts, or restarts from 10 s (R16). -/
def startHealth (s : State) : State := { s with loop := { s.loop with healthTimer := some s.now } }

/-- The gap timer reaches the gap limit (R6). -/
def gapReached (s : State) : State :=
  match s.loop.assembler with
  | .inFrame _ =>
    (startHealth (s.countLine fun c => { c with gapAborts := inc16 c.gapAborts })).setAssembler .idle
  | .discard => s.setAssembler .idle
  | .idle => s
  | .brk => s

/-- Work done where a condition of the state holds. -/
def guarded (c : State → Bool) (f : State → State) (s : State) : State := if c s then f s else s

/-- Work on each pump in number order, also where no rule orders the pumps (DESIGN CHOICE, log 49). -/
def eachPump (f : Pump → State → State) (s : State) : State :=
  pumps.foldl (fun s p => f p s) s

/-- Work on rake or screen A, then B, also where no rule orders them (DESIGN CHOICE, log 49). -/
def eachSide (f : Side → State → State) (s : State) : State :=
  sides.foldl (fun s r => f r s) s

/-- Work on weir 1, then 2. -/
def eachWeir (f : Weir → State → State) (s : State) : State :=
  weirs.foldl (fun s w => f w s) s

/-! ### Hold Out and the transit queue (R13, R14, R24) -/

/-- Hold Out judged against the fill (R13). -/
def judgeHoldOut (s : State) : State :=
  let n := fill s.transit.queue
  match s.loop.holdOut with
  | .released =>
    if s.upper ≤ n then { s with loop := { s.loop with holdOut := .asserted, restrobe := 0 } } else s
  | .asserted | .strobe =>
    if n ≤ s.lower then { s with loop := { s.loop with holdOut := .released } } else s

/-- A forwarded copy offered to the transit queue (R24): admitted at the tail, or dropped and counted
as transit overflow. -/
def offer (f : Frame) (s : State) : State :=
  if fill s.transit.queue + f.length ≤ Config.transitCapacity then
    judgeHoldOut { s with transit := { s.transit with queue := s.transit.queue ++ [f] } }
  else s.countTransit fun c => { c with overflow := inc16 c.overflow }

/-- Forward a foreign frame (R23). -/
def forward (f : Frame) (s : State) : State := offer f.withPassMark s

/-- The head of the transit queue leaves it (R24). -/
def dropTransitHead (s : State) : State :=
  judgeHoldOut { s with transit := { s.transit with queue := s.transit.queue.tail } }

/-- A frame was completed on Loop In (R14): counted while Hold Out is ASSERTED, bringing a re-strobe
at N, and toward the next re-strobe during STROBE (log 24). -/
def countCompleted (s : State) : State :=
  match s.loop.holdOut with
  | .released => s
  | .asserted =>
    if s.restrobeN ≤ s.loop.restrobe + 1 then
      { s with loop := { s.loop with holdOut := .strobe, restrobe := 0 } }
    else { s with loop := { s.loop with restrobe := s.loop.restrobe + 1 } }
  | .strobe => { s with loop := { s.loop with restrobe := s.loop.restrobe + 1 } }

/-! ### The ACTUATOR class (R25, R26, R30) -/

/-- An own frame is a command for the given actuator. -/
def OwnFrame.isFor (a : Actuator) (o : OwnFrame) : Bool :=
  match o.ref with
  | .command b _ _ => decide (b = a)
  | _ => false

/-- The fairness counter returns to 0 when no class holds an unsent member (R30). -/
def settleFairness (s : State) : State :=
  if s.transit.noUnsent then { s with transit := { s.transit with fairness := 0 } } else s

/-- The frame being sent, marked superseded if it is for the actuator (R26). -/
def Tx.supersede (a : Actuator) : Tx → Tx
  | .own o f m => .own o f (m || o.isFor a)
  | t => t

/-- Mark superseded the frame being sent and every lap entry for the actuator (R26). -/
def supersede (a : Actuator) (s : State) : State :=
  { s with
    loop := { s.loop with tx := s.loop.tx.supersede a }
    transit := { s.transit with
      lap := s.transit.lap.map fun e =>
        if e.own.isFor a then { e with superseded := true } else e } }

/-- A command as it stands in the ACTUATOR class (R25, R181). -/
def commandFrame (e : GateEntry) (code : CommandCode) (arg : Byte) (retry : Nat) : OwnFrame :=
  { dest := some e.node, payload := [e.channel, code.code, arg],
    ref := .command e.drive code arg, retry }

/-- Replace code and argument in place, keeping position, address and channel (R26). -/
def OwnFrame.recommand (o : OwnFrame) (a : Actuator) (code : CommandCode) (arg : Byte)
    (retry : Nat) : OwnFrame :=
  { o with payload := o.payload.take 1 ++ [code.code, arg], ref := .command a code arg, retry }

/-- The ACTUATOR class after a command is posted to it (R26): replaced in place, or joining the tail. -/
def commandPosted (e : GateEntry) (a : Actuator) (code : CommandCode) (arg : Byte)
    (retry : Option Nat) (q : List OwnFrame) : List OwnFrame :=
  if q.any (OwnFrame.isFor a) then
    q.map fun o => if o.isFor a then o.recommand a code arg (retry.getD o.retry) else o
  else q ++ [commandFrame e code arg (retry.getD 0)]

/-- Post a command to the ACTUATOR class (R26). `retry` is present for a command posted again after a
failed lap, which brings its own retry count. A command for an actuator that has no gate entry is not
admitted (R25). -/
def postCommand (a : Actuator) (code : CommandCode) (arg : Byte) (retry : Option Nat)
    (s : State) : State :=
  match s.gateEntry a with
  | none => s
  | some e =>
    supersede a
      { s with transit := { s.transit with
          actuator := commandPosted e a code arg retry s.transit.actuator } }

/-- Withdraw the command for an actuator (R26). -/
def withdraw (a : Actuator) (s : State) : State :=
  settleFairness <| supersede a
    { s with transit := { s.transit with
        actuator := s.transit.actuator.filter fun o => !o.isFor a } }

/-- Post a pump's command (R107): the current command is set and the confirmed mark cleared. -/
def postPump (p : Pump) (code : CommandCode) (s : State) : State :=
  postCommand (.pump p) code 0 none
    (s.setPump p { s.pump p with command := code, confirmed := false })

/-- Post a rake's command (R128 to R132). -/
def postRake (r : Side) (code : CommandCode) (s : State) : State :=
  postCommand (.rake r) code 0 none
    (s.setRake r { s.rake r with command := code, confirmed := false })

/-- Post ANNUNCIATE with the given mode (R156). -/
def postAnnunciate (m : AnnMode) (s : State) : State :=
  postCommand .annunciator .annunciate m.code none
    { s with alarms := { s.alarms with posted := some m, confirmed := false } }

/-! ### Notices (R27) -/

/-- A notice for the gateway named at its posting (R25). -/
def notice (s : State) (t : NoticeType) (ref : Nat) (payload : List Byte) : OwnFrame :=
  { dest := s.gateway, payload, ref := .notice t ref, retry := 0 }

/-- An own frame is an ALARM notice. -/
def OwnFrame.isAlarm (o : OwnFrame) : Bool :=
  match o.ref with
  | .notice .alarm _ => true
  | _ => false

/-- One notice more is lost (R27). -/
def countLost (s : State) : State :=
  s.countTransit fun c => { c with noticesLost := inc16 c.noticesLost }

/-- A notice meets the NOTICE class (R27): it joins the tail; a full class loses its oldest unsent ALARM
notice for it, or the new one. -/
def postNotice (o : OwnFrame) (s : State) : State :=
  if s.noticeFull then
    if s.transit.notice.any OwnFrame.isAlarm then
      countLost
        { s with transit := { s.transit with
            notice := s.transit.notice.eraseP OwnFrame.isAlarm ++ [o] } }
    else countLost s
  else { s with transit := { s.transit with notice := s.transit.notice ++ [o] } }

/-- The notices of an event in the order of R27: posted again, spill notices by weir number, ALARM
notices by entry number, SUMMARY. -/
def Outbox.ordered (b : Outbox) : List OwnFrame :=
  b.retried ++
  weirs.flatMap (fun w => (b.spill.filter fun x => decide (x.1 = w)).map (·.2)) ++
  alarmNumbers.flatMap (fun n => (b.alarm.filter fun x => decide (x.1 = n)).map (·.2)) ++
  b.summary

/-- At the end of an event its notices meet the class in their order (R27). -/
def flushNotices (s : State) : State :=
  let out := s.transit.outbox.ordered
  out.foldl (fun s o => postNotice o s)
    { s with transit := { s.transit with outbox := Outbox.empty } }

/-- A notice posted again after a failed lap waits for the end of the event. -/
def noteRetried (o : OwnFrame) (s : State) : State :=
  let b := s.transit.outbox
  { s with transit := { s.transit with outbox := { b with retried := b.retried ++ [o] } } }

/-- A spill notice waits for the end of the event. -/
def noteSpill (w : Weir) (o : OwnFrame) (s : State) : State :=
  let b := s.transit.outbox
  { s with transit := { s.transit with outbox := { b with spill := b.spill ++ [(w, o)] } } }

/-- An ALARM notice waits for the end of the event. -/
def noteAlarm (n : Nat) (o : OwnFrame) (s : State) : State :=
  let b := s.transit.outbox
  { s with transit := { s.transit with outbox := { b with alarm := b.alarm ++ [(n, o)] } } }

/-- A SUMMARY notice waits for the end of the event. -/
def noteSummary (o : OwnFrame) (s : State) : State :=
  let b := s.transit.outbox
  { s with transit := { s.transit with outbox := { b with summary := b.summary ++ [o] } } }

/-! ### The alarm list (R154 to R159) -/

/-- Alarm state codes (R185). -/
def AlarmState.code : AlarmState → Nat
  | .normal => 0
  | .activeUnack => 1
  | .activeAck => 2
  | .returnedUnack => 3

/-- The marks character of an ALARM notice (R185). -/
def alarmMarks (e : AlarmEntry) (clockSet repeat_ : Bool) : Nat :=
  e.condition.toNat + 2 * clockSet.toNat + 4 * repeat_.toNat + 8 * e.firstActive.isSome.toNat +
    16 * e.lastChange.isSome.toNat

/-- The ALARM notice of an entry as it stands (R158, R185). -/
def alarmNotice (n : Nat) (repeat_ : Bool) (s : State) : OwnFrame :=
  let e := s.alarm n
  notice s .alarm n
    (u8 1 ++ u8 n ++ u8 e.state.code ++ u8 (s.priority n) ++
      u8 (alarmMarks e s.clock.set repeat_) ++ u32 (e.firstActive.getD 0) ++
      u32 (e.lastChange.getD 0) ++ u8 e.count)

/-- Renotify timer after a change of a notified entry into a state, its notice posted (R159). -/
def State.renotifyAfter (s : State) (n : Nat) (st : AlarmState) : Option Nat :=
  if st.unack && s.notified n && decide (s.priority n = 1) &&
      decide (renotifyIn s.alarmTable ≠ 0) then some s.now
  else none

/-- An entry after a change of state (R154, R155): the times, the activation count, and its renotify timer
(R159). -/
def changedEntry (n : Nat) (st : AlarmState) (s : State) : AlarmEntry :=
  let e := s.alarm n
  let leavesNormal := decide (e.state = .normal)
  { e with
    state := st
    lastChange := some s.clockTime
    firstActive := if leavesNormal then some s.clockTime else e.firstActive
    count := if leavesNormal then addSat 255 e.count 1 else e.count
    renotify := s.renotifyAfter n st }

/-- The silence flag is cleared where an entry of priority 1 enters ACTIVE_UNACK (R157). -/
def wakeHorn (n : Nat) (st : AlarmState) (s : State) : State :=
  if st = .activeUnack ∧ s.priority n = 1 then
    { s with alarms := { s.alarms with silence := false } }
  else s

/-- The ALARM notice of a change, where the entry is notified (R158). -/
def notifyChange (n : Nat) (s : State) : State :=
  if s.notified n then noteAlarm n (alarmNotice n false s) s else s

/-- An entry changes state (R154, R155): the times, the silence flag (R157), its ALARM notice (R158)
and its renotify timer (R159). -/
def changeAlarm (n : Nat) (st : AlarmState) (s : State) : State :=
  notifyChange n (wakeHorn n st (s.setAlarm n (changedEntry n st s)))

/-- What a condition's appearing does to its entry (R154). -/
def conditionAppears (n : Nat) (s : State) : State :=
  match (s.alarm n).state with
  | .normal => changeAlarm n .activeUnack s
  | .returnedUnack => changeAlarm n .activeUnack s
  | .activeUnack => s
  | .activeAck => s

/-- What a condition's clearing does to its entry (R154). -/
def conditionClears (n : Nat) (s : State) : State :=
  match (s.alarm n).state with
  | .activeUnack => changeAlarm n .returnedUnack s
  | .activeAck => changeAlarm n .normal s
  | .returnedUnack => s
  | .normal => s

/-- The entry of an enabled condition follows its condition field (R154). -/
def followCondition (n : Nat) (present : Bool) (s : State) : State :=
  if s.priority n = 0 then s
  else if present then conditionAppears n s
  else conditionClears n s

/-- An owner states a condition of an entry (R154): nothing follows when it is as last stated. -/
def stateCondition (n : Nat) (present : Bool) (s : State) : State :=
  if (s.alarm n).condition = present then s
  else followCondition n present (s.setAlarm n { s.alarm n with condition := present })

/-- Post an entry's ALARM notice again as a repeat, its timer restarted (R159). -/
def repeatAlarm (n : Nat) (s : State) : State :=
  noteAlarm n (alarmNotice n true s) (s.setAlarm n { s.alarm n with renotify := some s.now })

/-- The annunciator mode judged at the end of an event (R156). -/
def judgeAnnunciator (s : State) : State :=
  if s.alarms.posted = some s.annMode then s else postAnnunciate s.annMode s

/-- The end of an event that may have changed the alarm list or posted notices: the annunciator is
judged (R156), then the notices meet their class (R27). -/
def finishAlarms (s : State) : State := flushNotices (judgeAnnunciator s)

/-! ### Conditions that follow a record (R75, R120, R133, R146, R173) -/

/-- PUMP_TRIPPED and PUMP_FAULT of a pump (R120). -/
def statePumpConditions (p : Pump) (s : State) : State :=
  stateCondition (faultEntry p) (s.pumpFault p)
    (stateCondition (trippedEntry p) (s.pumpTripped p) s)

/-- RAKE_JAMMED (R133). -/
def stateRakeJammed (r : Side) (s : State) : State :=
  stateCondition (jammedEntry r) (s.rake r).latch.isSome s

/-- SUPPLY_LOST and ON_GENERATOR (R75). -/
def stateSupply (s : State) : State :=
  stateCondition 22 (decide (s.arbiter.supply = .generator))
    (stateCondition 21 (decide (s.arbiter.supply = .lost)) s)

/-- LOG_LOSS (R146). -/
def stateLogLoss (s : State) : State := stateCondition 25 s.spill.collectionOwed s

/-- STORE_FAULT (R173). -/
def stateStoreFault (s : State) : State :=
  stateCondition 24 (s.tables.marks.toList.any id) s

/-- SPILL of a weir: present in SPILLING and RECEDING (R143). -/
def stateSpill (w : Weir) (s : State) : State :=
  stateCondition w.spillEntry
    (match (s.spill.weirs.get w).state with
      | .spilling => true
      | .receding => true
      | _ => false) s

/-- POINT_FAILED of a point (R51): present while it is defined with alarm enable set and its age is
above the fail limit. -/
def statePointFailed (n : Nat) (s : State) : State :=
  stateCondition (26 + n)
    (match s.pointDef n with
      | some d => d.alarmEnable && decide (d.fail < (s.pointRec n).age)
      | none => false) s

/-! ### Timers of the drive arbiter (R77, R78) -/

/-- The stagger timer starts (R77). -/
def startStagger (s : State) : State :=
  { s with arbiter := { s.arbiter with stagger := some s.now } }

/-- The power-return timer starts from its full length; a time of 0 expires at once (R78). -/
def startPowerReturn (s : State) : State :=
  { s with arbiter := { s.arbiter with
      powerReturn := if s.powerReturnTime = 0 then .expired else .running s.now } }

/-- The power-return timer is stopped and stands unexpired (R78). -/
def stopPowerReturn (s : State) : State :=
  { s with arbiter := { s.arbiter with powerReturn := .stopped } }

end Sys2Proof.Machine
end

