-- ==== Sys2Proof/Machine/Pumps.lean ====
section
/-! DEFINITION. Moves of a pump's record: starting, running, stopping, modes and placement
(06_pump_sequencing.md), and pump protection's judgement (07_pump_protection.md). -/

namespace Sys2Proof.Machine

/-! ### Orders (R96) -/

/-- A pump leaves the run order. -/
def leaveRunOrder (p : Pump) (s : State) : State :=
  { s with seq := { s.seq with run := s.seq.run.filter fun q => decide (q ≠ p) } }

/-- A pump joins the tail of the run order. -/
def joinRunOrder (p : Pump) (s : State) : State :=
  { s with seq := { s.seq with run := s.seq.run ++ [p] } }

/-- A pump is moved from its place to the tail of the duty order. -/
def toDutyTail (p : Pump) (s : State) : State :=
  { s with seq := { s.seq with duty := (s.seq.duty.filter fun q => decide (q ≠ p)) ++ [p] } }

/-- What leaving STARTING or RUNNING does to the shared records (R77, R95, R96): the stagger starts,
or the pump leaves the run order. -/
def releaseDrive (p : Pump) (s : State) : State :=
  match (s.pump p).state with
  | .starting => startStagger s
  | .running => leaveRunOrder p s
  | _ => s

/-! ### Protection's judgement (R115 to R117) -/

/-- The cause of a latch held with cause `c` after a judgement (R116). A cause with action STOP stays; else the
first latching source with action STOP takes its place. A cause whose action a PUMP table has made ALARM_ONLY, or
left without one, gives way to any latching source (DESIGN CHOICE, log 41). -/
def State.causeAfter (s : State) (p : Pump) (c : FaultSource) : FaultSource :=
  if s.sourceAction p c = some .stop then c
  else
    match (s.latchingSources p).find? (s.presentWith p .latch .stop) with
    | some f => f
    | none =>
      if s.sourceAction p c = some .inhibitStart then c else ((s.latchingSources p).head?).getD c

/-- The trip latch after a judgement (R116). -/
def State.latchAfter (s : State) (p : Pump) : Option FaultSource :=
  match (s.pump p).latch with
  | none => (s.latchingSources p).head?
  | some c => some (s.causeAfter p c)

/-- First part of a judgement (R116), for an installed pump. -/
def judgeLatch (p : Pump) (s : State) : State :=
  if s.installed p then s.setPump p { s.pump p with latch := s.latchAfter p } else s

/-- A pump enters HELD or TRIPPED by pump protection (R95, R117): STOP is posted. -/
def protectTo (st : PumpState) (p : Pump) (s : State) : State :=
  let s := releaseDrive p s
  postPump p .stop
    (s.setPump p
      { s.pump p with state := st, minRun := none, startConfirm := none, stopConfirm := none })

/-- The states a STOP-action latch takes to TRIPPED (R117 case 1). -/
def PumpState.trippable : PumpState → Bool
  | .idle | .startWait | .starting | .running | .stopping | .held => true
  | _ => false

/-- The states a HOLD-class STOP source takes to HELD (R117 case 3). -/
def PumpState.holdable : PumpState → Bool
  | .idle | .startWait | .starting | .running | .stopping => true
  | _ => false

/-- Second part of a judgement (R117), for a pump in an AUTO state. -/
def judgeMove (p : Pump) (s : State) : State :=
  let r := s.pump p
  let action := r.latch.bind (s.sourceAction p)
  if r.state.mode ≠ .auto then s
  else if action = some .stop then
    if r.state.trippable then protectTo .tripped p s else s
  else if action = some .inhibitStart then
    if r.state = .idle ∨ r.state = .startWait then protectTo .tripped p s else s
  else if s.holdStop p ∧ r.state.holdable then protectTo .held p s
  else s

/-- A pump that enters IDLE from STOPPING or at a loss of supply under a latch that inhibits starting
enters TRIPPED in that event (R117 case 2), by the action then in force for its cause (DEDUCED, log 42). -/
def tripInhibited (p : Pump) (s : State) : State :=
  if (s.pump p).latch.bind (s.sourceAction p) = some .inhibitStart ∧ (s.pump p).state = .idle then
    protectTo .tripped p s
  else s

/-- A judgement of a pump (R115), with the conditions that follow its record (R120). -/
def judgePump (p : Pump) (s : State) : State :=
  judgeMove p (statePumpConditions p (judgeLatch p s))

/-! ### Running and stopping (R91 to R93) -/

/-- A pump enters RUNNING from STARTING (R92). -/
def enterRunning (p : Pump) (s : State) : State :=
  startStagger <| joinRunOrder p <|
    s.setPump p { s.pump p with state := .running, startConfirm := none, minRun := some s.now }

/-- The start history with a new entry, at most 12 (R91). -/
def pushHistory (h : List Nat) (t : Nat) : List Nat :=
  if 12 ≤ h.length then h.tail ++ [t] else h ++ [t]

/-- An eligible pump is granted and enters STARTING (R91), and RUNNING at once if its feedback is
already active. -/
def startPump (p : Pump) (s : State) : State :=
  let r := s.pump p
  let s := postPump p .run
    (s.setPump p
      { r with
        state := .starting
        history := pushHistory r.history s.clock.running
        startConfirm := some s.now })
  if s.feedbackActive p then enterRunning p s else s

/-- A pump in STOPPING whose feedback is not active enters IDLE at the tail of the duty order (R93);
a latch that inhibits starting then takes it to TRIPPED (R117). -/
def pumpStopped (p : Pump) (s : State) : State :=
  tripInhibited p <| toDutyTail p <|
    s.setPump p { s.pump p with state := .idle, stopConfirm := none, minOff := some s.now }

/-- A pump enters STOPPING from STARTING or RUNNING (R93, R80): STOP is posted, and the feedback is
judged at once. -/
def enterStopping (p : Pump) (s : State) : State :=
  let s := releaseDrive p s
  let s := postPump p .stop
    (s.setPump p
      { s.pump p with
        state := .stopping, minRun := none, startConfirm := none, stopConfirm := some s.now })
  if s.feedbackActive p then s else pumpStopped p s

/-- Loss of supply for a pump in STARTING, RUNNING or STOPPING in AUTO (R82). -/
def pumpSupplyLost (p : Pump) (s : State) : State :=
  match (s.pump p).state with
  | .starting | .running | .stopping =>
    let s := releaseDrive p s
    tripInhibited p <| postPump p .stop <|
      s.setPump p
        { s.pump p with
          state := .idle, startConfirm := none, stopConfirm := none, minOff := some s.now }
  | _ => s

/-! ### Modes (R86, R88, R89) -/

/-- A pump's effective mode leaves AUTO (R88). -/
def pumpLeavesAuto (p : Pump) (st : PumpState) (s : State) : State :=
  let s := releaseDrive p s
  withdraw (.pump p)
    (s.setPump p
      { s.pump p with state := st, minRun := none, startConfirm := none, stopConfirm := none })

/-- A pump coming to AUTO is placed (R89): TRIPPED, adopted into RUNNING, or IDLE. -/
def placePump (p : Pump) (s : State) : State :=
  let r := s.pump p
  if r.latch.isSome then postPump p .stop (s.setPump p { r with state := .tripped })
  else if s.feedbackActive p then
    postPump p .run <| joinRunOrder p <|
      s.setPump p { r with state := .running, minRun := some s.now }
  else postPump p .stop (s.setPump p { r with state := .idle })

/-- The effective mode of a pump judged afresh (R86), and the change acted on (R88, R89). -/
def judgePumpMode (p : Pump) (s : State) : State :=
  let st := (s.pump p).state
  match st.mode, s.targetMode p with
  | .auto, .hand => pumpLeavesAuto p .hand s
  | .auto, .off => postPump p .stop (pumpLeavesAuto p .off s)
  | .hand, .off => postPump p .stop (s.setPump p { s.pump p with state := .off })
  | .off, .hand => withdraw (.pump p) (s.setPump p { s.pump p with state := .hand })
  | .hand, .auto => placePump p s
  | .off, .auto => placePump p s
  | .auto, .auto => s
  | .hand, .hand => s
  | .off, .off => s

/-- The selector reading a value gives (R86); 3 gives off. -/
def readingOf (v : Int) : Mode :=
  if v = 1 then .hand else if v = 2 then .auto else .off

/-- A pump's selector reading judged from its point (R86), then its effective mode. -/
def judgeSelector (p : Pump) (s : State) : State :=
  let reading :=
    match s.roleRec fun r => r.selector.get p with
    | none => Mode.auto
    | some r => if r.quality.usable then readingOf r.value else (s.pump p).selector
  judgePumpMode p (s.setPump p { s.pump p with selector := reading })

/-! ### Fault sources (R110 to R114) -/

/-- A fault point read through its polarity (R110). -/
def State.faultReading (s : State) (p : Pump) (f : FaultSource) : Bool :=
  let role : Roles → Option Nat :=
    match f with
    | .f1 => fun r => r.f1.get p
    | .f2 => fun r => r.f2.get p
    | _ => fun r => r.f3.get p
  let setting : Option FaultSetting :=
    match f with
    | .f1 => (s.pumpEntry p).map (·.f1)
    | .f2 => (s.pumpEntry p).map (·.f2)
    | _ => (s.pumpEntry p).map (·.f3)
  match setting, s.usableValue role with
  | some c, some v =>
    match c.polarity with
    | .activeHigh => decide (v = 1)
    | .activeLow => decide (v = 0)
  | _, _ => false

/-- Set the state of F1, F2 or F3. -/
def Sources.setFault (x : Sources) (f : FaultSource) (b : Bool) : Sources :=
  match f with
  | .f1 => { x with f1 := b }
  | .f2 => { x with f2 := b }
  | _ => { x with f3 := b }

/-- Replace a pump's source states. -/
def State.setSources (s : State) (p : Pump) (x : Sources) : State :=
  s.setPump p { s.pump p with sources := x }

/-- A source on a fault point judged (R110): it appears, with a judgement of the pump (R115), or
clears, in this event. -/
def judgeFault (p : Pump) (f : FaultSource) (s : State) : State :=
  let was := s.sourcePresent p f
  let is := s.installed p && s.faultReading p f
  if was = is then s
  else
    let s := s.setSources p ((s.pump p).sources.setFault f is)
    if is then judgePump p s else statePumpConditions p s

/-- A pump's three fault points judged, F1 first. Where one event gives all three a new reading (a PUMP or a STATION
activation), each appearance brings its own judgement while the later sources still stand as they did, so that an F1
that appears can latch an F2 that then clears; R121 gives no order (DESIGN CHOICE, logs 43 and 19). -/
def judgeFaults (p : Pump) (s : State) : State :=
  judgeFault p .f3 (judgeFault p .f2 (judgeFault p .f1 s))

/-- A pump's current point is usable and reads above the limit (R111). -/
def State.overLimit (s : State) (p : Pump) : Bool :=
  match s.pumpEntry p, s.usableValue fun r => r.current.get p with
  | some e, some v => s.installed p && decide ((e.currentLimit : Int) < v)
  | _, _ => false

/-- The overcurrent timer judged at a change of the current point (R111). -/
def judgeOvercurrent (p : Pump) (s : State) : State :=
  let r := s.pump p
  if s.overLimit p then
    if r.overTimer.isSome then s else s.setPump p { r with overTimer := some s.now }
  else
    statePumpConditions p
      (s.setPump p { r with overTimer := none, sources := { r.sources with overcurrent := false } })

/-- OVERCURRENT set present with its timer stopped (R111). -/
def setOvercurrent (p : Pump) (s : State) : State :=
  s.setPump p
    { s.pump p with overTimer := none, sources := { (s.pump p).sources with overcurrent := true } }

/-- The overcurrent timer reaches its delay (R111): OVERCURRENT becomes present, and the pump is
judged if it was not present before (R115). -/
def overcurrentReached (p : Pump) (s : State) : State :=
  if (s.pump p).sources.overcurrent then setOvercurrent p s else judgePump p (setOvercurrent p s)

/-- The start confirm timer of a pump in STARTING expires (R92, R114). -/
def startConfirmExpired (p : Pump) (s : State) : State :=
  let r := s.pump p
  if r.state = .starting ∧ r.startConfirm.isSome then
    judgePump p (s.setPump p
      { r with startConfirm := none, sources := { r.sources with failToStart := true } })
  else s

/-- The stop confirm timer of a pump in STOPPING expires (R93, R114). -/
def stopConfirmExpired (p : Pump) (s : State) : State :=
  let r := s.pump p
  if r.state = .stopping ∧ r.stopConfirm.isSome then
    judgePump p (s.setPump p
      { r with stopConfirm := none, sources := { r.sources with failToStopRaised := true } })
  else s

/-- A command to a pump's starter was given up (R35, R113): COMMAND_LOST becomes present. -/
def pumpCommandLost (p : Pump) (s : State) : State :=
  let r := s.pump p
  if s.installed p ∧ r.sources.commandLost = false then
    judgePump p (s.setSources p { r.sources with commandLost := true })
  else s

/-- A command to a pump's starter was taken (R107, R113). -/
def pumpCommandTaken (p : Pump) (code : CommandCode) (s : State) : State :=
  let r := s.pump p
  statePumpConditions p
    (s.setPump p
      { r with
        confirmed := r.confirmed || decide (code = r.command)
        sources := { r.sources with commandLost := false } })

/-- The minimum off timer starts at a fall of run feedback (R94). -/
def feedbackFell (p : Pump) (was : Bool) (s : State) : State :=
  if was && !s.feedbackActive p then s.setPump p { s.pump p with minOff := some s.now } else s

/-- STARTING and STOPPING judged on run feedback (R92, R93). -/
def feedbackMoves (p : Pump) (s : State) : State :=
  match (s.pump p).state with
  | .starting => if s.feedbackActive p then enterRunning p s else s
  | .stopping => if s.feedbackActive p then s else pumpStopped p s
  | _ => s

/-- FAIL_TO_STOP present again where feedback returns while it is raised (R114, R115). -/
def feedbackReturned (p : Pump) (was : Bool) (s : State) : State :=
  if !was && s.feedbackActive p && (s.pump p).sources.failToStopRaised then judgePump p s else s

/-- A pump's run feedback point changed its value or quality (R92, R93, R94, R114); `was` is whether
the feedback was active before. -/
def feedbackChanged (p : Pump) (was : Bool) (s : State) : State :=
  feedbackReturned p was (feedbackMoves p (feedbackFell p was s))

/-! ### Leaving HELD and TRIPPED (R118, R119), and the balance update (R112, R115) -/

/-- Where a pump goes that leaves HELD, or TRIPPED by a reset, with no HOLD-class STOP source present
(R118). -/
def releasePump (p : Pump) (s : State) : State :=
  let r := s.pump p
  if r.latch.isSome then s.setPump p { r with state := .tripped }
  else if s.feedbackActive p then
    s.setPump p { r with state := .stopping, stopConfirm := some s.now }
  else s.setPump p { r with state := .idle }

/-- The uncommanded count after a balance update (R112). -/
def State.uncommandedAfter (s : State) (p : Pump) : Nat :=
  if (s.pump p).state = .running ∧ s.feedbackActive p = false ∧ s.arbiter.supply ≠ .lost then
    min 3 ((s.pump p).uncommanded + 1)
  else 0

/-- Pump protection takes a balance record, for one pump (R112, R115, R118): the uncommanded count and
its source, a judgement, and the release from HELD, in that order: a HELD pump whose latch has come to stop enters
TRIPPED by the judgement, with STOP posted, and not by the release (DESIGN CHOICE, log 53). -/
def protectPump (p : Pump) (s : State) : State :=
  if s.installed p then
    let r := s.pump p
    let n := s.uncommandedAfter p
    let appears := decide (n = 3 ∧ r.uncommanded = 2) && (s.pumpEntry p).isSome
    let s := judgePump p
      (s.setPump p
        { r with uncommanded := n, sources := { r.sources with uncommandedStop := appears } })
    if (s.pump p).state = .held ∧ s.holdStop p = false then releasePump p s else s
  else s

/-- The latch of a pump is cleared by RESET_DRIVE, and the pump moves (R119). -/
def clearLatch (p : Pump) (s : State) : State :=
  let r := s.pump p
  let s := statePumpConditions p
    (s.setPump p
      { r with
        latch := none
        sources := { r.sources with failToStart := false, failToStopRaised := false } })
  if (s.pump p).state = .tripped then
    if s.holdStop p then s.setPump p { s.pump p with state := .held } else releasePump p s
  else s

/-- RESET_DRIVE for an installed pump (R119). -/
def resetPump (p : Pump) (s : State) : Status × State :=
  let r := s.pump p
  if r.latch.isSome then
    if (s.latchingSources p).any (fun f => decide (f ≠ .failToStart)) then (.badState, s)
    else (.done, clearLatch p s)
  else if r.sources.commandLost ∧ r.state.mode ≠ .hand then (.done, postPump p r.command s)
  else (.done, s)

end Sys2Proof.Machine
end

