-- ==== Sys2Proof/Machine/Rakes.lean ====
section
/-! DEFINITION. Moves of a rake's record: modes and placement, requests, the rake cycle, jams and
shedding (08_screens_and_rakes.md). -/

namespace Sys2Proof.Machine

/-- A rake's preemption mark (R81). -/
def setPreempt (r : Side) (b : Bool) (s : State) : State :=
  { s with arbiter := { s.arbiter with preempt := s.arbiter.preempt.set r b } }

/-- A rake's timers stopped, the attempt count 0 and park-seen clear (R126, R131). -/
def RakeRec.rest (v : RakeRec) (st : RakeState) : RakeRec :=
  { v with state := st, attempts := 0, parkSeen := false, travel := none, reverse := none, jam := none }

/-! ### Requests (R127) -/

/-- The differential, judged at the last balance update against the rake start differential then in force (R134),
or the blinded mark standing from it, calls for raking (R127). -/
def State.rakeCalled (s : State) (r : Side) : Bool :=
  (s.screenDef r).isSome && ((s.screen r).atStart || (s.screen r).blinded)

/-- A rake in service and in IDLE is given a request (R127). -/
def giveRequest (r : Side) (s : State) : State :=
  if s.inService r ∧ (s.rake r).state = .idle then
    s.setRake r { s.rake r with state := .waitSlot }
  else s

/-- The request judged at an entry to IDLE and at a balance update (R127). -/
def judgeRequest (r : Side) (s : State) : State :=
  if s.rakeCalled r then giveRequest r s else s

/-! ### Modes and placement (R125, R126) -/

/-- A rake's effective mode leaves AUTO (R126). -/
def rakeLeavesAuto (r : Side) (st : RakeState) (s : State) : State :=
  setPreempt r false <| withdraw (.rake r) (s.setRake r ((s.rake r).rest st))

/-- A rake coming to AUTO is placed (R126): JAMMED, or IDLE with its request judged. -/
def placeRake (r : Side) (s : State) : State :=
  if (s.rake r).latch.isSome then
    postRake r .stop (s.setRake r { s.rake r with state := .jammed })
  else judgeRequest r (postRake r .stop (s.setRake r { s.rake r with state := .idle }))

/-- The effective mode of a rake judged afresh (R125), and the change acted on (R126). -/
def judgeRakeMode (r : Side) (s : State) : State :=
  let st := (s.rake r).state
  match st.mode, s.rakeTargetMode r with
  | .auto, .hand => rakeLeavesAuto r .hand s
  | .auto, .off => postRake r .stop (rakeLeavesAuto r .off s)
  | .hand, .off => postRake r .stop (s.setRake r { s.rake r with state := .off })
  | .off, .hand => withdraw (.rake r) (s.setRake r { s.rake r with state := .hand })
  | .hand, .auto => placeRake r s
  | .off, .auto => placeRake r s
  | .auto, .auto => s
  | .hand, .hand => s
  | .off, .off => s

/-! ### The cycle (R128 to R130) -/

/-- A rake's current point is usable and reads above the jam current limit (R129). -/
def State.jamCurrent (s : State) (r : Side) : Bool :=
  match s.screenDef r, s.usableValue fun t => t.rakeCurrent.get r with
  | some d, some v => decide ((d.jamLimit : Int) < v)
  | _, _ => false

/-- The jam current timer judged in RAKING (R129). -/
def judgeJamTimer (r : Side) (s : State) : State :=
  let v := s.rake r
  if v.state = .raking then
    if s.jamCurrent r then
      if v.jam.isSome then s else s.setRake r { v with jam := some s.now }
    else s.setRake r { v with jam := none }
  else s

/-- A rake in WAIT_SLOT is granted and enters RAKING (R128); its preemption mark is cleared (R81). -/
def grantRake (r : Side) (s : State) : State :=
  judgeJamTimer r <| postRake r .run <| setPreempt r false <|
    s.setRake r
      { (s.rake r).rest .raking with travel := some s.now }

/-- A cycle is complete (R128). -/
def completeCycle (r : Side) (s : State) : State :=
  let v := s.rake r
  judgeRequest r <| postRake r .stop <|
    s.setRake r
      { v with
        state := .idle
        travel := none
        jam := none
        cycles := addSat max32 v.cycles 1
        interval := 0 }

/-- The park point judged in RAKING at a change of its value or quality (R128): at any such change, one that only
takes it from a usable quality to another among them; at no other moment, the return from REVERSING among them
(DESIGN CHOICE, log 55). -/
def judgePark (r : Side) (s : State) : State :=
  let v := s.rake r
  if v.state = .raking then
    match s.usableValue fun t => t.park.get r with
    | none => s
    | some x =>
      if x = 0 then s.setRake r { v with parkSeen := true }
      else if x = 1 ∧ v.parkSeen then completeCycle r s
      else s
  else s

/-- A jam is suspected in RAKING (R129): the rake enters REVERSING. -/
def suspectJam (r : Side) (c : JamCause) (s : State) : State :=
  postRake r .runReverse
    (s.setRake r
      { s.rake r with
        state := .reversing, cause := c, travel := none, jam := none, reverse := some s.now })

/-- A rake enters JAMMED with a cause (R130, R132). -/
def enterJammed (r : Side) (c : JamCause) (s : State) : State :=
  stateRakeJammed r <| postRake r .stop <|
    s.setRake r
      { s.rake r with
        state := .jammed, latch := some c, travel := none, jam := none, reverse := none }

/-- The travel timer expires (R129). -/
def travelExpired (r : Side) (s : State) : State :=
  if (s.rake r).state = .raking ∧ (s.rake r).travel.isSome then suspectJam r .travel s else s

/-- The jam current timer reaches the jam delay (R129). -/
def jamCurrentReached (r : Side) (s : State) : State :=
  if (s.rake r).state = .raking ∧ (s.rake r).jam.isSome then suspectJam r .current s else s

/-- The reverse timer expires (R130): another try, or JAMMED with the cause of the last suspicion. -/
def reverseExpired (r : Side) (s : State) : State :=
  let v := s.rake r
  if v.state = .reversing ∧ v.reverse.isSome then
    if v.attempts < ((s.screenDef r).map (·.retryLimit)).getD 0 then
      judgeJamTimer r <| postRake r .run <|
        s.setRake r
          { v with
            state := .raking, attempts := v.attempts + 1, reverse := none, travel := some s.now }
    else enterJammed r v.cause s
  else s

/-! ### Shedding and commands (R131, R132, R133) -/

/-- The arbiter takes a rake's grant by shedding or at a loss of supply (R131). -/
def shedRake (r : Side) (s : State) : State :=
  if (s.rake r).state.granted then
    postRake r .stop (s.setRake r ((s.rake r).rest .waitSlot))
  else s

/-- A command to a rake's actuator was taken (R132). -/
def rakeCommandTaken (r : Side) (code : CommandCode) (s : State) : State :=
  let v := s.rake r
  s.setRake r { v with confirmed := v.confirmed || decide (code = v.command), lost := false }

/-- A command to a rake's actuator was given up (R132). -/
def rakeCommandLost (r : Side) (s : State) : State :=
  if (s.rake r).state.granted then enterJammed r .commandLost s
  else s.setRake r { s.rake r with lost := true }

/-- A rake's jam latch cleared (R133): from JAMMED it enters IDLE, its request judged. -/
def clearJam (r : Side) (s : State) : State :=
  if (s.rake r).state = .jammed then
    judgeRequest r (stateRakeJammed r (s.setRake r { s.rake r with latch := none, state := .idle }))
  else stateRakeJammed r (s.setRake r { s.rake r with latch := none })

/-- RESET_DRIVE for a rake in service (R133). -/
def resetRake (r : Side) (s : State) : State :=
  if (s.rake r).latch.isSome then clearJam r s else s

/-- The balance update's work on a rake's interval counter (R124). -/
def countInterval (r : Side) (s : State) : State :=
  let v := s.rake r
  match s.screenDef r with
  | none => s
  | some d =>
    if s.inService r ∧ v.state = .idle ∧ 0 < d.interval then
      let n := v.interval + 1
      if 60 * d.interval ≤ n then giveRequest r (s.setRake r { v with interval := 0 })
      else s.setRake r { v with interval := n }
    else s

/-- A differential is at or above the rake start differential S_r (R127). -/
def ScreenDef.reachesStart (d : ScreenDef) : Option Int → Bool
  | none => false
  | some x => decide (d.rakeStart ≤ x)

/-- The screen controller takes a balance record, for one screen (R123, R124, R127): the differential
and the blinded mark, the interval counter, and the rake's request. -/
def judgeScreen (r : Side) (s : State) : State :=
  match s.screenDef r with
  | none => s
  | some d =>
    let diff :=
      match s.usableValue fun t => t.upstream.get r, s.usableValue fun t => t.downstream.get r with
      | some u, some l => some (u - l)
      | _, _ => none
    let was := (s.screen r).blinded
    let is :=
      match diff with
      | none => false
      | some x => if was then !decide (x ≤ d.clear) else decide (d.blinded ≤ x)
    let s := stateCondition (blindedEntry r) is (s.setScreen r ⟨diff, d.reachesStart diff, is⟩)
    judgeRequest r (countInterval r s)

end Sys2Proof.Machine
end

