-- ==== Sys2Proof/Machine/Arbiter.lean ====
section
/-! DEFINITION. The drive arbiter's acts: shedding, preemption, the grant pass, and the supply state
(05_drive_slots_and_supply.md). -/

namespace Sys2Proof.Machine

/-! ### Shedding (R80) -/

/-- Grants are held and the occupancy exceeds the capacity (R80). -/
def State.overOccupied (s : State) : Bool :=
  decide (0 < s.grants) && decide (s.capacity < s.grants + s.loose)

/-- Shed a pump holding a grant (R80 step 2): it enters STOPPING without regard to its minimum run
time. -/
def shedPump (p : Pump) (s : State) : State :=
  if (s.pump p).state.granted then enterStopping p s else s

/-- A drive's grant is withdrawn. -/
def shedDrive : Drive → State → State
  | .pump p => shedPump p
  | .rake r => shedRake r

/-- The order in which grants are withdrawn (R80): non-urgent rakes B before A; the pump in STARTING,
then the pumps in RUNNING from the tail of the run order; urgent rakes B before A. -/
def State.shedOrder (s : State) : List Drive :=
  let rakes := [Side.b, Side.a].filter fun r => (s.rake r).state.granted
  (rakes.filter fun r => !s.urgent r).map .rake ++
  (pumps.filter fun p => decide ((s.pump p).state = .starting)).map .pump ++
  s.seq.run.reverse.map .pump ++
  (rakes.filter s.urgent).map .rake

/-- The shedding check (R80): grants are withdrawn one at a time while the law of the slot record is
broken. -/
def shedCheck (s : State) : State :=
  s.shedOrder.foldl (fun s d => if s.overOccupied then shedDrive d s else s) s

/-! ### The grant pass (R79, R81) -/

/-- A rake waits with the power-return timer expired in AUTOMATIC, its request of the given urgency. -/
def State.waiting (s : State) (urgent : Bool) (r : Side) : Bool :=
  decide ((s.rake r).state = .waitSlot) && decide (s.urgent r = urgent) && s.powerReturned &&
    s.automatic

/-- Grant a rake into a free slot, if there is one. -/
def grantIfFree (r : Side) (s : State) : State := if 0 < s.freeSlots then grantRake r s else s

/-- An urgent request displaces the pump at the tail of the run order, once (R81). -/
def preempt (r : Side) (s : State) : State :=
  if s.freeSlots = 0 ∧ s.arbiter.preempt.get r = false then
    match s.seq.run.getLast? with
    | none => s
    | some p => setPreempt r true (shedPump p s)
  else s

/-- Step 1 of the pass for one rake (R79, R81): preemption is judged before the rake's grant, in this step
(DESIGN CHOICE, log 39). -/
def grantUrgent (r : Side) (s : State) : State :=
  if s.waiting true r then grantIfFree r (preempt r s) else s

/-- Step 2 of the pass for one pump of the duty order (R79, R91). -/
def grantCandidate (p : Pump) (s : State) : State :=
  if (s.pump p).state = .startWait ∧ s.startSlotOpen ∧ 0 < s.freeSlots then
    if s.eligible p then startPump p s
    else s.setPump p { s.pump p with state := .idle }
  else s

/-- Step 3 of the pass for one rake (R79). -/
def grantOther (r : Side) (s : State) : State :=
  if s.waiting false r then grantIfFree r s else s

/-- The grant pass (R79). -/
def grantPass (s : State) : State :=
  let s := eachSide grantUrgent s
  let s := s.seq.duty.foldl (fun s p => grantCandidate p s) s
  eachSide grantOther s

/-! ### The supply (R74, R75, R82, R83) -/

/-- The supply state the supply source point gives (R74). -/
def State.supplyReading (s : State) : Supply :=
  match s.roleRec fun r => r.supply with
  | none => .mains
  | some r =>
    if r.quality.usable then
      if r.value = 0 then .lost
      else if r.value = 1 then .mains
      else if r.value = 2 then .generator
      else s.arbiter.supply
    else s.arbiter.supply

/-- The supply becomes NONE (R82): the pumps in number order, then rakes A and B (DESIGN CHOICE, log 49). -/
def supplyLost (s : State) : State :=
  stopPowerReturn (eachSide shedRake (eachPump pumpSupplyLost s))

/-- The supply state judged afresh (R74), and its change acted on (R75, R82, R83). The shedding check
and the grant pass follow at the end of the event. -/
def judgeSupply (s : State) : State :=
  let was := s.arbiter.supply
  let is := s.supplyReading
  if was = is then s
  else
    let s := stateSupply { s with arbiter := { s.arbiter with supply := is } }
    if is = .lost then supplyLost s
    else if was = .lost then startPowerReturn s
    else s

end Sys2Proof.Machine
end

