-- ==== Sys2Proof/Machine/Balance.lean ====
section
/-! DEFINITION. The balance update: the flow accountant's stages (04_storage_and_flow_accounting.md) and
the pump sequencer's five stages (06_pump_sequencing.md, sections 6.5 to 6.9). -/

namespace Sys2Proof.Machine

/-! ### Interpolation (R60) -/

/-- Past breakpoint `p`, the curve goes on through `rest`. -/
def interpFrom (x : Int) : Int × Int → Curve → Int
  | p, [] => p.2
  | p, q :: rest =>
    if x < q.1 then p.2 + ((x - p.1) * (q.2 - p.2)).tdiv (q.1 - p.1) else interpFrom x q rest

/-- A curve read at x (R60). -/
def interp (c : Curve) (x : Int) : Int :=
  match c with
  | [] => 0
  | p :: rest => if x ≤ p.1 then p.2 else interpFrom x p rest

/-! ### Filter, volume, head (R61 to R63) -/

/-- The filter constant, 16 while no STORAGE table is active (R61). -/
def State.filterK (s : State) : Nat := (s.storage.map (·.k)).getD 16

/-- L_f16 after an update at a usable level (R61). -/
def filterStep (f : Option Int) (k : Nat) (level : Int) : Int :=
  match f with
  | none => 16 * level
  | some f => f + ((16 * level - f) * (k : Int)).tdiv 16

/-- The filtered level in mm of L_f16: the floor of (L_f16 + 8) / 16 (R61). -/
def levelOf (f : Int) : Int := (f + 8) / 16

/-- The filter and the held level after an update (R61). -/
def State.filtered (s : State) : Option Int × Option Int :=
  match s.usableValue (·.wetWell) with
  | some l =>
    let f := filterStep s.flow.filter s.filterK l
    (some f, some (levelOf f))
  | none => (none, s.flow.held)

/-- The filtered level and its basis, from the filter and the held level after an update (R61). -/
def basisOf (filter held : Option Int) : Int × LevelBasis :=
  match held with
  | none => (0, .none)
  | some l => (l, if filter.isSome then .filtered else .held)

/-- The volume at a filtered level (R62). -/
def State.volumeAt (s : State) (level : Int) (basis : LevelBasis) : Option Int :=
  match s.storage, basis with
  | some t, .filtered => some (interp t.curve level)
  | _, _ => none

/-- The head (R63). -/
def State.headAt (s : State) (level : Int) (basis : LevelBasis) : Option Head :=
  match s.pumpTable with
  | none => none
  | some t =>
    let d : Int × DischargeBasis :=
      match s.usableValue (·.river) with
      | some v => (v, .river)
      | none => (t.design, .design)
    let l := if basis = .none then d.1 else level
    some ⟨max 0 (d.1 - l) + t.allowance, d.2, basis⟩

/-! ### Pump and weir flows (R64 to R66) -/

/-- The rating curve of a pump read at a head; 0 without an entry or a head. -/
def State.rating (s : State) (h : Option Head) (p : Pump) : Int :=
  match s.pumpEntry p, h with
  | some e, some h => interp e.curve h.value
  | _, _ => 0

/-- The flow of a pump (R64). -/
def State.pumpFlow (s : State) (h : Option Head) (p : Pump) : Int :=
  if s.installed p ∧ s.feedbackActive p then s.rating h p else 0

/-- The sum of six figures. -/
def Six.sum (x : Six Int) : Int := x.p1 + x.p2 + x.p3 + x.p4 + x.p5 + x.p6

/-- The pumped totals after an update (R65). -/
def addTotals (t : Six Nat) (flows : Six Int) : Six Nat :=
  Six.ofFn fun p => addSat max32 (t.get p) (flows.get p).toNat

/-- The figure a weir's head is worked from (R66): the value the point presents, 0 at NONE. -/
def PointRec.figure (r : PointRec) : Int := if r.quality = .none then 0 else r.value

/-- A weir's part of the record (R66). A point at NONE holds 0, so that a crest below 0 has a head and a flow
(DEDUCED, log 46). -/
def State.weirAt (s : State) (w : Weir) : WeirFlow :=
  match s.weirDef w, s.roleRec (fun r => r.weirLevel.get w) with
  | some d, some r =>
    let h := r.figure - d.crest
    ⟨some h, r.quality.usable, if 0 < h then interp d.curve h else 0⟩
  | _, _ => WeirFlow.absent

/-- Spilled litres of the period (R66). -/
def spilledOf (x : Weirs WeirFlow) : Int :=
  (if x.w1.usable then x.w1.flow else 0) + (if x.w2.usable then x.w2.flow else 0)

/-! ### Ring and inflow (R67, R68) -/

/-- The ring after an update (R67). -/
def pushRing (ring : List RingEntry) (volume : Option Int) (pumped spilled : Int) :
    List RingEntry :=
  match volume with
  | none => []
  | some v =>
    (if Config.ringCapacity ≤ ring.length then ring.tail else ring) ++ [⟨v, pumped, spilled⟩]

/-- The number m of periods the estimate goes back over (R68): at most 59, the ring of R67 holding 60 entries, also
with W = 60, where R69 would have m come to W (DEDUCED, log 54). -/
def periods (window : Nat) (ring : List RingEntry) : Nat := min window (ring.length - 1)

/-- The sum S over m periods, the ring's newest entry first (R68). -/
def inflowSum (newestFirst : List RingEntry) (m : Nat) : Int :=
  let volumeAt := fun i => ((newestFirst[i]?).map (·.volume)).getD 0
  volumeAt 0 - volumeAt m +
    ((newestFirst.take m).map fun e => e.pumped + e.spilled).foldl (· + ·) 0

/-- The inflow estimate and its quality (R68). With W = 60 it stays PARTIAL, where R69 tells of VALID after W - 1
PARTIAL updates: R67 and R68 are followed (DEDUCED, log 54). -/
def inflow (window : Nat) (ring : List RingEntry) : Int × FlowQuality :=
  let m := periods window ring
  if m = 0 then (0, .invalid)
  else
    let sum := inflowSum ring.reverse m
    (if sum ≤ 0 then 0 else min 65535 (sum / (m : Int)), if m = window then .valid else .part)

/-! ### The record (R58, R59) -/

/-- Stages 2 to 10 of a balance expiry at the flow accountant (R58): the record is formed and takes the
place of the standing one. -/
def formRecord (s : State) : State :=
  let fh := s.filtered
  let lb := basisOf fh.1 fh.2
  let volume := s.volumeAt lb.1 lb.2
  let head := s.headAt lb.1 lb.2
  let flows := Six.ofFn (s.pumpFlow head)
  let total := flows.sum
  let ws : Weirs WeirFlow := ⟨s.weirAt .w1, s.weirAt .w2⟩
  let ring := pushRing s.flow.ring volume total (spilledOf ws)
  let q := inflow ((s.storage.map (·.window)).getD 0) ring
  { s with
    flow :=
      { filter := fh.1
        held := fh.2
        ring := ring
        record :=
          { running := s.clock.running
            wetWell := (s.roleRec (·.wetWell)).map fun r => (r.value, r.quality)
            level := lb.1
            basis := lb.2
            volume := volume
            head := head
            flows := flows
            total := total
            weirs := ws
            qin := q.1
            qinQuality := q.2 }
        totals := addTotals s.flow.totals flows } }

/-- The filtered level of the standing record, present while it is usable (R59). -/
def State.usableLevel (s : State) : Option Int :=
  if s.flow.record.basis = .filtered then some s.flow.record.level else none

/-! ### Stage 1: run seconds (R106) -/

/-- A pump's run seconds at an update (R106). -/
def countRunSecond (p : Pump) (s : State) : State :=
  if s.installed p ∧ s.feedbackActive p then
    s.setPump p { s.pump p with runSeconds := addSat max32 (s.pump p).runSeconds 1 }
  else s

/-! ### Stage 2: band engagement (R98) -/

/-- The running rating (R98). -/
def State.runningRating (s : State) : Int :=
  (s.grantedPumps.map (s.rating s.flow.record.head)).foldl (· + ·) 0

/-- A band becomes engaged by lead (R98). -/
def State.leads (s : State) (b : Band) (level : Int) : Bool :=
  decide (0 < b.lead) && decide (b.start - b.lead ≤ level) &&
    decide (s.flow.record.qinQuality ≠ .invalid) && decide (s.runningRating < s.flow.record.qin)

/-- A band's engaged flag after stage 2 (R98). -/
def State.judgeBand (s : State) (level : Int) (b : Band) (was : Bool) : Bool :=
  if was then !decide (level < b.stop) else decide (b.start ≤ level) || s.leads b level

/-- The engaged flags after stage 2; released when the level is not usable (R98, R99, log 12). -/
def State.engagement (s : State) : List Bool :=
  match s.usableLevel with
  | none => s.bands.map fun _ => false
  | some l => List.zipWith (s.judgeBand l) s.bands s.seq.engaged

/-- Stage 2 (R98). -/
def judgeBands (s : State) : State := { s with seq := { s.seq with engaged := s.engagement } }

/-! ### Stage 3: demand (R99, R100) -/

/-- The greatest pump count among the engaged bands (R99). -/
def State.bandDemand (s : State) : Nat :=
  ((s.bands.zip s.seq.engaged).filter (·.2)).foldl (fun n x => max n x.1.count) 0

/-- The case of demand and the figure before the cap (R99). -/
def State.demandCase (s : State) : DemandCase × Nat :=
  if s.roleActive (·.lowFloat) then (.lowFloat, 0)
  else if s.roleActive (·.highFloat) then (.highFloat, s.installedPumps.length)
  else match s.usableLevel with
    | none => (.failedLevel, (s.bandTable.map (·.failedCount)).getD 0)
    | some _ => (.bands, s.bandDemand)

/-- The number of screens blinded. -/
def State.blindedCount (s : State) : Nat :=
  (sides.filter fun r => (s.screen r).blinded).length

/-- The blinded cap (R100). -/
def State.blindedCap (s : State) : Option Nat :=
  match s.screenTable with
  | none => none
  | some t =>
    match s.blindedCount with
    | 0 => none
    | 1 => some t.oneCap
    | _ => some t.twoCap

/-- The demand record formed at an update (R99, R100). -/
def State.demandNow (s : State) : DemandRecord :=
  let c := s.demandCase
  { d := (match s.blindedCap with
      | none => c.2
      | some cap => min c.2 cap)
    reason := c.1, uncapped := c.2, cap := s.blindedCap }

/-- Stage 3 (R99). -/
def formDemand (s : State) : State := { s with seq := { s.seq with demand := s.demandNow } }

/-! ### Stage 4: conditions (R101) -/

/-- HIGH_LEVEL after stage 4 (R101). -/
def State.highLevelNow (s : State) : Bool :=
  match s.alarmTable with
  | none => false
  | some t =>
    match s.usableLevel with
    | none => s.seq.highLevel
    | some l =>
      if t.level ≤ l then true else if l < t.level - 50 then false else s.seq.highLevel

/-- Stage 4 (R101). -/
def judgeLevels (s : State) : State :=
  let high := s.highLevelNow
  let float := s.roleActive (·.highFloat)
  stateCondition 20 float <| stateCondition 19 high
    { s with seq := { s.seq with highLevel := high, backupFloat := float } }

/-! ### Stage 5: action on demand (R104, R105) -/

/-- A pump in START_WAIT that is no longer eligible returns to IDLE (R104). -/
def dropIneligible (p : Pump) (s : State) : State :=
  if (s.pump p).state = .startWait ∧ s.eligible p = false then
    s.setPump p { s.pump p with state := .idle }
  else s

/-- Demand above A: an eligible IDLE pump is moved to START_WAIT (R104). -/
def raisePump (s : State) (p : Pump) : State :=
  if s.committed < s.seq.demand.d ∧ (s.pump p).state = .idle ∧ s.eligible p then
    s.setPump p { s.pump p with state := .startWait }
  else s

/-- Demand below A: a pump in START_WAIT is returned to IDLE (R105 step 1). -/
def lowerWaiting (s : State) (p : Pump) : State :=
  if s.seq.demand.d < s.committed ∧ (s.pump p).state = .startWait then
    s.setPump p { s.pump p with state := .idle }
  else s

/-- Demand below A: a pump in RUNNING past its minimum run time is stopped (R105 step 2). -/
def lowerRunning (s : State) (p : Pump) : State :=
  if s.seq.demand.d < s.committed ∧ (s.pump p).state = .running ∧
      s.timerElapsed (s.minRunLength p) (s.pump p).minRun then
    enterStopping p s
  else s

/-- Stage 5 (R104, R105). -/
def actOnDemand (s : State) : State :=
  if s.automatic then
    let s := eachPump dropIneligible s
    if s.committed < s.seq.demand.d then s.seq.duty.foldl raisePump s
    else
      let s := s.seq.duty.reverse.foldl lowerWaiting s
      s.seq.run.foldl lowerRunning s
  else s

/-- The pump sequencer takes a balance record: its five stages in order (R98). -/
def sequence (s : State) : State :=
  actOnDemand (judgeLevels (formDemand (judgeBands (eachPump countRunSecond s))))

/-- The bands' flags at a BAND table activation (R102): `old` are the flags before, in table order. -/
def State.bandsAtActivation (s : State) (bands : List Band) (old : List Bool) : List Bool :=
  match s.usableLevel with
  | none => bands.map fun _ => false
  | some l =>
    (bands.zip (old ++ List.replicate bands.length false)).map fun x =>
      decide (x.1.start ≤ l) || (decide (x.1.stop ≤ l) && x.2)

end Sys2Proof.Machine
end

