-- ==== Sys2Proof/Machine/Laps.lean ====
section
/-! DEFINITION. The lap list: resolving returned, overtaken and timed-out own frames, and their outcomes
(R32 to R35). -/

namespace Sys2Proof.Machine

/-- How a lap entry is resolved (R32): taken or not taken as it returns, or lost. -/
inductive Lap where
  | taken | notTaken | lost
  deriving DecidableEq, Repr

/-- A taken ANNUNCIATE confirms the posted mode if its argument equals it (R156). -/
def annunciateTaken (arg : Byte) (s : State) : State :=
  if s.alarms.posted.map AnnMode.code = some arg then
    { s with alarms := { s.alarms with confirmed := true } }
  else s

/-- A taken outcome is handed to the poster (R34). -/
def takenOutcome (e : LapEntry) (s : State) : State :=
  match e.own.ref with
  | .command (.pump p) code _ => pumpCommandTaken p code s
  | .command (.rake r) code _ => rakeCommandTaken r code s
  | .command .annunciator _ arg => annunciateTaken arg s
  | .notice _ _ => s
  | .response _ _ => s

/-- Every posting for an actuator clears its confirmed mark (R107, R132, R156), a command posted again
among them (log 31). -/
def clearConfirmed (a : Actuator) (s : State) : State :=
  match a with
  | .pump p => s.setPump p { s.pump p with confirmed := false }
  | .rake r => s.setRake r { s.rake r with confirmed := false }
  | .annunciator => { s with alarms := { s.alarms with confirmed := false } }

/-- A final loss is reported to the poster (R35). -/
def finalLoss (a : Actuator) (s : State) : State :=
  let s := s.countTransit fun c => { c with givenUp := inc16 c.givenUp }
  match a with
  | .pump p => pumpCommandLost p s
  | .rake r => rakeCommandLost r s
  | .annunciator => s

/-- A frame posted again is counted (R34). -/
def countRetry (s : State) : State :=
  s.countTransit fun c => { c with retries := inc16 c.retries }

/-- A command not taken or lost (R34). -/
def failedCommand (e : LapEntry) (a : Actuator) (code : CommandCode) (arg : Byte) (s : State) :
    State :=
  if e.superseded then s
  else if 2 ≤ e.own.retry then finalLoss a s
  else if (s.gateEntry a).isNone then s
  else countRetry (postCommand a code arg (some (e.own.retry + 1)) (clearConfirmed a s))

/-- A notice posted again after a failed lap, to the gateway then named (R34, R25). -/
def repostNotice (e : LapEntry) (s : State) : State :=
  countRetry (noteRetried { e.own with dest := s.gateway, retry := e.own.retry + 1 } s)

/-- A notice not taken or lost (R34). A SUMMARY is not posted again (R161); that one not taken is treated as one lost,
and that nothing is counted for it, is the model's reading (DEDUCED, log 47). -/
def failedNotice (type : NoticeType) (e : LapEntry) (s : State) : State :=
  if 2 ≤ e.own.retry then s.countTransit fun c => { c with undelivered := inc16 c.undelivered }
  else match type with
    | .summary => s
    | .alarm => repostNotice e s
    | .spillOpen => repostNotice e s
    | .spillClose => repostNotice e s

/-- A not taken or lost outcome (R34). -/
def failedOutcome (e : LapEntry) (s : State) : State :=
  match e.own.ref with
  | .command a code arg => failedCommand e a code arg s
  | .notice type _ => failedNotice type e s
  | .response _ _ => s.countTransit fun c => { c with unconfirmed := inc16 c.unconfirmed }

/-- The oldest lap entry is removed and its outcome acted on (R32, R34). -/
def resolveOldest (o : Lap) (s : State) : State :=
  match s.transit.lap with
  | [] => s
  | e :: rest =>
    let s := { s with transit := { s.transit with lap := rest } }
    match o with
    | .taken => takenOutcome e s
    | .notTaken => failedOutcome e s
    | .lost => failedOutcome e s

/-- The `n` oldest entries are resolved lost, oldest first (R32). -/
def resolveLost : Nat → State → State
  | 0, s => s
  | n + 1, s => resolveLost n (resolveOldest .lost s)

/-- The timeout of the oldest entry has passed (R33). -/
def State.oldestPassed (s : State) : Bool :=
  match s.transit.lap with
  | [] => false
  | e :: _ => decide (s.lapTimeout ≤ s.nowMs - e.sentAt)

/-- Entries whose timeouts have passed expire, oldest first (R33), at most `n` of them. -/
def expireSome : Nat → State → State
  | 0, s => s
  | n + 1, s => if s.oldestPassed then expireSome n (resolveOldest .lost s) else s

/-- Every entry that is oldest with its timeout passed expires at once (R33). -/
def expirePassed (s : State) : State := expireSome s.transit.lap.length s

/-- An own frame returns (R32). -/
def ownReturned (f : Frame) (s : State) : State :=
  match s.transit.lap.findIdx? fun e => decide (e.frame.seq = f.seq) with
  | none => s.countTransit fun c => { c with strayOwn := inc16 c.strayOwn }
  | some i =>
    expirePassed
      (resolveOldest (if f.takenMark then .taken else .notTaken) (resolveLost i s))

/-- The oldest entry's timeout expires (R33). -/
def lapTimedOut (s : State) : State :=
  if s.transit.lap.isEmpty then s else expirePassed (resolveOldest .lost s)

end Sys2Proof.Machine
end

