-- ==== Sys2Proof/Machine/PointOps.lean ====
section
/-! DEFINITION. The point section's acts: taking a sample, telling the other blocks of a change, ageing
and grading, forcing and release (03_taps_and_points.md). -/

namespace Sys2Proof.Machine

/-! ### Windows, scaling and fitting (R42 to R44) -/

/-- A value limited to a range. -/
def limit (lo hi v : Int) : Int := if v < lo then lo else if hi < v then hi else v

/-- The value taken from a tap's window, with its clamped mark; absent when rejected (R42). -/
def Tap.window (t : Tap) (raw : Int) : Option (Int × Bool) :=
  if t.windowMin ≤ raw ∧ raw ≤ t.windowMax then some (raw, false)
  else
    match t.policy with
    | .clamp => some (if raw < t.windowMin then t.windowMin else t.windowMax, true)
    | .reject => none

/-- A product divided by 1,024 to the nearest whole number, a half rounded away from zero (R43). -/
def roundTo1024 (p : Int) : Int :=
  if 0 ≤ p then (p + 512) / 1024 else -((-p + 512) / 1024)

/-- The scaled value (R43). -/
def Tap.scale (t : Tap) (v : Int) : Int := roundTo1024 (v * t.gain) + t.offset

/-- The range of a class (R44). -/
def PointClass.range : PointClass → Int × Int
  | .level => (-1000, 15000)
  | .current => (0, 10000)
  | .state => (0, 1)
  | .select => (0, 3)

/-- A scaled value fitted to a class (R44), with its clamped mark. -/
def PointClass.fit (c : PointClass) (v : Int) : Int × Bool :=
  match c with
  | .state => (if v = 0 then 0 else 1, false)
  | c =>
    let f := limit c.range.1 c.range.2 v
    (f, decide (f ≠ v))

/-- What a tap and a definition make of a raw value: the fitted value and its grade; absent when
rejected (R42 to R45). -/
def Tap.sample (t : Tap) (d : PointDef) (raw : Int) : Option (Int × Quality) :=
  (t.window raw).map fun w =>
    let f := d.cls.fit (t.scale w.1)
    (f.1, if w.2 || f.2 then .clamped else .good)

/-- An accepted sample acts on the record (R45). -/
def PointRec.accept (r : PointRec) (v : Int) (grade : Quality) : PointRec :=
  if r.forced then { r with accepted := some (v, grade), age := 0 }
  else { r with value := v, accepted := some (v, grade), quality := grade, age := 0 }

/-! ### Reactions to a change of value or quality (R55, log 10) -/

/-- A role held by the point of the given number. -/
def State.holds (s : State) (n : Nat) (f : Roles → Option Nat) : Bool :=
  decide (s.role f = some n)

/-- A pump's reactions to a change of point `n`: feedback (R92 to R94, R114), current (R111), selector
(R86), fault points (R110). -/
def pumpPointChanged (n : Nat) (old : PointRec) (p : Pump) (s : State) : State :=
  guarded (fun s => s.holds n fun r => r.f3.get p) (judgeFault p .f3) <|
    guarded (fun s => s.holds n fun r => r.f2.get p) (judgeFault p .f2) <|
    guarded (fun s => s.holds n fun r => r.f1.get p) (judgeFault p .f1) <|
    guarded (fun s => s.holds n fun r => r.selector.get p) (judgeSelector p) <|
    guarded (fun s => s.holds n fun r => r.current.get p) (judgeOvercurrent p) <|
    guarded (fun s => s.holds n fun r => r.feedback.get p) (feedbackChanged p old.active) s

/-- A rake's reactions to a change of point `n`: park (R128), current (R129). -/
def rakePointChanged (n : Nat) (r : Side) (s : State) : State :=
  guarded (fun s => s.holds n fun t => t.rakeCurrent.get r) (judgeJamTimer r) <|
    guarded (fun s => s.holds n fun t => t.park.get r) (judgePark r) s

/-- The blocks that react to a point are told of a change of its value or quality (R55): the drive
arbiter (R74), the pumps, the rakes. The shedding check and the grant pass follow at the end of the
event. -/
def pointChanged (n : Nat) (old : PointRec) (s : State) : State :=
  if old.value = (s.pointRec n).value ∧ old.quality = (s.pointRec n).quality then s
  else
    eachSide (rakePointChanged n) <| eachPump (pumpPointChanged n old) <|
      guarded (fun s => s.holds n (·.supply)) judgeSupply s

/-- A point's record is replaced, and the change is told. -/
def changePoint (n : Nat) (r : PointRec) (s : State) : State :=
  pointChanged n (s.pointRec n) (s.setPoint n r)

/-! ### Taking samples (R41, R19) -/

/-- The tap of a key (R40). -/
def State.tapOf (s : State) (node channel : Byte) : Option Tap :=
  s.taps.find? fun t => decide (t.node = node ∧ t.channel = channel)

/-- One raw value handed over for a tap (R41). -/
def takeRaw (t : Tap) (raw : Int) (s : State) : State :=
  match s.pointDef t.target with
  | none => { s with points := { s.points with toUndefined := inc16 s.points.toUndefined } }
  | some d =>
    match t.sample d raw with
    | none => { s with points := { s.points with rejected := inc16 s.points.rejected } }
    | some (v, grade) =>
      statePointFailed t.target (changePoint t.target ((s.pointRec t.target).accept v grade) s)

/-- One pair of a SAMPLE frame from a node (R19, R41). -/
def takePair (node : Byte) (s : State) (pair : Byte × Int) : State :=
  match s.tapOf node pair.1 with
  | none => s
  | some t => takeRaw t pair.2 s

/-- Every pair matched a tap whose forwarding is SINK (R19). -/
def State.allSunk (s : State) (node : Byte) (pairs : List (Byte × Int)) : Bool :=
  pairs.all fun x => decide ((s.tapOf node x.1).map (·.forwarding) = some .sink)

/-! ### Ageing and grading (R46 to R48) -/

/-- The grade of a record by its age and history, its substitute's record at hand (R47, R48). A point at NONE holds 0
(R66). A record that leaves SUBSTITUTED under raised limits (R53) for another grade keeps the substitute's figure as
its value (DEDUCED, log 38). -/
def PointRec.grade (r : PointRec) (d : PointDef) (sub : Option PointRec) : PointRec :=
  if r.forced then r
  else if r.age ≤ d.stale then
    match r.accepted with
    | none => { r with quality := .none, value := 0 }
    | some (_, g) => { r with quality := g }
  else if r.age ≤ d.fail then
    match r.accepted with
    | none => { r with quality := .none, value := 0 }
    | some _ => { r with quality := .stale }
  else
    match sub with
    | some u =>
      if u.quality.usable then { r with quality := .substituted, value := u.value }
      else { r with quality := .failed }
    | none => { r with quality := .failed }

/-- One defined point's age rises. -/
def agePoint (s : State) (d : PointDef) : State :=
  let r := s.pointRec d.number
  s.setPoint d.number { r with age := addSat max16 r.age 1 }

/-- The record of a definition's substitute, as it stands. -/
def State.substituteRec (s : State) (d : PointDef) : Option PointRec :=
  d.substitute.map s.pointRec

/-- One defined point is graded. -/
def gradePoint (s : State) (d : PointDef) : State :=
  s.setPoint d.number ((s.pointRec d.number).grade d (s.substituteRec d))

/-- Every point aged, then graded: those without a substitute first (R46). -/
def ageAndGrade (s : State) : State :=
  let ds := s.pointDefs
  let s := ds.foldl agePoint s
  let s := (ds.filter fun d => d.substitute.isNone).foldl gradePoint s
  (ds.filter fun d => d.substitute.isSome).foldl gradePoint s

/-- Point numbers. -/
def pointNumbers : List Nat := List.range 48

/-- The reactions to an ageing, in point order, the records before it at hand; then the POINT_FAILED
conditions (R51, R55). -/
def tellAgeing (old : Points) (s : State) : State :=
  let s := pointNumbers.foldl
    (fun s n => pointChanged n (old.recs.getD n PointRec.start) s) s
  pointNumbers.foldl (fun s n => statePointFailed n s) s

/-- The point second timer's expiry at the point section (R46). -/
def pointSecond (s : State) : State := tellAgeing s.points (ageAndGrade s)

/-! ### Forcing and release (R49, R50) -/

/-- The point is forced to a value (R49). -/
def forceTo (d : PointDef) (v : Int) (s : State) : State :=
  changePoint d.number
    { s.pointRec d.number with value := (d.cls.fit v).1, quality := .forced, forced := true } s

/-- A forced record restored at its release (R50). -/
def PointRec.release (r : PointRec) (d : PointDef) (sub : Option PointRec) : PointRec :=
  { r with forced := false, value := (r.accepted.map Prod.fst).getD 0 }.grade d sub

/-- The point is released (R50). -/
def releaseForce (d : PointDef) (s : State) : State :=
  let r := s.pointRec d.number
  if r.forced then changePoint d.number (r.release d (s.substituteRec d)) s else s

end Sys2Proof.Machine
end

