-- ==== Sys2Proof/Machine/SpillOps.lean ====
section
/-! DEFINITION. The spill monitor's acts (09_overflow_and_spill_records.md) and the layout of a spill
record and its notices (R185). -/

namespace Sys2Proof.Machine

/-! ### Layout (R185) -/

/-- Spill state codes (R185). -/
def SpillState.code : SpillState → Nat
  | .opened => 0
  | .closed => 1
  | .collected => 2

/-- The flags character (R185). -/
def SpillFlags.char (f : SpillFlags) : Nat :=
  f.merged.toNat + 2 * f.follows.toNat + 4 * f.clockSet.toNat + 8 * f.clockUnset.toNat +
    16 * f.levelDoubt.toNat + 32 * f.tableChanged.toNat + 64 * f.logLoss.toNat +
    128 * f.volumeSaturated.toNat

/-- Weir numbers. -/
def Weir.number : Weir → Nat
  | .w1 => 1
  | .w2 => 2

/-- The end fields of a record, all 0 while OPEN (R185). -/
def SpillRec.endChars (r : SpillRec) : List Byte :=
  match r.ending with
  | none => u32 0 ++ u32 0 ++ u32 0
  | some e => u32 e.clock ++ u32 e.running ++ u32 e.duration

/-- The 31 characters of a spill record (R185). -/
def SpillRec.chars (r : SpillRec) : List Byte :=
  u16 r.number ++ u8 r.weir.number ++ u8 r.state.code ++ u32 r.startClock ++ u32 r.startRunning ++
    r.endChars ++ s16 r.peak ++ u32 r.volume ++ u8 r.flags.char

/-! ### The log -/

/-- A weir's record. -/
def State.weir (s : State) (w : Weir) : WeirRec := s.spill.weirs.get w

/-- The open record of a weir is changed where it stands. -/
def changeOpen (w : Weir) (f : SpillRec → SpillRec) (s : State) : State :=
  { s with spill := { s.spill with
      log := s.spill.log.map fun r => if r.weir = w ∧ r.state = .opened then f r else r } }

/-- The record of a weir that stands latest in the log (R143). -/
def latestOf (w : Weir) (log : List SpillRec) : Option SpillRec :=
  log.reverse.find? fun r => decide (r.weir = w)

/-- Litres added to a record's volume (R143). -/
def SpillRec.addLitres (r : SpillRec) (l : Int) : SpillRec :=
  if r.volume + l.toNat ≤ max32 then { r with volume := r.volume + l.toNat }
  else { r with volume := max32, flags := { r.flags with volumeSaturated := true } }

/-- A record's peak becomes the greater of itself and a head. -/
def SpillRec.raisePeak (r : SpillRec) (h : Int) : SpillRec := { r with peak := max r.peak h }

/-- The capture of the present update (R137, section 9.2): the running seconds stamped on the record,
and the clock time they give. -/
def State.updateCapture (s : State) : Capture :=
  ⟨(s.flow.record.running + s.clock.offset) % 4294967296, s.flow.record.running⟩

/-- The spill number after `n` (R143). -/
def nextSpillNumber (n : Nat) : Nat := if 65535 ≤ n then 1 else n + 1

/-- The next spill number, rising again while a record in the log holds it (R143); at most 32 records
can hold one. -/
def freeSpillNumber (log : List SpillRec) : Nat → Nat → Nat
  | 0, n => n
  | fuel + 1, n =>
    if log.any (fun r => decide (r.number = n)) then freeSpillNumber log fuel (nextSpillNumber n)
    else n

/-- Room is made in a full log (R145). -/
def evict (s : State) : State :=
  if s.spill.log.length < Config.logCapacity then s
  else if s.spill.log.any (fun r => decide (r.state = .collected)) then
    { s with spill := { s.spill with
        log := s.spill.log.eraseP fun r => decide (r.state = .collected) } }
  else
    stateLogLoss
      { s with spill := { s.spill with
          log := s.spill.log.eraseP fun r => decide (r.state = .closed)
          lostCount := addSat max16 s.spill.lostCount 1
          lossToFlag := true
          collectionOwed := true } }

/-- The new record of a confirmation (R143, R146): the next spill number, the onset's start times, the
pending litres and peak. -/
def freshRecord (w : Weir) (follows : Bool) (s : State) : SpillRec :=
  SpillRec.addLitres
    { number := s.spill.nextNumber
      weir := w
      state := .opened
      startClock := ((s.weir w).onset.map (·.clock)).getD 0
      startRunning := ((s.weir w).onset.map (·.running)).getD 0
      ending := none
      peak := (s.weir w).pendingPeak
      volume := 0
      flags := { SpillFlags.clear with follows := follows, logLoss := s.spill.lossToFlag } }
    (s.weir w).pendingLitres

/-- A record joins the log as the newest, and the next spill number passes over those held (R143, R145);
the loss-to-flag mark is spent (R146). -/
def joinRecord (r : SpillRec) (s : State) : State :=
  { s with spill := { s.spill with
      log := s.spill.log ++ [r]
      nextNumber :=
        freeSpillNumber (s.spill.log ++ [r]) (Config.logCapacity + 1)
          (nextSpillNumber s.spill.nextNumber)
      lossToFlag := false } }

/-- A new record joins the log, room made for it (R143, R145, R146). -/
def newRecord (w : Weir) (follows : Bool) (s : State) : State :=
  joinRecord (freshRecord w follows (evict s)) (evict s)

/-- The latest record of the weir, CLOSED, is reopened (R143). -/
def reopen (w : Weir) (number : Nat) (s : State) : State :=
  let v := s.weir w
  { s with spill := { s.spill with
      log := s.spill.log.map fun r =>
        if r.number = number then
          ({ r with
              state := .opened, ending := none,
              flags := { r.flags with merged := true } }.addLitres v.pendingLitres).raisePeak
            v.pendingPeak
        else r } }

/-- The gap from a record's end to the onset is at or below the merge interval (R143). -/
def State.withinMerge (s : State) (w : Weir) (d : WeirDef) (r : SpillRec) : Bool :=
  match r.ending with
  | none => false
  | some e =>
    decide ((((s.weir w).onset.map (·.running)).getD 0) - e.running ≤ 60 * d.merge)

/-- The notice of an opening or a closing (R147, R185). -/
def spillNotice (s : State) (t : NoticeType) (lead : List Byte) (r : SpillRec) : OwnFrame :=
  notice s t r.number (lead ++ r.chars)

/-- The SPILL_OPEN notice of the weir's open record is posted (R147). -/
def noteOpened (w : Weir) (reopened : Bool) (s : State) : State :=
  match s.spill.log.find? fun r => decide (r.weir = w ∧ r.state = .opened) with
  | none => s
  | some r => noteSpill w (spillNotice s .spillOpen (u8 2 ++ flag reopened) r) s

/-- Clock flags that a confirmation gives its record (R143, R150). -/
def SpillRec.markClock (v : WeirRec) (r : SpillRec) : SpillRec :=
  { r with flags := { r.flags with
      clockUnset := r.flags.clockUnset || !((v.onset.map (·.clockSet)).getD true)
      clockSet := r.flags.clockSet || v.clockSetMark } }

/-- What a confirmation makes of the log: a record reopened, or a new one (R143). -/
def confirmRecord (w : Weir) (d : WeirDef) (s : State) : Bool × State :=
  match latestOf w s.spill.log with
  | none => (false, newRecord w false s)
  | some r =>
    if s.withinMerge w d r then
      match r.state with
      | .closed => (true, reopen w r.number s)
      | .collected => (false, newRecord w true s)
      | .opened => (false, newRecord w false s)
    else (false, newRecord w false s)

/-- The weir enters SPILLING, its working fields cleared (R143). -/
def enterSpilling (w : Weir) (s : State) : State :=
  s.setWeir w { WeirRec.dry with state := .spilling }

/-- A weir is confirmed (R143): its record is made or reopened, SPILL_OPEN is posted and the weir enters
SPILLING. -/
def confirm (w : Weir) (d : WeirDef) (s : State) : State :=
  stateSpill w <| enterSpilling w <|
    noteOpened w (confirmRecord w d s).1 <|
    changeOpen w (SpillRec.markClock (s.weir w)) (confirmRecord w d s).2

/-- A record closed with an end (R144). -/
def SpillRec.closed (r : SpillRec) (c : Capture) : SpillRec :=
  { r with
    state := .closed
    ending := some ⟨c.clock, c.running, c.running - r.startRunning⟩ }

/-- The SPILL_CLOSE notice of the weir's open record, as it is being closed (R147). -/
def noteClosed (w : Weir) (c : Capture) (s : State) : State :=
  match s.spill.log.find? fun r => decide (r.weir = w ∧ r.state = .opened) with
  | none => s
  | some r => noteSpill w (spillNotice s .spillClose (u8 3) (r.closed c)) s

/-- The weir's open record is closed with an end (R144): SPILL_CLOSE is posted, the weir enters DRY and
SPILL clears. -/
def closeRecord (w : Weir) (c : Capture) (s : State) : State :=
  stateSpill w <|
    (changeOpen w (fun r => r.closed c) (noteClosed w c s)).setWeir w WeirRec.dry

/-! ### Judging a balance update (R138 to R142) -/

/-- ONSET entered (R138). -/
def openOnset (w : Weir) (flow h : Int) (s : State) : State :=
  s.setWeir w
    { WeirRec.dry with
      state := .onset
      onset := some ⟨s.updateCapture.clock, s.updateCapture.running, s.clock.set⟩
      onsetCount := 1
      pendingLitres := flow
      pendingPeak := h }

/-- DRY (R138). -/
def judgeDry (w : Weir) (d : WeirDef) (x : WeirFlow) (s : State) : State :=
  match x.head with
  | none => s
  | some h =>
    if x.usable ∧ 0 < h then
      if d.onsetConfirm = 1 then confirm w d (openOnset w x.flow h s) else openOnset w x.flow h s
    else s

/-- A false onset is counted (R139). -/
def countFalseOnset (w : Weir) (s : State) : State :=
  { s with spill := { s.spill with
      falseOnsets := s.spill.falseOnsets.set w (inc16 (s.spill.falseOnsets.get w)) } }

/-- A false onset (R139). -/
def falseOnset (w : Weir) (s : State) : State := countFalseOnset w (s.setWeir w WeirRec.dry)

/-- An update counted in ONSET (R139). -/
def countOnset (w : Weir) (flow h : Int) (s : State) : State :=
  s.setWeir w
    { s.weir w with
      onsetCount := (s.weir w).onsetCount + 1
      pendingLitres := (s.weir w).pendingLitres + flow
      pendingPeak := max (s.weir w).pendingPeak h }

/-- ONSET (R139). -/
def judgeOnset (w : Weir) (d : WeirDef) (x : WeirFlow) (s : State) : State :=
  match x.head with
  | none => falseOnset w s
  | some h =>
    if x.usable ∧ 0 < h then
      if (s.weir w).onsetCount + 1 = d.onsetConfirm then confirm w d (countOnset w x.flow h s)
      else countOnset w x.flow h s
    else falseOnset w s

/-- Flow and peak of an update added to the open record (R140, R141). -/
def addToOpen (w : Weir) (flow h : Int) (s : State) : State :=
  changeOpen w (fun r => (r.addLitres flow).raisePeak h) s

/-- A weir in SPILLING or RECEDING whose level is not usable (R142). -/
def judgeDoubt (w : Weir) (x : WeirFlow) (s : State) : State :=
  changeOpen w
    (fun r =>
      let r := { r with flags := { r.flags with levelDoubt := true } }.addLitres x.flow
      match x.head with
      | none => r
      | some h => r.raisePeak h) s

/-- The end count advances to `n` in RECEDING, and the record is closed at the end confirm (R140,
R141). -/
def advanceEnd (w : Weir) (d : WeirDef) (c : Capture) (n : Nat) (s : State) : State :=
  if d.endConfirm ≤ n then closeRecord w c s
  else s.setWeir w { s.weir w with state := .receding, candidate := some c, endCount := n }

/-- SPILLING with its level usable (R140). -/
def judgeSpilling (w : Weir) (d : WeirDef) (flow h : Int) (s : State) : State :=
  if h ≤ -d.hysteresis then advanceEnd w d s.updateCapture 1 (addToOpen w flow h s)
  else addToOpen w flow h s

/-- RECEDING with its level usable (R141). -/
def judgeReceding (w : Weir) (d : WeirDef) (flow h : Int) (s : State) : State :=
  if -d.hysteresis < h then
    (addToOpen w flow h s).setWeir w
      { s.weir w with state := .spilling, candidate := none, endCount := 0 }
  else
    advanceEnd w d ((s.weir w).candidate.getD s.updateCapture) ((s.weir w).endCount + 1) s

/-- A defined weir is judged by the rule of its state. -/
def judgeWeir (w : Weir) (s : State) : State :=
  match s.weirDef w with
  | none => s
  | some d =>
    let x := s.flow.record.weirs.get w
    match (s.weir w).state with
    | .dry => judgeDry w d x s
    | .onset => judgeOnset w d x s
    | .spilling =>
      match x.head with
      | some h => if x.usable then judgeSpilling w d x.flow h s else judgeDoubt w x s
      | none => judgeDoubt w x s
    | .receding =>
      match x.head with
      | some h => if x.usable then judgeReceding w d x.flow h s else judgeDoubt w x s
      | none => judgeDoubt w x s

/-- The spill monitor takes a balance record (section 9.2), weir 1 first (DESIGN CHOICE, log 45). -/
def judgeWeirs (s : State) : State := eachWeir judgeWeir s

/-! ### Clock, tables, requests (R148, R150, R151) -/

/-- A TIME frame was taken, told to one weir (R150). -/
def weirClockSet (w : Weir) (s : State) : State :=
  let v := s.weir w
  match v.state with
  | .spilling | .receding =>
    changeOpen w (fun r => { r with flags := { r.flags with clockSet := true } }) s
  | .onset => s.setWeir w { v with clockSetMark := true }
  | .dry => s

/-- The station clock takes a value (R162), and the spill monitor is told (R150). -/
def setClock (t : Nat) (s : State) : State :=
  eachWeir weirClockSet
    { s with clock := { s.clock with
        offset := (t + (4294967296 - s.clock.running % 4294967296)) % 4294967296, set := true } }

/-- The weir's open record is flagged TABLE_CHANGED (R151). -/
def flagChanged (w : Weir) (s : State) : State :=
  changeOpen w (fun r => { r with flags := { r.flags with tableChanged := true } }) s

/-- A weir that is defined no longer, or whose level role is gone (R151). -/
def weirGone (w : Weir) (s : State) : State :=
  let v := s.weir w
  match v.state with
  | .dry => s
  | .onset => s.setWeir w WeirRec.dry
  | .spilling => closeRecord w ⟨s.clockTime, s.clock.running⟩ (flagChanged w s)
  | .receding =>
    closeRecord w (v.candidate.getD ⟨s.clockTime, s.clock.running⟩) (flagChanged w s)

/-- A WEIR table activation at one weir, the new table in force (R151). -/
def weirActivated (w : Weir) (s : State) : State :=
  match s.weirDef w with
  | none => weirGone w s
  | some _ =>
    match (s.weir w).state with
    | .dry => s
    | .onset => s.setWeir w WeirRec.dry
    | .spilling | .receding => flagChanged w s

/-- The record of a number in the log. -/
def State.spillOf (s : State) (n : Nat) : Option SpillRec :=
  s.spill.log.find? fun r => decide (r.number = n)

/-- A COLLECT_SPILL answered DONE clears the collection-owed mark (R146, R148). -/
def collected (s : State) : State :=
  stateLogLoss { s with spill := { s.spill with collectionOwed := false } }

/-- COLLECT_SPILL of a number other than 0 (R148). -/
def collectSpill (n : Nat) (s : State) : Status × State :=
  match s.spillOf n with
  | none => (.notFound, s)
  | some r =>
    match r.state with
    | .opened => (.notClosed, s)
    | .collected => (.done, collected s)
    | .closed =>
      (.done, collected
        { s with spill := { s.spill with
            log := s.spill.log.map fun x =>
              if x.number = n then { x with state := .collected } else x } })

/-- A weir's state restored at a warm start (R152). -/
def WeirRec.restored (v : WeirRec) : WeirRec :=
  match v.state with
  | .spilling | .receding => { WeirRec.dry with state := .spilling }
  | .onset | .dry => WeirRec.dry

end Sys2Proof.Machine
end

