-- ==== Sys2Proof/Machine/TableImages.lean ====
section
/-! DEFINITION. Table images: how an image divides into a table's fields (R184, logs 14, 15), and the
validation of each table with the reason and index of its first offence (R170, R40, R52, R60, R62, R97,
R109, R122, R137, R160, R165, R171). -/

namespace Sys2Proof.Machine

/-! ### The reader -/

/-- Where a reading stands: the characters left, the fields read so far, the entry being read where a
rule reports entries (R184), the offence of least index so far, and whether characters ran out. -/
structure RdState where
  rest : List Byte
  count : Nat
  entry : Option Nat
  err : Option (Reason × Nat)
  short : Bool
  deriving DecidableEq, Repr

/-- A reading of part of an image. -/
abbrev Rd (α : Type) := StateM RdState α

/-- The next character; 0 once they have run out. -/
def rdChar : Rd Byte := fun st =>
  match st.rest with
  | c :: rest => (c, { st with rest })
  | [] => (0, { st with short := true })

/-- One more field has been read (R184: each field counted once whatever its width). -/
def rdDone : Rd Unit := fun st => ((), { st with count := st.count + 1 })

/-- The index reported for the field just read: its entry's, where the rule reports entries. -/
def rdPlace : Rd Nat := fun st => (st.entry.getD (st.count - 1), st)

/-- An offence at an index; the least index is kept (R170: the first offending field or entry). -/
def rdOffence (r : Reason) (i : Nat) : Rd Unit := fun st =>
  match st.err with
  | none => ((), { st with err := some (r, i) })
  | some (_, j) => ((), if i < j then { st with err := some (r, i) } else st)

/-- A condition on the field just read. -/
def rdCheck (ok : Bool) (r : Reason) : Rd Unit := do
  if ok then pure () else rdOffence r (← rdPlace)

/-- A condition on the field at an index already taken. -/
def rdCheckAt (i : Nat) (ok : Bool) (r : Reason) : Rd Unit :=
  if ok then pure () else rdOffence r i

/-- A condition reported only where no field or entry offends. -/
def rdFinally (ok : Bool) (r : Reason) (i : Nat) : Rd Unit := fun st =>
  if ok || st.err.isSome then ((), st) else ((), { st with err := some (r, i) })

/-- The reading passes to an entry, or leaves the entries. -/
def rdEntry (e : Option Nat) : Rd Unit := fun st => ((), { st with entry := e })

/-- A field of one character, within a range. -/
def rd1 (lo hi : Nat) : Rd Nat := do
  let c ← rdChar
  rdDone
  rdCheck (decide (lo ≤ c.toNat) && decide (c.toNat ≤ hi)) .range
  pure c.toNat

/-- A field of two characters, within a range. -/
def rd2 (lo hi : Nat) : Rd Nat := do
  let a ← rdChar
  let b ← rdChar
  rdDone
  let v := (join16 a b).toNat
  rdCheck (decide (lo ≤ v) && decide (v ≤ hi)) .range
  pure v

/-- A signed field of two characters, within a range. -/
def rdS (lo hi : Int) : Rd Int := do
  let a ← rdChar
  let b ← rdChar
  rdDone
  let v := (join16 a b).toInt
  rdCheck (decide (lo ≤ v) && decide (v ≤ hi)) .range
  pure v

/-- A field of four characters, within a range. -/
def rd4 (lo hi : Nat) : Rd Nat := do
  let a ← rdChar
  let b ← rdChar
  let c ← rdChar
  let d ← rdChar
  rdDone
  let v := join32 a b c d
  rdCheck (decide (lo ≤ v) && decide (v ≤ hi)) .range
  pure v

/-- A field of one character that names a value (R183: coded from 0). -/
def rdNamed {α : Type} (f : Nat → Option α) (dflt : α) : Rd α := do
  let c ← rdChar
  rdDone
  rdCheck (f c.toNat).isSome .range
  pure ((f c.toNat).getD dflt)

/-- A mark of one character, 0 or 1. -/
def rdFlag : Rd Bool := do
  pure (decide ((← rd1 0 1) = 1))

/-- A field of one character that may be absent (R183): presence, then the field, whose character is
not judged when absent. -/
def rdMaybe1 (lo hi : Nat) : Rd (Option Nat) := do
  if (← rdFlag) then
    pure (some (← rd1 lo hi))
  else
    let _ ← rd1 0 255
    pure none

/-- Entries read one after another; each reading sees those before it. -/
def rdEntries {α : Type} (one : List α → Rd α) : Nat → List α → Rd (List α)
  | 0, acc => pure acc
  | n + 1, acc => do
    let a ← one acc
    rdEntries one n (acc ++ [a])

/-- A list preceded by a count character within a range (R184). -/
def rdList {α : Type} (lo hi : Nat) (one : List α → Rd α) : Rd (List α) := do
  rdEntries one (← rd1 lo hi) []

/-- A list whose offences are reported by entry, counted from 0 in image order (R184). -/
def rdEntryList {α : Type} (lo hi : Nat) (one : List α → Rd α) : Rd (List α) := do
  let l ← rdEntries (fun acc => do rdEntry (some acc.length); one acc) (← rd1 lo hi) []
  rdEntry none
  pure l

/-- What a finished reading gives: SIZE where the image does not divide into the fields (R170 step 6),
else the first offence, else the table. -/
def rdRun {α : Type} (r : Rd α) (image : List Byte) : Except (Reason × Nat) α :=
  let (a, st) := r ⟨image, 0, none, none, false⟩
  if st.short || !st.rest.isEmpty then .error (.size, 0)
  else match st.err with
    | some e => .error e
    | none => .ok a

/-! ### Named values, coded in the order of their lists -/

/-- The value at a code. -/
def ofCode {α : Type} (l : List α) (n : Nat) : Option α := l[n]?

/-- Permissions in the order of R165. -/
def permissions : List Permission := [.view, .operate, .configure]

/-- Point classes in the order of R44. -/
def pointClasses : List PointClass := [.level, .current, .state, .select]

/-- Policies in the order of R40. -/
def policies : List Policy := [.clamp, .reject]

/-- Forwarding in the order of R40. -/
def forwardings : List Forwarding := [.pass, .sink]

/-- Polarities in the order of R109. -/
def polarities : List Polarity := [.activeHigh, .activeLow]

/-- Classes of a fault source, in the order of the opening of chapter 7; no rule lists them (DESIGN CHOICE, log 14). -/
def sourceClasses : List SourceClass := [.latch, .hold]

/-- Actions of a fault source, in the order of the opening of chapter 7; no rule lists them (DESIGN CHOICE, log 14). -/
def sourceActions : List SourceAction := [.stop, .inhibitStart, .alarmOnly]

/-! ### What validation reads besides the image (R170, R172) -/

/-- The active tables and the station mode in the event of a validation. -/
structure Surroundings where
  station : Option StationTable
  points : Option (List PointDef)
  pastStandby : Bool
  deriving DecidableEq, Repr

/-- The surroundings as they stand. -/
def State.surroundings (s : State) : Surroundings :=
  ⟨s.station, s.tables.active.point.map (·.data), s.pastStandby⟩

/-- The point numbers holding a role. -/
def Roles.points (r : Roles) : List Nat := r.list.filterMap (·.point)

/-- The point definition of a number in a list of definitions. -/
def findPoint (ds : List PointDef) (n : Nat) : Option PointDef :=
  ds.find? fun d => decide (d.number = n)

/-- A role assignment agrees with a list of point definitions (R55): unassigned, or defined with the
required class. -/
def RoleUse.agrees (u : RoleUse) (ds : List PointDef) : Bool :=
  match u.point with
  | none => true
  | some n => decide ((findPoint ds n).map (·.cls) = some u.cls)

/-! ### Curves (R60) -/

/-- A curve: breakpoints with x strictly increasing and y never against the given sense, else ORDER; the first x is
0 where the curve requires it. A breakpoint offends at the field of its x or its y, a first x that is not 0 with RANGE
(DESIGN CHOICE, log 15). -/
def rdCurve (lo hi : Nat) (rdx rdy : Rd Int) (rising firstZero : Bool) : Rd Curve :=
  rdList lo hi fun acc => do
    let x ← rdx
    match acc.getLast? with
    | none => rdCheck (!firstZero || decide (x = 0)) .range
    | some (px, _) => rdCheck (decide (px < x)) .order
    let y ← rdy
    match acc.getLast? with
    | none => pure ()
    | some (_, py) => rdCheck (if rising then decide (py ≤ y) else decide (y ≤ py)) .order
    pure (x, y)

/-- A two-character figure as an integer. -/
def rd2i (lo hi : Nat) : Rd Int := do
  pure ((← rd2 lo hi : Nat) : Int)

/-! ### STATION (R171, R55) -/

/-- One actuator entry: node, channel, drive. Of two that share a node and channel, or a drive, the later one is
reported (DESIGN CHOICE, log 15). -/
def rdActuator (acc : List ActuatorDef) : Rd ActuatorDef := do
  let node ← rd1 1 239
  let channel ← rd1 0 255
  let node : Byte := BitVec.ofNat 8 node
  let channel : Byte := BitVec.ofNat 8 channel
  rdCheck (!acc.any fun e => decide (e.node = node) && decide (e.channel = channel)) .duplicate
  let drive ← rdNamed actuatorOfCode .annunciator
  rdCheck (!acc.any fun e => decide (e.drive = drive)) .duplicate
  pure ⟨node, channel, drive⟩

/-- A set of pump numbers, bit n - 1 for pump n (R183). -/
def pumpSetOf (v : Nat) : Six Bool := Six.ofFn fun p => v.testBit (p.number - 1)

/-- One role assignment: presence, then the point number (R184), with the relations of R171. -/
def rdRole (c : Surroundings) (cls : PointClass) (allowed : Bool) : Rd (Option Nat) := do
  let n ← rdMaybe1 0 47
  match n with
  | none => pure ()
  | some k =>
    rdCheck allowed .reference
    match c.points with
    | none => pure ()
    | some ds => rdCheck (decide ((findPoint ds k).map (·.cls) = some cls)) .reference
  pure n

/-- A role for each pump, in number order. -/
def rdSix (f : Pump → Rd (Option Nat)) : Rd (Six (Option Nat)) := do
  let a ← f .p1
  let b ← f .p2
  let c ← f .p3
  let d ← f .p4
  let e ← f .p5
  let g ← f .p6
  pure ⟨a, b, c, d, e, g⟩

/-- A role for A, then B. -/
def rdTwo (f : Rd (Option Nat)) : Rd (Two (Option Nat)) := do
  let a ← f
  let b ← f
  pure ⟨a, b⟩

/-- The three fault point roles of one pump. -/
def rdFaultRoles (f : Rd (Option Nat)) : Rd (Option Nat × Option Nat × Option Nat) := do
  let a ← f
  let b ← f
  let c ← f
  pure (a, b, c)

/-- The role assignments in the order of R55 (R184, log 14). -/
def rdRoles (c : Surroundings) (installed : Six Bool) : Rd Roles := do
  let role := fun (cls : PointClass) => rdRole c cls true
  let pumpRole := fun (cls : PointClass) (p : Pump) => rdRole c cls (installed.get p)
  let wetWell ← role .level
  let river ← role .level
  let highFloat ← role .state
  let lowFloat ← role .state
  let supply ← role .select
  let feedback ← rdSix (pumpRole .state)
  let current ← rdSix (pumpRole .current)
  let selector ← rdSix (pumpRole .select)
  let x1 ← rdFaultRoles (pumpRole .state .p1)
  let x2 ← rdFaultRoles (pumpRole .state .p2)
  let x3 ← rdFaultRoles (pumpRole .state .p3)
  let x4 ← rdFaultRoles (pumpRole .state .p4)
  let x5 ← rdFaultRoles (pumpRole .state .p5)
  let x6 ← rdFaultRoles (pumpRole .state .p6)
  let upstream ← rdTwo (role .level)
  let downstream ← rdTwo (role .level)
  let park ← rdTwo (role .state)
  let rakeCurrent ← rdTwo (role .current)
  let w1 ← role .level
  let w2 ← role .level
  pure
    { wetWell, river, highFloat, lowFloat, supply, feedback, current, selector
      f1 := ⟨x1.1, x2.1, x3.1, x4.1, x5.1, x6.1⟩
      f2 := ⟨x1.2.1, x2.2.1, x3.2.1, x4.2.1, x5.2.1, x6.2.1⟩
      f3 := ⟨x1.2.2, x2.2.2, x3.2.2, x4.2.2, x5.2.2, x6.2.2⟩
      upstream, downstream, park, rakeCurrent, weirLevel := ⟨w1, w2⟩ }

/-- The STATION table (R171). A lower threshold above the upper less 48 is ORDER at the lower's field (DESIGN CHOICE,
log 15). -/
def rdStation (c : Surroundings) : Rd StationTable := do
  let gapLimit ← rd1 2 16
  let stallLimit ← rd1 1 60
  let upper ← rd2 96 336
  let lower ← rd2 0 65535
  rdCheck (decide (lower + 48 ≤ upper)) .order
  let restrobe ← rd1 1 16
  rdCheck (restrobe == 1 || restrobe == 4 || restrobe == 8 || restrobe == 16) .range
  let lapTimeout ← rd2 100 5000
  let gateway ← rd1 1 239
  let actuators ← rdList 0 9 rdActuator
  let set ← rd1 1 63
  let installed := pumpSetOf set
  rdCheck (pumps.all fun p =>
    !installed.get p || actuators.any fun e => decide (e.drive = .pump p)) .reference
  let mainsSlots ← rd1 1 8
  let generatorSlots ← rd1 0 8
  let powerReturn ← rd2 0 300
  let roles ← rdRoles c installed
  pure
    { gapLimit, stallLimit, upper, lower, restrobe, lapTimeout, gateway := BitVec.ofNat 8 gateway
      actuators, installed, mainsSlots, generatorSlots, powerReturn, roles }

/-! ### ACCESS (R165), TAP (R40), POINT (R52) -/

/-- The ACCESS table (R165). Of two entries of one source the later one is reported (DESIGN CHOICE, log 15). -/
def rdAccess : Rd (List AccessEntry) := do
  let l ← rdList 0 8 fun acc => do
    let source ← rd1 240 247
    let source : Byte := BitVec.ofNat 8 source
    rdCheck (!acc.any fun e => decide (e.source = source)) .duplicate
    let permission ← rdNamed (ofCode permissions) .view
    pure (AccessEntry.mk source permission)
  rdFinally (l.any fun e => decide (e.permission = .configure)) .reference 0
  pure l

/-- One tap (R40), its key first (R184). Of two taps that share a key or a target the later one is reported, and a
window maximum below its minimum is ORDER (DESIGN CHOICE, log 15). -/
def rdTap (acc : List Tap) : Rd Tap := do
  let node ← rd1 1 239
  let channel ← rd1 0 255
  let node : Byte := BitVec.ofNat 8 node
  let channel : Byte := BitVec.ofNat 8 channel
  rdCheck (!acc.any fun e => decide (e.node = node) && decide (e.channel = channel)) .duplicate
  let target ← rd1 0 47
  rdCheck (!acc.any fun e => decide (e.target = target)) .duplicate
  let gain ← rdS (-32768) 32767
  let offset ← rdS (-32768) 32767
  let windowMin ← rdS (-32768) 32767
  let windowMax ← rdS (-32768) 32767
  rdCheck (decide (windowMin ≤ windowMax)) .order
  let policy ← rdNamed (ofCode policies) .clamp
  let forwarding ← rdNamed (ofCode forwardings) .pass
  pure { node, channel, target, gain, offset, windowMin, windowMax, policy, forwarding }

/-- The TAP table (R40): past STANDBY, every point that holds a role is the target of a tap. -/
def rdTaps (c : Surroundings) : Rd (List Tap) := do
  let l ← rdEntryList 0 64 rdTap
  rdFinally
    (!c.pastStandby ||
      match c.station with
      | none => true
      | some t => t.roles.points.all fun n => l.any fun e => decide (e.target = n))
    .reference 0
  pure l

/-- One point definition (R52), its number first (R184). Of two definitions of one number the later one is reported, and
a fail limit below the stale limit is ORDER (DESIGN CHOICE, log 15). -/
def rdPointDef (acc : List PointDef) : Rd PointDef := do
  let number ← rd1 0 47
  rdCheck (!acc.any fun d => decide (d.number = number)) .duplicate
  let cls ← rdNamed (ofCode pointClasses) .level
  let stale ← rd2 1 600
  let fail ← rd2 0 3600
  rdCheck (decide (stale ≤ fail)) .order
  let substitute ← rdMaybe1 0 47
  let alarmEnable ← rdFlag
  pure { number, cls, stale, fail, substitute, alarmEnable }

/-- A definition's substitute is another point of the same table and class, with no substitute of its
own (R52). Where the substitute names one, the definition that names it offends (DESIGN CHOICE, log 15). -/
def PointDef.substituteOk (d : PointDef) (ds : List PointDef) : Bool :=
  match d.substitute with
  | none => true
  | some n =>
    decide (n ≠ d.number) &&
      match findPoint ds n with
      | none => false
      | some e => decide (e.cls = d.cls) && e.substitute.isNone

/-- A definition does not contradict the class of a role its point holds (R52, R55). -/
def PointDef.rolesOk (d : PointDef) (c : Surroundings) : Bool :=
  match c.station with
  | none => true
  | some t => t.roles.list.all fun u => decide (u.point ≠ some d.number) || decide (u.cls = d.cls)

/-- The references of each definition, in image order. -/
def rdPointReferences (c : Surroundings) (all : List PointDef) : Nat → List PointDef → Rd Unit
  | _, [] => pure ()
  | i, d :: ds => do
    rdCheckAt i (d.substituteOk all && d.rolesOk c) .reference
    rdPointReferences c all (i + 1) ds

/-- The POINT table (R52). -/
def rdPoints (c : Surroundings) : Rd (List PointDef) := do
  let l ← rdEntryList 0 48 rdPointDef
  rdPointReferences c l 0 l
  rdFinally
    (match c.station with
      | none => true
      | some t => t.roles.points.all fun n => (findPoint l n).isSome)
    .reference 0
  pure l

/-! ### STORAGE (R62), PUMP (R109, R184), BAND (R97) -/

/-- The STORAGE table (R62). -/
def rdStorage : Rd StorageTable := do
  let curve ← rdCurve 2 16 (rdS (-1000) 15000)
    (do pure ((← rd4 0 16000000 : Nat) : Int)) true false
  let k ← rd1 1 16
  let window ← rd1 4 60
  pure { curve, k, window }

/-- Class and action of a source: ALARM_ONLY goes with HOLD alone (R109); else ORDER (DEDUCED), reported at the
class field of the source (DESIGN CHOICE, log 15). -/
def rdSetting : Rd SourceSetting := do
  let cls ← rdNamed (ofCode sourceClasses) .latch
  let i ← rdPlace
  let action ← rdNamed (ofCode sourceActions) .stop
  rdCheckAt i (!(decide (cls = .latch) && decide (action = .alarmOnly))) .order
  pure ⟨cls, action⟩

/-- Settings of a fault point: polarity, class, action. -/
def rdFaultSetting : Rd FaultSetting := do
  let polarity ← rdNamed (ofCode polarities) .activeHigh
  let setting ← rdSetting
  pure ⟨polarity, setting⟩

/-- One pump's entry (R184). Of two entries of one pump the later one is reported (DESIGN CHOICE, log 15). -/
def rdPumpEntry (acc : List PumpEntry) : Rd PumpEntry := do
  let pump ← rdNamed pumpOfNumber .p1
  rdCheck (!acc.any fun e => decide (e.pump = pump)) .duplicate
  let curve ← rdCurve 2 8 (rd2i 0 21000) (rd2i 0 5000) false false
  let minRun ← rd2 0 1800
  let minOff ← rd2 0 1800
  let startConfirm ← rd1 2 60
  let stopConfirm ← rd1 2 60
  let startLimit ← rd1 1 12
  let f1 ← rdFaultSetting
  let f2 ← rdFaultSetting
  let f3 ← rdFaultSetting
  let currentLimit ← rd2 1 10000
  let currentDelay ← rd1 1 30
  let overcurrent ← rdSetting
  let uncommanded ← rdSetting
  pure
    { pump, curve, minRun, minOff, startConfirm, stopConfirm, startLimit, f1, f2, f3, currentLimit
      currentDelay, overcurrent, uncommanded }

/-- The PUMP table: past STANDBY, each installed pump has its entry (R109). -/
def rdPump (c : Surroundings) : Rd PumpTable := do
  let stagger ← rd1 2 60
  let design ← rdS (-1000) 15000
  let allowance ← rd2i 0 5000
  let entries ← rdList 0 6 rdPumpEntry
  rdFinally
    (!c.pastStandby ||
      match c.station with
      | none => true
      | some t => pumps.all fun p =>
        !t.installed.get p || entries.any fun e => decide (e.pump = p))
    .reference 0
  pure { stagger, design, allowance, entries }

/-- The number of pumps a STATION table installs. -/
def StationTable.installedCount (t : StationTable) : Nat :=
  (pumps.filter fun p => t.installed.get p).length

/-- The greatest pump count a band may have (R97). -/
def Surroundings.bandCap (c : Surroundings) : Nat :=
  match c.station with
  | none => 6
  | some t => t.installedCount

/-- One band (R97). -/
def rdBand (c : Surroundings) (acc : List Band) : Rd Band := do
  let start ← rdS (-1000) 15000
  match acc.getLast? with
  | none => pure ()
  | some b => rdCheck (decide (b.start < start)) .order
  let stop ← rdS (-1000) 15000
  let lead ← rd2i 0 2000
  rdCheck (decide (stop < start - lead)) .order
  let count ← rd1 1 c.bandCap
  pure { start, stop, lead, count }

/-- The BAND table (R97). -/
def rdBands (c : Surroundings) : Rd BandTable := do
  let bands ← rdEntryList 1 6 (rdBand c)
  let failedCount ← rd1 0 6
  pure { bands, failedCount }

/-! ### SCREEN (R122), WEIR (R137), ALARM (R160) -/

/-- The side a letter code names. -/
def sideOfCode : Nat → Option Side
  | 0 => some .a
  | 1 => some .b
  | _ => none

/-- One screen's letter and settings (R122, log 14). A screen whose rake is not in the actuator list offends at its
letter's field with REFERENCE; B at or below S_r offends at B's field and C at or above B at C's, both with ORDER where
RANGE would fit too; of two screens of one letter the later one is reported (DESIGN CHOICE, log 15). -/
def rdScreen (c : Surroundings) (acc : List (Side × ScreenDef)) : Rd (Side × ScreenDef) := do
  let side ← rdNamed sideOfCode .a
  rdCheck (!acc.any fun e => decide (e.1 = side)) .duplicate
  rdCheck
    (match c.station with
      | none => true
      | some t => t.actuators.any fun e => decide (e.drive = .rake side))
    .reference
  let rakeStart ← rd2 1 5000
  let blinded ← rd2 0 10000
  rdCheck (decide (rakeStart < blinded)) .order
  let clear ← rd2 0 65535
  rdCheck (decide (clear < blinded)) .order
  let interval ← rd2 0 1440
  let travelLimit ← rd2 10 600
  let jamLimit ← rd2 1 10000
  let jamDelay ← rd1 1 10
  let reverseTime ← rd1 2 30
  let retryLimit ← rd1 0 5
  pure (side,
    { rakeStart, blinded, clear, interval, travelLimit, jamLimit, jamDelay, reverseTime, retryLimit })

/-- The SCREEN table (R122). -/
def rdScreens (c : Surroundings) : Rd ScreenTable := do
  let l ← rdList 0 2 (rdScreen c)
  let oneCap ← rd1 0 6
  let twoCap ← rd1 0 6
  rdCheck (decide (twoCap ≤ oneCap)) .order
  let find := fun (r : Side) => (l.find? fun e => decide (e.1 = r)).map (·.2)
  pure { screens := ⟨find .a, find .b⟩, oneCap, twoCap }

/-- The weir a number names. -/
def weirOfNumber : Nat → Option Weir
  | 1 => some .w1
  | 2 => some .w2
  | _ => none

/-- One weir's number and settings (R137, R184). A weir without its level role offends at its number's field with
REFERENCE, and of two entries of one weir the later one is reported (DESIGN CHOICE, log 15). -/
def rdWeir (c : Surroundings) (acc : List (Weir × WeirDef)) : Rd (Weir × WeirDef) := do
  let w ← rdNamed weirOfNumber .w1
  rdCheck (!acc.any fun e => decide (e.1 = w)) .duplicate
  rdCheck
    (match c.station with
      | none => true
      | some t => (t.roles.weirLevel.get w).isSome)
    .reference
  let crest ← rdS (-1000) 15000
  let curve ← rdCurve 2 12 (rd2i 0 16000) (rd2i 0 30000) true true
  let onsetConfirm ← rd1 1 60
  let hysteresis ← rd1 0 200
  let endConfirm ← rd2 1 600
  let merge ← rd2 0 1440
  pure (w, { crest, curve, onsetConfirm, hysteresis, endConfirm, merge })

/-- The WEIR table (R137). -/
def rdWeirs (c : Surroundings) : Rd WeirTable := do
  let l ← rdList 0 2 (rdWeir c)
  let find := fun (w : Weir) => (l.find? fun e => decide (e.1 = w)).map (·.2)
  pure ⟨find .w1, find .w2⟩

/-- The ALARM table (R160): a priority for each of the 73 entries, with no count before them (DEDUCED, log 14). -/
def rdAlarm : Rd AlarmTable := do
  let priorities ← rdEntries (fun _ => rd1 0 3) 73 []
  let threshold ← rd1 0 3
  let renotify ← rd1 0 120
  let summary ← rd1 0 60
  let level ← rdS (-1000) 15000
  pure { priorities, threshold, renotify, summary, level }

/-! ### All ten -/

/-- The fields of one table. -/
inductive TableData where
  | station (t : StationTable)
  | access (t : List AccessEntry)
  | tap (t : List Tap)
  | point (t : List PointDef)
  | storage (t : StorageTable)
  | pump (t : PumpTable)
  | band (t : BandTable)
  | screen (t : ScreenTable)
  | weir (t : WeirTable)
  | alarm (t : AlarmTable)
  deriving DecidableEq, Repr

/-- An image divided into its table's fields and validated (R170 steps 6 and 7, R172, R176). -/
def readTable (c : Surroundings) (t : TableId) (image : List Byte) :
    Except (Reason × Nat) TableData :=
  match t with
  | .station => (rdRun (rdStation c) image).map .station
  | .access => (rdRun rdAccess image).map .access
  | .tap => (rdRun (rdTaps c) image).map .tap
  | .point => (rdRun (rdPoints c) image).map .point
  | .storage => (rdRun rdStorage image).map .storage
  | .pump => (rdRun (rdPump c) image).map .pump
  | .band => (rdRun (rdBands c) image).map .band
  | .screen => (rdRun (rdScreens c) image).map .screen
  | .weir => (rdRun (rdWeirs c) image).map .weir
  | .alarm => (rdRun rdAlarm image).map .alarm

/-- An image and its fields become the active copy (R172). -/
def ActiveTables.put (a : ActiveTables) (image : List Byte) : TableData → ActiveTables
  | .station t => { a with station := some ⟨image, t⟩ }
  | .access t => { a with access := some ⟨image, t⟩ }
  | .tap t => { a with tap := some ⟨image, t⟩ }
  | .point t => { a with point := some ⟨image, t⟩ }
  | .storage t => { a with storage := some ⟨image, t⟩ }
  | .pump t => { a with pump := some ⟨image, t⟩ }
  | .band t => { a with band := some ⟨image, t⟩ }
  | .screen t => { a with screen := some ⟨image, t⟩ }
  | .weir t => { a with weir := some ⟨image, t⟩ }
  | .alarm t => { a with alarm := some ⟨image, t⟩ }

/-- Replace the active copies. -/
def State.putTable (s : State) (image : List Byte) (d : TableData) : State :=
  { s with tables := { s.tables with active := s.tables.active.put image d } }

end Sys2Proof.Machine
end

