-- ==== Sys2Proof/Machine/Activation.lean ====
section
/-! DEFINITION. Activation of a table (R172): revalidation, the store queue (R173), and what each table's
activation does to each block. -/

namespace Sys2Proof.Machine

/-! ### The store (R173) -/

/-- The store starts its oldest queued write when none is in progress (R173). -/
def startWrite (s : State) : State :=
  match s.tables.writing, s.tables.queue with
  | none, w :: rest => { s with tables := { s.tables with writing := some w, queue := rest } }
  | _, _ => s

/-- A write of a table's image is queued: it replaces one not yet started in its slot, or takes a slot
behind the others (R173). -/
def queueWrite (t : TableId) (image : List Byte) (s : State) : State :=
  let q := s.tables.queue
  let q' :=
    if q.any fun w => decide (w.1 = t) then q.map fun w => if w.1 = t then (t, image) else w
    else q ++ [(t, image)]
  startWrite { s with tables := { s.tables with queue := q' } }

/-- A table's store fault mark, with STORE_FAULT following the marks (R173). -/
def setMark (t : TableId) (b : Bool) (s : State) : State :=
  stateStoreFault { s with tables := { s.tables with marks := s.tables.marks.set t b } }

/-- A write completion (R173). -/
def completeWrite (agrees : Bool) (s : State) : State :=
  match s.tables.writing with
  | none => s
  | some (t, image) =>
    let stored := s.tables.stored.set t (if agrees then .intact image else .failing)
    let s := startWrite { s with tables := { s.tables with writing := none, stored := stored } }
    if agrees then s
    else
      setMark t true
        { s with tables := { s.tables with writeFailures := inc16 s.tables.writeFailures } }

/-! ### STATION (R36, R6, R13, R12, R33, R72, R74, R85, R96, R120, R125, R151, R156) -/

/-- The gate list a STATION table gives, each drive keeping its foreign command count (R36). -/
def gateOf (actuators : List ActuatorDef) (old : List GateEntry) : List GateEntry :=
  actuators.map fun e =>
    ⟨e.node, e.channel, e.drive,
      ((old.find? fun g => decide (g.drive = e.drive)).map (·.foreignCount)).getD 0⟩

/-- The gate list is rebuilt; an actuator that leaves it loses its unsent member (R36). -/
def rebuildGate (s : State) : State :=
  let gate := gateOf ((s.station.map (·.actuators)).getD []) s.transit.gate
  settleFairness
    { s with transit := { s.transit with
        gate := gate
        actuator := s.transit.actuator.filter fun o => gate.any fun g => o.isFor g.drive } }

/-- The running silence against the new gap limit (R6): where it has reached it, the expiry is taken at once. -/
def compareGap (s : State) : State := guarded State.gapPassed gapReached s

/-- LOOP_STALL becomes present, if it is not (R12). -/
def stallReached (s : State) : State :=
  stateCondition 23 true { s with loop := { s.loop with loopStall := true } }

/-- The running stall timer is compared with the new limit (R12). -/
def compareStall (s : State) : State :=
  match s.loop.stallTimer with
  | none => s
  | some t => if s.stallLimit ≤ s.elapsed t ∧ s.loop.loopStall = false then stallReached s else s

/-- The wet-well role has changed its point (R72). -/
def resetWell (s : State) : State :=
  { s with flow := { s.flow with filter := none, held := none, ring := [] } }

/-- A pump that is removed or installed anew: its sources absent, but for FAIL_TO_STOP raised while the latch
holds it as its cause (R121, log 19), its overcurrent timer stopped, its uncommanded count 0 (R120). -/
def freshSources (p : Pump) (s : State) : State :=
  statePumpConditions p
    (s.setPump p
      { s.pump p with sources := Sources.fresh (s.pump p).latch, overTimer := none, uncommanded := 0 })

/-- The installed set changed: the duty order is rebuilt (R96), and the pumps removed or added start
afresh (R120). The other fields of their records, the minimum timers, the current command and the confirmed mark among
them, stay as they stand (DESIGN CHOICE, log 52). -/
def installedChanged (old : State) (s : State) : State :=
  if s.installedPumps = old.installedPumps then s
  else
    eachPump (fun p s => if s.installed p = old.installed p then s else freshSources p s)
      { s with seq := { s.seq with duty := s.installedPumps } }

/-- What a pump reads through its roles is judged afresh after a STATION table activation (log 19). -/
def rolesChanged (old : State) (p : Pump) (s : State) : State :=
  judgeFaults p (judgeSelector p (judgeOvercurrent p (feedbackChanged p (old.feedbackActive p) s)))

/-- A STATION table activation at one weir (R151, log 25). -/
def weirRoleChanged (old : State) (w : Weir) (s : State) : State :=
  match s.weirDef w with
  | none => s
  | some _ =>
    match s.role fun r => r.weirLevel.get w with
    | none => weirGone w s
    | some n =>
      if old.role (fun r => r.weirLevel.get w) = some n then s else flagChanged w s

/-- The annunciator joins the gate list: its mode is posted (R156). -/
def annunciatorAdded (old : State) (s : State) : State :=
  if (s.gateEntry .annunciator).isSome ∧ (old.gateEntry .annunciator).isNone then
    postAnnunciate s.annMode s
  else s

/-- The wet-well role against the one before (R72). -/
def wellChanged (old s : State) : State :=
  if s.role (·.wetWell) = old.role (·.wetWell) then s else resetWell s

/-- A STATION table activation, `old` the state before it. -/
def stationActivated (old : State) (s : State) : State :=
  annunciatorAdded old <| eachWeir (weirRoleChanged old) <| eachSide judgeRakeMode <|
    eachPump (rolesChanged old) <| judgeSupply <| installedChanged old <| wellChanged old <|
    expirePassed <| compareStall <| compareGap <| judgeHoldOut <| rebuildGate s

/-! ### POINT (R53) -/

/-- A point's record at a POINT table activation: kept, or set as at a start (R53). -/
def pointRecAfter (old new : Option PointDef) (r : PointRec) : PointRec :=
  match old, new with
  | some a, some b => if a.cls = b.cls then r else PointRec.start
  | _, _ => PointRec.start

/-- POINT_FAILED clears with a definition removed or changed in class (R51, R53). -/
def pointRedefined (old : State) (n : Nat) (s : State) : State :=
  match old.pointDef n, s.pointDef n with
  | some a, some b => if a.cls = b.cls then s else stateCondition (26 + n) false s
  | some _, none => stateCondition (26 + n) false s
  | none, _ => s

/-- A POINT table activation (R53): the records, then the reactions to each change (R55), then the
conditions. -/
def pointActivated (old : State) (s : State) : State :=
  let recs := pointNumbers.map fun n =>
    pointRecAfter (old.pointDef n) (s.pointDef n) (old.pointRec n)
  let s := { s with points := { s.points with recs := recs } }
  let s := pointNumbers.foldl (fun s n => pointChanged n (old.pointRec n) s) s
  pointNumbers.foldl (fun s n => pointRedefined old n s) s

/-! ### STORAGE, PUMP, BAND (R69, R70, R77, R94, R102, R109, R111, R121) -/

/-- The ring is emptied (R69). -/
def storageActivated (s : State) : State := { s with flow := { s.flow with ring := [] } }

/-- A running timer reaches a new length (R94, R134). -/
def State.reached (s : State) (length : Nat) (timer : Option Nat) : Bool :=
  match timer with
  | none => false
  | some t => decide (length ≤ s.elapsed t)

/-- The overcurrent timer and source against a new limit and delay (R111, log 32). -/
def compareOvercurrent (p : Pump) (s : State) : State :=
  if s.overLimit p then
    if s.reached (((s.pumpEntry p).map (·.currentDelay)).getD 0) (s.pump p).overTimer then
      overcurrentReached p s
    else s
  else judgeOvercurrent p s

/-- A pump left without an entry is never present with UNCOMMANDED_STOP (R109). -/
def dropUncommanded (p : Pump) (s : State) : State :=
  if (s.pumpEntry p).isNone then
    s.setSources p { (s.pump p).sources with uncommandedStop := false }
  else s

/-- A pump's running confirm timers against their new lengths (R94). -/
def compareConfirms (p : Pump) (s : State) : State :=
  match s.pumpEntry p with
  | none => s
  | some e =>
    guarded (fun s => s.reached e.stopConfirm (s.pump p).stopConfirm) (stopConfirmExpired p)
      (guarded (fun s => s.reached e.startConfirm (s.pump p).startConfirm) (startConfirmExpired p) s)

/-- A minimum run or minimum off timer, held as its start, over a change of its length (R94): one that has
elapsed under the old length, or reaches the new one, has elapsed for good (DEDUCED, log 40). -/
def State.lengthChanged (s : State) (old new : Nat) (timer : Option Nat) : Option Nat :=
  if s.timerElapsed old timer || s.timerElapsed new timer then none else timer

/-- A pump's minimum run and minimum off timers against their new lengths (R94), `old` the state before. -/
def compareMinimums (old : State) (p : Pump) (s : State) : State :=
  s.setPump p
    { s.pump p with
      minRun := s.lengthChanged (old.minRunLength p) (s.minRunLength p) (s.pump p).minRun
      minOff := s.lengthChanged (old.minOffLength p) (s.minOffLength p) (s.pump p).minOff }

/-- A PUMP table activation at one pump, `old` the state before: minimum timers, fault points, overcurrent, a pump
left without an entry (R109), conditions (R121), and confirm timers against their new lengths (R94), in this order
(DESIGN CHOICE, log 43). -/
def pumpActivated (old : State) (p : Pump) (s : State) : State :=
  compareConfirms p <| statePumpConditions p <| dropUncommanded p <| compareOvercurrent p <|
    judgeFaults p <| compareMinimums old p s

/-- The running stagger timer against its new length (R77). -/
def compareStagger (s : State) : State :=
  if s.reached s.staggerLength s.arbiter.stagger then
    { s with arbiter := { s.arbiter with stagger := none } }
  else s

/-- A BAND table activation (R102). -/
def bandActivated (s : State) : State :=
  { s with seq := { s.seq with engaged := s.bandsAtActivation s.bands s.seq.engaged } }

/-! ### SCREEN (R134) -/

/-- A rake's running timers against their new lengths, the jam current timer judged afresh (R134): the new jam
current limit first, then the travel, the jam and the reverse timer (DESIGN CHOICE, log 44). -/
def compareRakeTimers (r : Side) (s : State) : State :=
  match s.screenDef r with
  | none => s
  | some d =>
    guarded (fun s => s.reached d.reverseTime (s.rake r).reverse) (reverseExpired r) <|
      guarded (fun s => s.reached d.jamDelay (s.rake r).jam) (jamCurrentReached r) <|
      guarded (fun s => s.reached d.travelLimit (s.rake r).travel) (travelExpired r) <|
      judgeJamTimer r s

/-- A SCREEN table activation at one screen (R134). -/
def screenActivated (old : State) (r : Side) (s : State) : State :=
  match old.screenDef r, s.screenDef r with
  | some _, some _ => compareRakeTimers r (judgeRakeMode r s)
  | some _, none =>
    judgeRakeMode r (stateCondition (blindedEntry r) false (s.setScreen r ScreenRec.start))
  | none, some _ => judgeRakeMode r (s.setScreen r ScreenRec.start)
  | none, none => s

/-! ### ALARM (R159, R160, R161) -/

/-- A priority's change to 0 (R160): the entry becomes NORMAL with no notice (log 30). -/
def disableAlarm (n : Nat) (s : State) : State :=
  let e := s.alarm n
  s.setAlarm n
    { e with
      state := .normal
      lastChange := if e.state = .normal then e.lastChange else some s.clockTime
      renotify := none }

/-- The renotify timer of an entry under a new ALARM table (R159): stopped where it may no longer run; compared
with a length only where the activation changes the interval. -/
def compareRenotify (oldInterval : Nat) (n : Nat) (s : State) : State :=
  let e := s.alarm n
  let interval := renotifyIn s.alarmTable
  let may := s.notified n && decide (s.priority n = 1)
  if interval = 0 ∨ may = false then s.setAlarm n { e with renotify := none }
  else if interval = oldInterval then s
  else if oldInterval = 0 then
    if e.state.unack then s.setAlarm n { e with renotify := some s.now } else s
  else if s.reached (60 * interval) e.renotify then repeatAlarm n s
  else s

/-- An ALARM table activation at one entry (R160), the old priority and interval at hand. -/
def alarmActivated (oldPriority oldInterval : Nat) (n : Nat) (s : State) : State :=
  if s.priority n = 0 then disableAlarm n s
  else
    compareRenotify oldInterval n
      (if oldPriority = 0 ∧ (s.alarm n).condition then changeAlarm n .activeUnack s else s)

/-- The summary timer under a new ALARM table (R161). -/
def compareSummary (oldInterval : Nat) (s : State) : State :=
  let interval := summaryIn s.alarmTable
  if interval = oldInterval then s
  else { s with report := ⟨if interval = 0 then none else some s.now⟩ }

/-- An ALARM table activation (R160): the entries in number order, then the summary interval. -/
def alarmsActivated (old : State) (s : State) : State :=
  compareSummary (summaryIn old.alarmTable)
    (alarmNumbers.foldl
      (fun s n => alarmActivated (old.priority n) (renotifyIn old.alarmTable) n s) s)

/-! ### Activation (R172) -/

/-- An activation is delivered to each block its table reaches (R172). -/
def deliver (t : TableId) (old : State) (s : State) : State :=
  match t with
  | .station => stationActivated old s
  | .access => s
  | .tap => s
  | .point => pointActivated old s
  | .storage => storageActivated s
  | .pump => compareStagger (eachPump (pumpActivated old) s)
  | .band => bandActivated s
  | .screen => eachSide (screenActivated old) s
  | .weir => eachWeir weirActivated s
  | .alarm => alarmsActivated old s

/-- Replace a table's shadow. -/
def setShadow (t : TableId) (x : Shadow) (s : State) : State :=
  { s with tables := { s.tables with shadows := s.tables.shadows.set t x } }

/-- The outcome of a table's activation is recorded (R172). -/
def setOutcome (t : TableId) (x : Activation) (s : State) : State :=
  { s with tables := { s.tables with outcomes := s.tables.outcomes.set t x } }

/-- A shadow's image is activated, or refused by its revalidation (R172). -/
def activateImage (t : TableId) (image : List Byte) (s : State) : State :=
  let s := setShadow t .empty s
  match readTable s.surroundings t image with
  | .error _ =>
    setOutcome t .refused
      { s with tables := { s.tables with refused := inc16 s.tables.refused } }
  | .ok d =>
    setOutcome t .activated
      (deliver t s (queueWrite t image (setMark t false (s.putTable image d))))

/-- A table whose shadow waits for one of the given methods is activated (R172). -/
def activateIf (m : Method) (s : State) (t : TableId) : State :=
  match s.tables.shadows.get t with
  | .waiting segments m' => if m' = m then activateImage t segments.flatten s else s
  | _ => s

/-- Every table waiting for a method is activated, in table order (R172). -/
def activateAll (m : Method) (s : State) : State := tableIds.foldl (activateIf m) s

/-- A table waits for a method. -/
def State.awaits (s : State) (m : Method) : Bool :=
  tableIds.any fun t =>
    match s.tables.shadows.get t with
    | .waiting _ m' => decide (m' = m)
    | _ => false

/-! ### The end of an event (log 11) -/

/-- No pump is STARTING or STOPPING and no rake is REVERSING (R172). -/
def State.quiet (s : State) : Bool :=
  pumps.all (fun p =>
    decide ((s.pump p).state ≠ .starting) && decide ((s.pump p).state ≠ .stopping)) &&
  sides.all fun r => decide ((s.rake r).state ≠ .reversing)

/-- The shedding check (R80) and the grant pass (R79). -/
def settleDrives (s : State) : State := grantPass (shedCheck s)

/-- QUIET activations at the end of an event (R172), with the drives settled again after them. -/
def activateQuiet (s : State) : State :=
  if s.quiet && s.awaits .quiet then settleDrives (activateAll .quiet s) else s

/-- The end of an event that may have changed what the grant pass reads (R79, R80, R172), and then the
annunciator and the notices (R156, R27). -/
def finishDrives (s : State) : State := finishAlarms (activateQuiet (settleDrives s))

end Sys2Proof.Machine
end

