-- ==== Sys2Proof/Machine/ReadImages.lean ====
section
/-! DEFINITION. The data images of the reads (R183, log 16): each gives its fields in the order in which
the rule that owns the request lists them, formed whole from the state as it stands. -/

namespace Sys2Proof.Machine

/-! ### Codes from 0 in the order of the rule that defines the value (R183) -/

/-- Station modes: STANDBY 0, AUTOMATIC 1 (R182); SETTLING 2. -/
def StationMode.code : StationMode → Nat
  | .standby => 0
  | .automatic => 1
  | .settling => 2

/-- Wanted modes (R182). -/
def WantedMode.code : WantedMode → Nat
  | .standby => 0
  | .automatic => 1

/-- Shadow states (R168). -/
def Shadow.code : Shadow → Nat
  | .empty => 0
  | .loading _ => 1
  | .waiting _ _ => 2

/-- Outcomes of the last activation (R167). -/
def Activation.code : Activation → Nat
  | .activated => 0
  | .refused => 1
  | .none => 2

/-- Loop health (R16). -/
def LoopHealth.code : LoopHealth → Nat
  | .good => 0
  | .degraded => 1
  | .stalled => 2

/-- Supply states, in the order of R75's table (DESIGN CHOICE, log 16: R74's lists MAINS, NONE, GENERATOR). -/
def Supply.code : Supply → Nat
  | .mains => 0
  | .generator => 1
  | .lost => 2

/-- Cases of demand (R99). -/
def DemandCase.code : DemandCase → Nat
  | .lowFloat => 0
  | .highFloat => 1
  | .failedLevel => 2
  | .bands => 3

/-- Point classes (R44). -/
def PointClass.code : PointClass → Nat
  | .level => 0
  | .current => 1
  | .state => 2
  | .select => 3

/-- Point qualities (section 3.4). -/
def Quality.code : Quality → Nat
  | .none => 0
  | .good => 1
  | .clamped => 2
  | .stale => 3
  | .failed => 4
  | .substituted => 5
  | .forced => 6

/-- Pump states (R85). -/
def PumpState.code : PumpState → Nat
  | .hand => 0
  | .off => 1
  | .idle => 2
  | .startWait => 3
  | .starting => 4
  | .running => 5
  | .stopping => 6
  | .held => 7
  | .tripped => 8

/-- Fault sources (R109). -/
def FaultSource.code : FaultSource → Nat
  | .f1 => 0
  | .f2 => 1
  | .f3 => 2
  | .overcurrent => 3
  | .uncommandedStop => 4
  | .commandLost => 5
  | .failToStart => 6
  | .failToStop => 7

/-- Rake states (R125). -/
def RakeState.code : RakeState → Nat
  | .hand => 0
  | .off => 1
  | .idle => 2
  | .waitSlot => 3
  | .raking => 4
  | .reversing => 5
  | .jammed => 6

/-- Jam causes (R125). -/
def JamCause.code : JamCause → Nat
  | .travel => 0
  | .current => 1
  | .commandLost => 2

/-- Level bases (R59). -/
def LevelBasis.code : LevelBasis → Nat
  | .filtered => 0
  | .held => 1
  | .none => 2

/-- Discharge bases (R59). -/
def DischargeBasis.code : DischargeBasis → Nat
  | .river => 0
  | .design => 1

/-- Qualities of the inflow estimate (R59). -/
def FlowQuality.code : FlowQuality → Nat
  | .valid => 0
  | .part => 1
  | .invalid => 2

/-! ### READ_STATUS (R167) -/

/-- One figure from bits given by number: bit n - 1 for code n (R183). -/
def bitSet (codes : List Nat) : Nat := (codes.map fun n => 2 ^ (n - 1)).foldl (· + ·) 0

/-- Codes of drives (R182). -/
def rakeCode : Side → Nat
  | .a => 7
  | .b => 8

/-- A set of drives as one character, bit code - 1 (log 16). -/
def driveSet (ps : List Pump) (rs : List Side) : List Byte :=
  u8 (bitSet (ps.map Pump.number ++ rs.map rakeCode))

/-- What READ_STATUS tells of one table (R167). -/
def State.tableStatus (s : State) (t : TableId) : List Byte :=
  flag (s.tableActive t) ++ u8 (s.tables.shadows.get t).code ++ flag (s.tables.marks.get t) ++
    u8 (s.tables.outcomes.get t).code

/-- Address, rate and modes (R167); the strapped rate as its strap value, 0 to 3 (DESIGN CHOICE, log 16). -/
def State.statusModes (s : State) : List Byte :=
  [s.chip.ownAddress] ++ u8 s.chip.rate.toNat ++ u8 s.tables.mode.code ++ u8 s.tables.wanted.code ++
    maybe 1 u8 (s.remaining Config.settlingLength s.tables.settling)

/-- Supply and slot record (R76, R167). -/
def State.statusSlots (s : State) : List Byte :=
  u8 s.arbiter.supply.code ++ u8 s.capacity ++ driveSet s.grantedPumps s.grantedRakes ++
    driveSet s.loosePumps s.looseRakes ++ u8 s.freeSlots

/-- Demand record, A and the engaged flags (R99, R167). -/
def State.statusDemand (s : State) : List Byte :=
  u8 s.seq.demand.d ++ u8 s.seq.demand.reason.code ++ u8 s.seq.demand.uncapped ++
    maybe 1 u8 s.seq.demand.cap ++ u8 s.committed ++ counted flag s.seq.engaged

/-- A list of pumps in order. -/
def orderChars (ps : List Pump) : List Byte := counted (fun p => u8 p.number) ps

/-- Weir state codes (R185). -/
def WeirState.code : WeirState → Nat
  | .dry => 0
  | .onset => 1
  | .spilling => 2
  | .receding => 3

/-- The data image of READ_STATUS: the fields R167 lists, then the weir states R185 says it carries, and nothing
of the balance record (R59; DEDUCED, log 18). R183 calls it the longest image; by the lists of R167, R163 and R56 it is
not, and the lists are followed (DEDUCED, log 18). -/
def State.statusImage (s : State) : List Byte :=
  List.flatten
    [s.statusModes, tableIds.flatMap s.tableStatus,
      flag s.tables.writing.isSome, u8 s.tables.queue.length, u8 s.loopHealth.code,
      s.statusSlots, s.statusDemand, orderChars s.seq.duty, orderChars s.seq.run,
      u32 s.clock.running, u32 s.clockTime, flag s.clock.set, u8 s.unackCount,
      flag s.handler.restart.isSome, weirs.flatMap fun w => u8 (s.weir w).state.code]

/-! ### READ_COUNTERS (R178) -/

/-- The line counters in the order of R15. -/
def LineCounters.list (c : LineCounters) : List Nat :=
  [c.goodFrames, c.stray, c.markerAborts, c.lengthErrors, c.checkErrors, c.malformed, c.parityErrors,
    c.framingErrors, c.gapAborts, c.breakAborts, c.breaks, c.longBreaks, c.lostToBreak]

/-- The foreign command count of an actuator, 0 where it has no entry (R39). -/
def State.foreignCount (s : State) (a : Actuator) : Nat :=
  ((s.gateEntry a).map (·.foreignCount)).getD 0

/-- The transit counters in the order of R39. -/
def State.transitCounters (s : State) : List Nat :=
  let c := s.transit.count
  [c.orphans, c.contentErrors] ++ actuators.map s.foreignCount ++
    [c.unlisted, c.shed, c.timeRefused, c.overflow, c.noticesLost, c.strayOwn, c.retries,
      c.undelivered, c.unconfirmed, c.givenUp]

/-- The counters of a group (R178, R182); absent for a group that does not exist. -/
def State.counterGroup (s : State) (g : Byte) : Option (List Nat) :=
  match g.toNat with
  | 0 => some s.loop.line.list
  | 1 => some s.transitCounters
  | 2 => some [s.points.rejected, s.points.toUndefined]
  | 3 => some [s.spill.falseOnsets.w1, s.spill.falseOnsets.w2]
  | 4 => some
      [s.handler.denied, s.handler.malformed, s.tables.refused, s.tables.writeFailures]
  | _ => none

/-! ### READ_POINT, READ_PUMP, READ_RAKE, READ_FLOW (R56, R107, R109, R135, R59) -/

/-- The entry of a point (R56): the defined mark, then the class with a presence character of its own, absent for
an undefined point (DESIGN CHOICE, log 16). -/
def State.pointEntry (s : State) (n : Nat) : List Byte :=
  let d := s.pointDef n
  let r := if d.isSome then s.pointRec n else PointRec.start
  u8 n ++ flag d.isSome ++ maybe 1 (fun d => u8 (PointDef.cls d).code) d ++ s16 r.value ++
    u8 r.quality.code ++ u16 r.age ++ maybe 2 s16 (r.accepted.map Prod.fst)

/-- Entries of a run of numbers from the first, at most `count` and none past `last`. -/
def runFrom (first count last : Nat) : List Nat :=
  ((List.range count).map (first + ·)).filter fun n => decide (n ≤ last)

/-- The data image of READ_POINT (R56). -/
def State.pointImage (s : State) (first count : Nat) : List Byte :=
  counted s.pointEntry (runFrom first count 47)

/-- Time remaining on a timer that is running and not elapsed (R94, R107). -/
def State.unelapsed (s : State) (length : Nat) (timer : Option Nat) : Option Nat :=
  if s.timerElapsed length timer then none else s.remaining length timer

/-- A pump's place in an order (R107), the head counted as 1 (DESIGN CHOICE, log 16). -/
def placeIn (l : List Pump) (p : Pump) : Option Nat :=
  (l.findIdx? fun q => decide (q = p)).map (· + 1)

/-- Lengths from a pump's entry; 0 without one. -/
def State.pumpLength (s : State) (p : Pump) (f : PumpEntry → Nat) : Nat :=
  ((s.pumpEntry p).map f).getD 0

/-- The time remaining on each of a pump's four timers (R94, R107). -/
def State.pumpTimers (s : State) (p : Pump) : List Byte :=
  let r := s.pump p
  maybe 2 u16 (s.unelapsed (s.minRunLength p) r.minRun) ++
    maybe 2 u16 (s.unelapsed (s.minOffLength p) r.minOff) ++
    maybe 1 u8 (s.remaining (s.pumpLength p (·.startConfirm)) r.startConfirm) ++
    maybe 1 u8 (s.remaining (s.pumpLength p (·.stopConfirm)) r.stopConfirm)

/-- The data image of READ_PUMP (R107, R109). The start limit has a presence character and is absent where the pump
has no PUMP entry (DESIGN CHOICE, log 16). -/
def State.pumpImage (s : State) (p : Pump) : List Byte :=
  let r := s.pump p
  List.flatten
    [flag (s.installed p), u8 r.mgmt.code, u8 r.selector.code, u8 r.state.mode.code,
      u8 r.state.code, maybe 1 (fun c => u8 (FaultSource.code c)) r.latch, [r.command.code],
      flag r.confirmed, s.pumpTimers p, u8 (s.startCount p), maybe 1 u8 (s.startLimit p),
      u32 r.runSeconds, maybe 1 u8 (placeIn s.seq.duty p), maybe 1 u8 (placeIn s.seq.run p),
      faultSources.flatMap (fun f => flag (s.sourcePresent p f)), u8 r.uncommanded]

/-- Lengths from a screen's settings; 0 without them. -/
def State.screenLength (s : State) (r : Side) (f : ScreenDef → Nat) : Nat :=
  ((s.screenDef r).map f).getD 0

/-- The data image of READ_RAKE (R135). The differential has a presence character of its own behind the measured mark
(DESIGN CHOICE, log 16). -/
def State.rakeImage (s : State) (r : Side) : List Byte :=
  let v := s.rake r
  let x := s.screen r
  let waiting := decide (v.state = .waitSlot)
  List.flatten
    [flag (s.screenDef r).isSome, flag (s.inService r), u8 v.mgmt.code, u8 v.state.mode.code,
      u8 v.state.code, maybe 1 (fun c => u8 (JamCause.code c)) v.latch, u8 v.attempts,
      flag v.parkSeen, [v.command.code], flag v.confirmed, flag v.lost,
      maybe 2 u16 (s.remaining (s.screenLength r (·.travelLimit)) v.travel),
      maybe 1 u8 (s.remaining (s.screenLength r (·.reverseTime)) v.reverse),
      maybe 1 u8 (s.remaining (s.screenLength r (·.jamDelay)) v.jam),
      u32 v.interval, u32 v.cycles, flag x.differential.isSome, maybe 2 s16 x.differential,
      flag x.blinded, flag waiting, flag (waiting && s.urgent r)]

/-- A weir's head with its mark, absent together (R59). -/
def weirHeadChars (x : WeirFlow) : List Byte :=
  maybe 3 (fun h => s16 h ++ flag x.usable) x.head

/-- The data image of READ_FLOW (R59). -/
def State.flowImage (s : State) : List Byte :=
  let r := s.flow.record
  List.flatten
    [u32 r.running, maybe 3 (fun l => s16 (Prod.fst l) ++ u8 (Quality.code (Prod.snd l))) r.wetWell,
      s16 r.level, u8 r.basis.code, maybe 4 (fun v => u32 (Int.toNat v)) r.volume,
      maybe 4 (fun h => u16 (Head.value h).toNat ++ u8 (Head.discharge h).code ++
        u8 (Head.well h).code) r.head,
      r.flows.toList.flatMap (fun q => u16 q.toNat), u16 r.total.toNat,
      weirHeadChars r.weirs.w1, weirHeadChars r.weirs.w2,
      u16 r.weirs.w1.flow.toNat, u16 r.weirs.w2.flow.toNat,
      u16 r.qin.toNat, u8 r.qinQuality.code, s.flow.totals.toList.flatMap u32,
      u8 s.flow.ring.length]

/-! ### READ_ALARMS, READ_SPILL, READ_TABLE (R163, R149, R185, R169) -/

/-- The record of an alarm entry (R163). -/
def State.alarmRecord (s : State) (n : Nat) : List Byte :=
  let e := s.alarm n
  u8 n ++ u8 (s.priority n) ++ flag e.condition ++ u8 e.state.code ++ maybe 4 u32 e.firstActive ++
    maybe 4 u32 e.lastChange ++ u8 e.count ++ flag e.renotify.isSome

/-- The data image of READ_ALARMS (R163). -/
def State.alarmImage (s : State) (first count : Nat) : List Byte :=
  List.flatten
    [counted s.alarmRecord (runFrom first count 73), [s.annMode.code],
      maybe 1 (fun m => [AnnMode.code m]) s.alarms.posted, flag s.alarms.confirmed,
      flag s.alarms.silence, u8 s.unackCount]

/-- The record that follows a number in opening order (R149). -/
def nextAfter (n : Nat) : List SpillRec → Option SpillRec
  | [] => none
  | r :: rest => if r.number = n then rest.head? else nextAfter n rest

/-- The record READ_SPILL names (R149). -/
def State.spillNamed (s : State) (next : Bool) (n : Nat) : Option SpillRec :=
  if next then if n = 0 then s.spill.log.head? else nextAfter n s.spill.log
  else s.spillOf n

/-- The data image of READ_SPILL (R185). -/
def State.spillImage (s : State) (r : SpillRec) : List Byte :=
  r.chars ++ u8 s.spill.log.length ++ u16 s.spill.nextNumber ++ u16 s.spill.lostCount

/-- The number of 32-character segments of an image (R169). -/
def segmentCount (image : List Byte) : Nat := (image.length + 31) / 32

/-- A segment of an image (R169). -/
def segmentOf (image : List Byte) (i : Nat) : List Byte := (image.drop (32 * i)).take 32

/-- The data image of READ_TABLE: the segment, the number of segments, the image check of an active copy (R169). The
segment has a count character before it, and the check a presence character (DESIGN CHOICE, log 16). -/
def tableChars (segment : List Byte) (n : Nat) (check : Option (BitVec 16)) : List Byte :=
  counted (fun c => [c]) segment ++ u8 n ++ maybe 2 (fun c => [hi16 c, lo16 c]) check

/-- What READ_TABLE reads; absent where it is answered NOT_FOUND (R169). -/
def State.tableImage (s : State) (t : TableId) (shadow : Bool) (i : Nat) : Option (List Byte) :=
  if shadow then
    match s.tables.shadows.get t with
    | .empty => none
    | .loading segments =>
      match segments[i]? with
      | some (some g) => some (tableChars g segments.length none)
      | _ => none
    | .waiting segments _ => (segments[i]?).map fun g => tableChars g segments.length none
  else
    match s.activeImage t with
    | none => none
    | some image =>
      if i < segmentCount image then
        some (tableChars (segmentOf image i) (segmentCount image) (some (crc image)))
      else none

end Sys2Proof.Machine
end

