-- ==== Sys2Proof/Machine/Requests.lean ====
section
/-! DEFINITION. The request handler and the table manager's requests: judging a request, carrying it out,
and its one response (11_tables_requests_and_start_up.md, R166 to R178, R183; and the requests of the
other chapters). -/

namespace Sys2Proof.Machine

/-! ### Answers (R166, R182, R183) -/

/-- The answer to a request: its status, its part index and part count, its data. -/
structure Answer where
  status : Status
  part : Nat
  parts : Nat
  data : List Byte
  deriving DecidableEq, Repr

/-- An answer without data: part 0 of 1 (DESIGN CHOICE, log 16). -/
def Answer.plain (st : Status) : Answer := ⟨st, 0, 1, []⟩

/-- DONE with data of one part. -/
def Answer.done (data : List Byte) : Answer := ⟨.done, 0, 1, data⟩

/-- REJECTED with its reason and field index (R182). -/
def Answer.rejected (r : Reason) (i : Nat) : Answer := ⟨.rejected, 0, 1, u8 r.code ++ u16 i⟩

/-- The number of parts of a data image (R183). -/
def partCount (image : List Byte) : Nat := max 1 ((image.length + 35) / 36)

/-- A part of a data image (R183); part 0 where no index is given. An index that the image does not reach is MALFORMED,
with the Part character of part 0 of 1, not of the index asked for (DESIGN CHOICE, log 16). -/
def answerPart (image : List Byte) (part : Option Byte) : Answer :=
  let i := (part.map BitVec.toNat).getD 0
  if i < partCount image then ⟨.done, i, partCount image, (image.drop (36 * i)).take 36⟩
  else Answer.plain .malformed

/-- The payload of a response (R182). -/
def Answer.payload (a : Answer) (code tag : Byte) : List Byte :=
  [code, tag] ++ u8 a.status.code ++ u8 (16 * a.part + (a.parts - 1)) ++ a.data

/-- The status is counted, where it is DENIED or MALFORMED (R178). -/
def countStatus (st : Status) (s : State) : State :=
  match st with
  | .denied => { s with handler := { s.handler with denied := inc16 s.handler.denied } }
  | .malformed => { s with handler := { s.handler with malformed := inc16 s.handler.malformed } }
  | _ => s

/-- The one RESPONSE of a request is posted to its sender (R166, R28); `restart` marks the one a pending
restart waits for. -/
def respond (src code tag : Byte) (restart : Bool) (a : Answer) (s : State) : State :=
  let o : OwnFrame :=
    { dest := some src, payload := a.payload code tag, ref := .response tag restart, retry := 0 }
  countStatus a.status
    { s with transit := { s.transit with response := s.transit.response ++ [o] } }

/-! ### Reads (R167, R178, R56, R107, R135, R59, R163, R149, R169) -/

/-- READ_COUNTERS (R178). -/
def answerCounters (g : Byte) (part : Option Byte) (s : State) : Answer :=
  match s.counterGroup g with
  | none => Answer.plain .malformed
  | some l => answerPart (l.flatMap u16) part

/-- READ_POINT (R56). -/
def answerPoint (first count : Byte) (part : Option Byte) (s : State) : Answer :=
  if 47 < first.toNat ∨ count.toNat = 0 ∨ 8 < count.toNat then Answer.plain .malformed
  else answerPart (s.pointImage first.toNat count.toNat) part

/-- READ_PUMP (R107). -/
def answerPump (pump : Byte) (part : Option Byte) (s : State) : Answer :=
  match pumpOfNumber pump.toNat with
  | none => Answer.plain .malformed
  | some p => answerPart (s.pumpImage p) part

/-- The rake a drive code names; absent for any other code (R127, R135, log 16). -/
def rakeOfCode (b : Byte) : Option Side :=
  match driveOfCode b with
  | some (.rake r) => some r
  | _ => none

/-- READ_RAKE (R135). -/
def answerRake (drive : Byte) (part : Option Byte) (s : State) : Answer :=
  match rakeOfCode drive with
  | none => Answer.plain .malformed
  | some r => answerPart (s.rakeImage r) part

/-- READ_ALARMS (R163). -/
def answerAlarms (first count : Byte) (part : Option Byte) (s : State) : Answer :=
  if first.toNat = 0 ∨ 73 < first.toNat ∨ count.toNat = 0 ∨ 8 < count.toNat then
    Answer.plain .malformed
  else answerPart (s.alarmImage first.toNat count.toNat) part

/-- READ_SPILL (R149): form 0 by number from 1, form 1 next after from 0. A record not found is NOT_FOUND with any
part index up to 15, there being no image whose parts it could exceed (R183; DESIGN CHOICE, log 16). -/
def answerSpill (form : Byte) (number : BitVec 16) (part : Option Byte) (s : State) : Answer :=
  if 1 < form.toNat ∨ (form.toNat = 0 ∧ number.toNat = 0) then Answer.plain .malformed
  else
    match s.spillNamed (decide (form.toNat = 1)) number.toNat with
    | none => Answer.plain .notFound
    | some r => answerPart (s.spillImage r) part

/-- READ_TABLE (R169). A segment not found is NOT_FOUND with any part index up to 15 (R183; DESIGN CHOICE, log 16). -/
def answerTable (table copy index : Byte) (part : Option Byte) (s : State) : Answer :=
  match tableOfCode table with
  | none => Answer.plain .malformed
  | some t =>
    if 1 < copy.toNat then Answer.plain .malformed
    else
      match s.tableImage t (decide (copy.toNat = 1)) index.toNat with
      | none => Answer.plain .notFound
      | some image => answerPart image part

/-! ### Drives and points (R87, R119, R125, R127, R133, R49, R50) -/

/-- SET_DRIVE_MODE for a drive and mode that exist (R87, R125). -/
def driveModeSet (d : Drive) (m : Mode) (s : State) : Answer × State :=
  match d with
  | .pump p =>
    if s.installed p then
      (Answer.done [],
        finishDrives (judgePumpMode p (s.setPump p { s.pump p with mgmt := m })))
    else (Answer.plain .notFound, s)
  | .rake r =>
    if s.inService r then
      (Answer.done [],
        finishDrives (judgeRakeMode r (s.setRake r { s.rake r with mgmt := m })))
    else (Answer.plain .notFound, s)

/-- SET_DRIVE_MODE (R87, R125). -/
def doSetDriveMode (drive mode : Byte) (s : State) : Answer × State :=
  match driveOfCode drive, modeOfCode mode with
  | some d, some m => driveModeSet d m s
  | _, _ => (Answer.plain .malformed, s)

/-- RESET_DRIVE (R119, R133). -/
def doResetDrive (drive : Byte) (s : State) : Answer × State :=
  match driveOfCode drive with
  | none => (Answer.plain .malformed, s)
  | some (.pump p) =>
    if s.installed p then
      let x := resetPump p s
      (Answer.plain x.1, if x.1 = .done then finishDrives x.2 else s)
    else (Answer.plain .notFound, s)
  | some (.rake r) =>
    if s.inService r then (Answer.done [], finishDrives (resetRake r s))
    else (Answer.plain .notFound, s)

/-- RAKE_NOW (R127). -/
def doRakeNow (drive : Byte) (s : State) : Answer × State :=
  match rakeOfCode drive with
  | none => (Answer.plain .malformed, s)
  | some r =>
    if s.inService r then
      if (s.rake r).state.mode ≠ .auto ∨ (s.rake r).state = .jammed then
        (Answer.plain .badState, s)
      else (Answer.done [], finishDrives (giveRequest r s))
    else (Answer.plain .notFound, s)

/-- FORCE_POINT (R49). -/
def doForcePoint (point : Byte) (value : BitVec 16) (s : State) : Answer × State :=
  if 47 < point.toNat then (Answer.plain .malformed, s)
  else
    match s.pointDef point.toNat with
    | none => (Answer.plain .notFound, s)
    | some d => (Answer.done [], finishDrives (forceTo d value.toInt s))

/-- RELEASE_POINT (R50). -/
def doReleasePoint (point : Byte) (s : State) : Answer × State :=
  if 47 < point.toNat then (Answer.plain .malformed, s)
  else
    match s.pointDef point.toNat with
    | none => (Answer.plain .notFound, s)
    | some d => (Answer.done [], finishDrives (releaseForce d s))

/-! ### Alarms and spills (R155, R157, R148) -/

/-- One entry is acknowledged (R155). -/
def ackEntry (n : Nat) (s : State) : State :=
  match (s.alarm n).state with
  | .activeUnack => changeAlarm n .activeAck s
  | .returnedUnack => changeAlarm n .normal s
  | .activeAck => s
  | .normal => s

/-- ACK_ALARM (R155). -/
def doAckAlarm (entry : Byte) (s : State) : Answer × State :=
  if 73 < entry.toNat then (Answer.plain .malformed, s)
  else if entry.toNat = 0 then
    (Answer.done [], finishAlarms (alarmNumbers.foldl (fun s n => ackEntry n s) s))
  else (Answer.done [], finishAlarms (ackEntry entry.toNat s))

/-- SILENCE (R157). -/
def doSilence (s : State) : Answer × State :=
  (Answer.done [], finishAlarms { s with alarms := { s.alarms with silence := true } })

/-- COLLECT_SPILL (R148). -/
def doCollectSpill (number : BitVec 16) (s : State) : Answer × State :=
  if number.toNat = 0 then (Answer.plain .malformed, s)
  else
    let x := collectSpill number.toNat s
    (Answer.plain x.1, finishAlarms x.2)

/-! ### Tables (R168 to R170, R172) -/

/-- TABLE_BEGIN (R168). -/
def doTableBegin (table count : Byte) (s : State) : Answer × State :=
  match tableOfCode table with
  | none => (Answer.plain .malformed, s)
  | some t =>
    if 1 ≤ count.toNat ∧ count.toNat ≤ 64 then
      (Answer.done [], setShadow t (.loading (List.replicate count.toNat none)) s)
    else (Answer.plain .malformed, s)

/-- TABLE_SEGMENT (R169). -/
def doTableSegment (table index : Byte) (data : List Byte) (s : State) : Answer × State :=
  match tableOfCode table with
  | none => (Answer.plain .malformed, s)
  | some t =>
    match s.tables.shadows.get t with
    | .loading segments =>
      if index.toNat < segments.length then
        (Answer.done [], setShadow t (.loading (segments.set index.toNat (some data))) s)
      else (Answer.plain .malformed, s)
    | _ => (Answer.plain .badState, s)

/-- The segments of a shadow, if none is missing (R170 step 4). -/
def allSegments : List (Option (List Byte)) → Option (List (List Byte))
  | [] => some []
  | some g :: rest => (allSegments rest).map (g :: ·)
  | none :: _ => none

/-- STATION and ACCESS activate in the commit's own event whatever their method (R172). -/
def commitMethod (t : TableId) (m : Method) : Method :=
  match t with
  | .station => .immediate
  | .access => .immediate
  | _ => m

/-- A table waits as PENDING. -/
def State.isWaiting (s : State) (t : TableId) : Bool :=
  match s.tables.shadows.get t with
  | .waiting _ _ => true
  | _ => false

/-- A commit that passed: the shadow becomes PENDING and its method is followed (R170 step 8, R172); the
data tells whether it was activated within the event, in one character: 1 activated, 0 pending (DESIGN CHOICE,
log 16). -/
def commitPassed (t : TableId) (m : Method) (segments : List (List Byte)) (s : State) :
    Answer × State :=
  let s := setShadow t (.waiting segments (commitMethod t m)) s
  let s := finishDrives (activateIf .immediate s t)
  (Answer.done (flag (!s.isWaiting t)), s)

/-- Steps 5 to 8 of a commit (R170). -/
def commitImage (t : TableId) (m : Method) (segments : List (List Byte)) (check : BitVec 16)
    (s : State) : Answer × State :=
  let image := segments.flatten
  if crc image ≠ check then (Answer.rejected .check 0, s)
  else
    match readTable s.surroundings t image with
    | .error e => (Answer.rejected e.1 e.2, s)
    | .ok _ => commitPassed t m segments s

/-- TABLE_COMMIT (R170). -/
def doTableCommit (table method : Byte) (check : BitVec 16) (s : State) : Answer × State :=
  match tableOfCode table, methodOfCode method with
  | some t, some m =>
    match s.tables.shadows.get t with
    | .loading segments =>
      if t = .station ∧ s.pastStandby then (Answer.plain .badState, s)
      else
        match allSegments segments with
        | none => (Answer.plain .badState, s)
        | some gs => commitImage t m gs check s
    | _ => (Answer.plain .badState, s)
  | _, _ => (Answer.plain .malformed, s)

/-- TABLE_ABANDON (R168). -/
def doTableAbandon (table : Byte) (s : State) : Answer × State :=
  match tableOfCode table with
  | none => (Answer.plain .malformed, s)
  | some t => (Answer.done [], setShadow t .empty s)

/-! ### Station mode (R174) -/

/-- The mandatory tables (R174). -/
def mandatoryTables : List TableId := [.station, .tap, .point, .storage, .pump, .band]

/-- A role assignment that the mandatory check passes (R174): unassigned, or defined with its class and
the target of a tap. -/
def State.roleOk (s : State) (u : RoleUse) : Bool :=
  u.agrees s.pointDefs &&
    match u.point with
    | none => true
    | some n => s.taps.any fun t => decide (t.target = n)

/-- The mandatory check of R174: the index of the first check that fails, or none. -/
def State.mandatoryFault (s : State) : Option Nat :=
  match mandatoryTables.find? fun t => !s.tableActive t with
  | some t => some t.code
  | none =>
    match ((s.roles.map Roles.list).getD []).findIdx? fun u => !s.roleOk u with
    | some i => some i
    | none =>
      match s.installedPumps.find? fun p => (s.pumpEntry p).isNone with
      | some p => some (p.number - 1)
      | none => s.bands.findIdx? fun b => decide (s.installedPumps.length < b.count)

/-- The station enters SETTLING and the settling timer starts (R174, R176). -/
def enterSettling (s : State) : State :=
  { s with tables := { s.tables with mode := .settling, settling := some s.now } }

/-- SET_STATION_MODE(AUTOMATIC) (R174). -/
def toAutomatic (s : State) : Answer × State :=
  if s.pastStandby then (Answer.done [], s)
  else
    match s.mandatoryFault with
    | some i => (Answer.rejected .reference i, s)
    | none =>
      (Answer.done [], enterSettling { s with tables := { s.tables with wanted := .automatic } })

/-- The station leaves SETTLING or AUTOMATIC for STANDBY (R174, R90, R84). -/
def leaveForStandby (s : State) : State :=
  let s := { s with tables := { s.tables with mode := .standby, settling := none } }
  let s := eachSide judgeRakeMode (eachPump judgePumpMode s)
  let s := stopPowerReturn s
  { s with arbiter := { s.arbiter with preempt := ⟨false, false⟩ } }

/-- SET_STATION_MODE(STANDBY) (R174). -/
def toStandby (s : State) : Answer × State :=
  let s := { s with tables := { s.tables with wanted := .standby } }
  (Answer.done [], if s.pastStandby then finishDrives (leaveForStandby s) else s)

/-- SET_STATION_MODE (R174). -/
def doSetStationMode (mode : Byte) (s : State) : Answer × State :=
  match mode.toNat with
  | 0 => toStandby s
  | 1 => toAutomatic s
  | _ => (Answer.plain .malformed, s)

/-! ### Counters and restart (R178, R10, R177) -/

/-- Every counter of every group at 0 (R178, R10). -/
def clearCounters (s : State) : State :=
  { s with
    loop := { s.loop with line := LineCounters.zero }
    transit := { s.transit with
      count := TransitCounters.zero
      gate := s.transit.gate.map fun e => { e with foreignCount := 0 } }
    points := { s.points with rejected := 0, toUndefined := 0 }
    spill := { s.spill with falseOnsets := ⟨0, 0⟩ }
    handler := { s.handler with denied := 0, malformed := 0 }
    tables := { s.tables with refused := 0, writeFailures := 0 } }

/-- The restart pending mark is set, unless it is set already (R177). -/
def markRestart (s : State) : State :=
  match s.handler.restart with
  | some _ => s
  | none =>
    { s with handler := { s.handler with restart := some ⟨s.clock.running, false⟩ } }

/-! ### Judging and carrying out (R166) -/

/-- A request is carried out by the rule that owns it (R166 step 4). -/
def carryOut (r : Request) (s : State) : Answer × State :=
  match r with
  | .readStatus part => (answerPart s.statusImage part, s)
  | .readCounters g part => (answerCounters g part s, s)
  | .readPoint a b part => (answerPoint a b part s, s)
  | .readPump p part => (answerPump p part s, s)
  | .readRake d part => (answerRake d part s, s)
  | .readFlow part => (answerPart s.flowImage part, s)
  | .readAlarms a b part => (answerAlarms a b part s, s)
  | .readSpill form n part => (answerSpill form n part s, s)
  | .readTable t c i part => (answerTable t c i part s, s)
  | .setDriveMode d m => doSetDriveMode d m s
  | .resetDrive d => doResetDrive d s
  | .rakeNow d => doRakeNow d s
  | .forcePoint p v => doForcePoint p v s
  | .releasePoint p => doReleasePoint p s
  | .ackAlarm e => doAckAlarm e s
  | .silence => doSilence s
  | .collectSpill n => doCollectSpill n s
  | .tableBegin t c => doTableBegin t c s
  | .tableSegment t i data => doTableSegment t i data s
  | .tableCommit t m c => doTableCommit t m c s
  | .tableAbandon t => doTableAbandon t s
  | .setStationMode m => doSetStationMode m s
  | .clearCounters => (Answer.done [], clearCounters s)
  | .restart => (Answer.done [], markRestart s)

/-- The response belongs to the RESTART that sets the pending mark (R177). -/
def State.startsRestart (s : State) (r : Request) : Bool :=
  decide (r = .restart) && s.handler.restart.isNone

/-- A request whose code and parameters can be read is judged (R166 steps 2 to 4) for a source holding
the given permission. -/
def judgeReadable (src code tag : Byte) (held need : Permission) (params : List Byte) (s : State) :
    State :=
  if !held.covers need then respond src code tag false (Answer.plain .denied) s
  else
    match parseParams code params with
    | none => respond src code tag false (Answer.plain .malformed) s
    | some r =>
      let x := carryOut r s
      respond src code tag (s.startsRestart r) x.1 x.2

/-- The request handler takes a consumed MANAGE frame's payload (R166). To one of LEN 0 the response carries request
code 0 (DESIGN CHOICE, log 16). -/
def takeRequest (src : Byte) (held : Permission) (payload : List Byte) (s : State) : State :=
  match payload with
  | [] => respond src 0 0 false (Answer.plain .malformed) s
  | [code] => respond src code 0 false (Answer.plain .malformed) s
  | code :: tag :: params =>
    match permissionOfCode code with
    | none => respond src code tag false (Answer.plain .malformed) s
    | some need => judgeReadable src code tag held need params s

/-- Management intake of a MANAGE frame addressed to the controller (R21). -/
def intake (src : Byte) (payload : List Byte) (s : State) : State :=
  match s.permission src with
  | none => s.countTransit fun c => { c with unlisted := inc16 c.unlisted }
  | some held =>
    if s.responseFull then s.countTransit fun c => { c with shed := inc16 c.shed }
    else takeRequest src held payload s

/-- A request as a command of the block: the MANAGE frame of that request from the source, addressed to
the controller, meets intake (log 6). -/
def request (src tag : Byte) (r : Request) (s : State) : State :=
  if s.on then intake src (r.payload tag) s else s

end Sys2Proof.Machine
end

