-- ==== Sys2Proof/Machine/Start.lean ====
section
/-! DEFINITION. A start (R176): straps, cold or warm, restoring the tables, the start values of every
block, the conditions present from the start, and the mode. -/

namespace Sys2Proof.Machine

/-- The own address from the address straps: 0 and values above 239 are taken as 239 (R1). -/
def strapAddress (b : Byte) : Byte := if 1 ≤ b.toNat ∧ b.toNat ≤ 239 then b else 239

/-- The write in progress leaves its image failing, and the queued writes are lost (R173). -/
def abandonWrites (s : State) : State :=
  { s with tables := { s.tables with
      stored :=
        match s.tables.writing with
        | some (t, _) => s.tables.stored.set t .failing
        | none => s.tables.stored
      writing := none
      queue := [] } }

/-! ### Restoring the tables (R176) -/

/-- A stored image of a table, where it agrees with its check and passes validation against the tables
already active. -/
def restoredData (s : State) (t : TableId) : Option (List Byte × TableData) :=
  match s.tables.stored.get t with
  | .intact image =>
    match readTable s.surroundings t image with
    | .ok d => some (image, d)
    | .error _ => none
  | _ => none

/-- One table is restored, or is absent with its store fault mark set (R176). -/
def restoreTable (s : State) (t : TableId) : State :=
  match restoredData s t with
  | some (image, d) =>
    { (s.putTable image d) with tables := { (s.putTable image d).tables with
        marks := s.tables.marks.set t false } }
  | none => { s with tables := { s.tables with marks := s.tables.marks.set t true } }

/-- Every table is restored, in table order (R176). -/
def restoreTables (s : State) : State :=
  tableIds.foldl restoreTable
    { s with tables := { s.tables with
        active := ActiveTables.absent
        shadows := PerTable.all .empty
        outcomes := PerTable.all .none
        marks := PerTable.all false
        refused := 0
        writeFailures := 0
        mode := .standby
        settling := none } }

/-! ### Start values (R39, R57, R73, R84, R108, R121, R136, R152, R162, R164, R176) -/

/-- The retained fields at their cold values (R176). -/
def coldRetained (s : State) : State :=
  { s with
    flow := { s.flow with totals := Six.all 0 }
    seq := { s.seq with pumps := Six.all PumpRec.cold, duty := [] }
    screens := { s.screens with rakes := ⟨RakeRec.cold, RakeRec.cold⟩ }
    spill := Spill.cold
    alarms := { s.alarms with entries := s.alarms.entries.map fun _ => AlarmEntry.start 0 }
    clock := ⟨0, 0, false⟩
    tables := { s.tables with wanted := .automatic } }

/-- The duty order at a start (R96): the retained one where it holds exactly the installed pumps, else
rebuilt in pump-number order. -/
def State.startDuty (s : State) : List Pump :=
  if s.seq.duty.length = s.installedPumps.length ∧
      s.installedPumps.all (fun p => s.seq.duty.contains p) then s.seq.duty
  else s.installedPumps

/-- A pump's record at a start, its retained fields kept (R108, R121). -/
def PumpRec.restarted (r : PumpRec) : PumpRec :=
  PumpRec.start r.mgmt r.latch r.history r.runSeconds

/-- A rake's record at a start, its retained fields kept (R136). -/
def RakeRec.restarted (v : RakeRec) : RakeRec := RakeRec.start v.mgmt v.latch v.cycles

/-- The spill monitor at a start, its retained fields kept (R152). -/
def Spill.restarted (x : Spill) : Spill :=
  { x with weirs := ⟨x.weirs.w1.restored, x.weirs.w2.restored⟩, falseOnsets := ⟨0, 0⟩ }

/-- The summary timer at a start (R161). -/
def State.startSummary (s : State) : Option Nat :=
  if summaryIn s.alarmTable = 0 then none else some s.now

/-- Every block takes its start values, retained fields as they now stand and the tables restored. -/
def startBlocks (s : State) : State :=
  { s with
    loop := { LoopPort.start with
      gapTimer := some s.nowMs
      stallTimer := if s.chip.holdIn then some s.now else none }
    transit := { Transit.start with
      gate := gateOf ((s.station.map (·.actuators)).getD []) [] }
    points := Points.start
    flow := Flow.start (s.role (·.wetWell)).isSome s.flow.totals
    arbiter := Arbiter.start
    seq :=
      { pumps := s.seq.pumps.map PumpRec.restarted
        duty := s.startDuty
        run := []
        engaged := s.bands.map fun _ => false
        demand := DemandRecord.start
        highLevel := false
        backupFloat := false }
    screens :=
      ⟨⟨ScreenRec.start, ScreenRec.start⟩,
        ⟨s.screens.rakes.a.restarted, s.screens.rakes.b.restarted⟩⟩
    spill := s.spill.restarted
    alarms := Alarms.start (s.alarms.entries.map (·.count))
    report := ⟨s.startSummary⟩
    handler := ⟨none, 0, 0⟩ }

/-! ### Conditions and mode (R152, R164, R176) -/

/-- A weir restored as SPILLING that is not defined, or whose level role is absent, has its record closed
(R152); SPILL is stated for one that stays alone, and a role is absent too where no STATION table was restored
(DEDUCED, log 50). -/
def startWeir (w : Weir) (s : State) : State :=
  if (s.weirDef w).isNone ∨ (s.role fun r => r.weirLevel.get w).isNone then
    stateSpill w (weirGone w s)
  else stateSpill w s

/-- The conditions present from the start (R164). -/
def startConditions (s : State) : State :=
  let s := eachPump statePumpConditions s
  let s := eachSide stateRakeJammed s
  stateLogLoss (stateStoreFault (eachWeir startWeir s))

/-- The mode at the end of a start (R176). -/
def startMode (s : State) : State :=
  if s.tables.wanted = .automatic ∧ s.mandatoryFault.isNone then enterSettling s else s

/-- A start (R176), with the strap positions read. -/
def start (addr : Byte) (rate : BitVec 2) (s : State) : State :=
  let cold := !s.chip.checkAgrees
  let s := abandonWrites
    { s with chip := { s.chip with
        mainPower := true, resetLow := false, ownAddress := strapAddress addr, rate := rate,
        checkAgrees := true } }
  let s := startBlocks (restoreTables (if cold then coldRetained s else s))
  finishAlarms (startMode (startConditions s))

/-- The moment a pending restart may begin (R177): no write in progress or queued, and the response gone,
or 5 s passed. -/
def State.restartReady (s : State) : Bool :=
  match s.handler.restart with
  | none => false
  | some p =>
    s.tables.writing.isNone && s.tables.queue.isEmpty &&
      (p.responseGone || decide (Config.restartDeadline ≤ s.clock.running - p.since))

/-- The response of the pending restart has been sent, or has left its class (R177). -/
def responseGone (s : State) : State :=
  { s with handler := { s.handler with
      restart := s.handler.restart.map fun p => { p with responseGone := true } } }

end Sys2Proof.Machine
end

