-- ==== Sys2Proof/Machine/ClockedEvents.lean ====
section
/-! DEFINITION. The commands that are expiries of the clocked blocks: points, balance, drives, alarms,
settling (chapters 3 to 11). An expiry acts while its timer runs (log 3). -/

namespace Sys2Proof.Machine

/-! ### The balance update (R58, R59, log 9) -/

/-- Pump protection takes the balance record (R112, R115, R118), the pumps in number order (DESIGN CHOICE, log 49). -/
def protectAll (s : State) : State := eachPump protectPump s

/-- The screen controller takes the balance record (R123, R124, R127). -/
def judgeScreens (s : State) : State := eachSide judgeScreen s

/-- The record is delivered to the four blocks in the given order (R59). -/
def deliverRecord (order : BalanceOrder) (s : State) : State :=
  judgeWeirs <|
    guarded (fun _ => !order.screenFirst) judgeScreens <|
    guarded (fun _ => !order.protectionFirst) protectAll <|
    sequence <|
    guarded (fun _ => order.screenFirst) judgeScreens <|
    guarded (fun _ => order.protectionFirst) protectAll s

/-- The balance timer's expiry (R58): pending NEXT_PERIOD activations, the record, its delivery. -/
def balanceUpdate (order : BalanceOrder) (s : State) : State :=
  finishDrives (deliverRecord order (formRecord (activateAll .nextPeriod s)))

/-! ### The summary (R161, R185) -/

/-- The number of a weir's open record, 0 where there is none (R185). -/
def State.openNumber (s : State) (w : Weir) : Nat :=
  ((s.spill.log.find? fun r => decide (r.weir = w ∧ r.state = .opened)).map (·.number)).getD 0

/-- The payload of a SUMMARY notice (R161, R185). -/
def State.summaryPayload (s : State) : List Byte :=
  List.flatten
    [u8 4, u32 s.clock.running, u32 s.clockTime, flag s.clock.set, s16 s.flow.record.level,
      u8 s.flow.record.basis.code, u16 s.flow.record.qin.toNat, u8 s.flow.record.qinQuality.code,
      u8 (bitSet ((pumps.filter s.feedbackActive).map Pump.number)), u8 s.arbiter.supply.code,
      u8 ((s.weir .w1).state.code + 4 * (s.weir .w2).state.code), u16 (s.openNumber .w1),
      u16 (s.openNumber .w2), u8 s.unackCount]

/-- The summary timer's expiry (R161). -/
def summaryDue (s : State) : State :=
  flushNotices
    (noteSummary (notice s .summary 0 s.summaryPayload)
      { s with report := ⟨some s.now⟩ })

/-! ### Entry to AUTOMATIC (R175) -/

/-- The settling timer's expiry (R175): the pumps and rakes are placed, the shedding check is made, the
power-return timer starts, the grant pass follows. -/
def enterAutomatic (s : State) : State :=
  let s := { s with tables := { s.tables with mode := .automatic, settling := none } }
  let s := eachSide judgeRakeMode (eachPump judgePumpMode s)
  finishDrives (startPowerReturn (shedCheck s))

/-! ### Meanings -/

/-- POINT_SECOND_TIMER_EXPIRY (R46). -/
def execPointSecondTimerExpiry (s : State) : Host.Outcome State Fault Refusal :=
  .next (if s.on then finishDrives (pointSecond s) else s)

/-- BALANCE_UPDATE (R58). -/
def execBalanceUpdate (order : BalanceOrder) (s : State) : Host.Outcome State Fault Refusal :=
  .next (if s.on then balanceUpdate order s else s)

/-- STAGGER_TIMER_EXPIRY (R77). -/
def execStaggerTimerExpiry (s : State) : Host.Outcome State Fault Refusal :=
  .next
    (if s.on ∧ s.arbiter.stagger.isSome then
      finishDrives { s with arbiter := { s.arbiter with stagger := none } }
    else s)

/-- The power-return timer runs (R78). -/
def PowerReturn.isRunning : PowerReturn → Bool
  | .running _ => true
  | _ => false

/-- POWER_RETURN_TIMER_EXPIRY (R78). -/
def execPowerReturnTimerExpiry (s : State) : Host.Outcome State Fault Refusal :=
  .next
    (if s.on ∧ s.arbiter.powerReturn.isRunning then
      finishDrives { s with arbiter := { s.arbiter with powerReturn := .expired } }
    else s)

/-- START_CONFIRM_EXPIRY (R92, R114). -/
def execStartConfirmExpiry (p : Pump) (s : State) : Host.Outcome State Fault Refusal :=
  .next (if s.on then finishDrives (startConfirmExpired p s) else s)

/-- STOP_CONFIRM_EXPIRY (R93, R114). -/
def execStopConfirmExpiry (p : Pump) (s : State) : Host.Outcome State Fault Refusal :=
  .next (if s.on then finishDrives (stopConfirmExpired p s) else s)

/-- OVERCURRENT_TIMER_EXPIRY (R111). -/
def execOvercurrentTimerExpiry (p : Pump) (s : State) : Host.Outcome State Fault Refusal :=
  .next
    (if s.on ∧ (s.pump p).overTimer.isSome then finishDrives (overcurrentReached p s) else s)

/-- TRAVEL_TIMER_EXPIRY (R129). -/
def execTravelTimerExpiry (r : Side) (s : State) : Host.Outcome State Fault Refusal :=
  .next (if s.on then finishDrives (travelExpired r s) else s)

/-- JAM_CURRENT_TIMER_EXPIRY (R129). -/
def execJamCurrentTimerExpiry (r : Side) (s : State) : Host.Outcome State Fault Refusal :=
  .next (if s.on then finishDrives (jamCurrentReached r s) else s)

/-- REVERSE_TIMER_EXPIRY (R130). -/
def execReverseTimerExpiry (r : Side) (s : State) : Host.Outcome State Fault Refusal :=
  .next (if s.on then finishDrives (reverseExpired r s) else s)

/-- RENOTIFY_TIMER_EXPIRY of an entry 1 to 73 (R159); the annunciator is not judged. -/
def execRenotifyTimerExpiry (entry : Nat) (s : State) : Host.Outcome State Fault Refusal :=
  .next
    (if s.on ∧ 1 ≤ entry ∧ entry ≤ 73 ∧ (s.alarm entry).renotify.isSome then
      flushNotices (repeatAlarm entry s)
    else s)

/-- SUMMARY_TIMER_EXPIRY (R161). -/
def execSummaryTimerExpiry (s : State) : Host.Outcome State Fault Refusal :=
  .next (if s.on ∧ s.report.summaryTimer.isSome then summaryDue s else s)

/-- SETTLING_TIMER_EXPIRY (R175). -/
def execSettlingTimerExpiry (s : State) : Host.Outcome State Fault Refusal :=
  .next (if s.on ∧ s.tables.settling.isSome then enterAutomatic s else s)

/-- WRITE_COMPLETION (R173). -/
def execWriteCompletion (agrees : Bool) (s : State) : Host.Outcome State Fault Refusal :=
  .next (if s.on then finishAlarms (completeWrite agrees s) else s)

end Sys2Proof.Machine
end

