-- ==== Sys2Proof/WellFormed.lean ====
section
/-! DEFINITION. Which commands the outside can send: the checks on the operands that are not already
kept by their types. -/

namespace Sys2Proof

/-- A source or destination that is not invalid: 0 to 247 (01_the_station_loop.md, section 1.3). -/
def validAddress (a : Byte) : Bool := decide (a.toNat ≤ 247)

/-- The frames the assembler can hand over as good (R4): LEN at most 40, no invalid address. -/
def Frame.good (f : Frame) : Bool :=
  decide (f.payload.length ≤ 40) && validAddress f.dest && validAddress f.src

/-- The source of a MANAGE frame is a source address of a good frame. -/
def Instr.sourceOk : Instr → Bool
  | .readStatus src _ _ | .readCounters src _ _ _ | .readPoint src _ _ _ _ | .readPump src _ _ _
  | .readRake src _ _ _ | .readFlow src _ _ | .readAlarms src _ _ _ _ | .readSpill src _ _ _ _
  | .readTable src _ _ _ _ _ | .setDriveMode src _ _ _ | .resetDrive src _ _ | .rakeNow src _ _
  | .forcePoint src _ _ _ | .releasePoint src _ _ | .ackAlarm src _ _ | .silence src _
  | .collectSpill src _ _ | .tableBegin src _ _ _ | .tableSegment src _ _ _ _
  | .tableCommit src _ _ _ _ | .tableAbandon src _ _ | .setStationMode src _ _
  | .clearCounters src _ | .restart src _ => validAddress src
  | _ => true

/-- The commands whose operands the outside can present: a frame is good (R4), an alarm entry is 1 to
73 (R153), a segment's characters fit a MANAGE payload beside code, tag, table and index (R182). -/
def Instr.wellFormed (i : Instr) : Bool :=
  i.sourceOk &&
  match i with
  | .frameReceived f => f.good
  | .renotifyTimerExpiry entry => decide (1 ≤ entry) && decide (entry ≤ 73)
  | .tableSegment _ _ _ _ data => decide (data.length ≤ 36)
  | _ => true

end Sys2Proof
end

