-- ==== Sys2Proof/Machine/LoopEvents.lean ====
section
/-! DEFINITION. The commands of the loop port's receiver, break timer and hold lines
(01_the_station_loop.md): one meaning each. -/

namespace Sys2Proof.Machine

/-! ### Shared operations -/

/-- A completed frame is tested (R4): dropped as a check error or malformed, or counted good and handed
over. Frames not good are counted here toward the re-strobe (R14); a good one as it is taken (R17). -/
def completeFrame (f : Frame) (check : BitVec 16) (s : State) : State :=
  if crc f.body ≠ check then
    countCompleted (startHealth (s.countLine fun c => { c with checkErrors := inc16 c.checkErrors }))
  else if !(validAddress f.dest && validAddress f.src) then
    countCompleted (s.countLine fun c => { c with malformed := inc16 c.malformed })
  else
    { s.countLine (fun c => { c with goodFrames := inc16 c.goodFrames }) with
      loop := { (s.countLine fun c => { c with goodFrames := inc16 c.goodFrames }).loop with
        handed := s.loop.handed ++ [f] } }

/-- LEN of a partial frame, once the fifth character has arrived (R4). -/
def lenOf (cs : List Byte) : Option Nat := (cs[4]?).map BitVec.toNat

/-- A non-marker character is appended in IN_FRAME (R4). -/
def appendChar (cs : List Byte) (s : State) : State :=
  match lenOf cs with
  | none => s.setAssembler (.inFrame cs)
  | some n =>
    if 40 < n then
      (s.countLine fun c => { c with lengthErrors := inc16 c.lengthErrors }).setAssembler .discard
    else if cs.length = n + 7 then
      match frameOfChars cs with
      | some (f, check) => completeFrame f check (s.setAssembler .idle)
      | none => s.setAssembler .idle
    else s.setAssembler (.inFrame cs)

/-- A good character reaches the assembler (R4). -/
def takeChar (data : Byte) (marker : Bool) (s : State) : State :=
  match s.loop.assembler with
  | .idle =>
    if marker then s.setAssembler (.inFrame [data])
    else s.countLine fun c => { c with stray := inc16 c.stray }
  | .inFrame cs =>
    if marker then
      (s.countLine fun c => { c with markerAborts := inc16 c.markerAborts }).setAssembler
        (.inFrame [data])
    else appendChar (cs ++ [data]) s
  | .discard => if marker then s.setAssembler (.inFrame [data]) else s
  | .brk => s

/-- A character error is counted under its own name (R5). -/
def countError (e : CharError) (s : State) : State :=
  match e with
  | .parity => s.countLine fun c => { c with parityErrors := inc16 c.parityErrors }
  | .framing => s.countLine fun c => { c with framingErrors := inc16 c.framingErrors }

/-- A character error reaches the assembler (R5). -/
def takeError (e : CharError) (s : State) : State :=
  match s.loop.assembler with
  | .idle => startHealth (countError e s)
  | .inFrame _ => (startHealth (countError e s)).setAssembler .discard
  | .discard => startHealth (countError e s)
  | .brk => s

/-- A character is judged (R2, R6): no judgement stays deferred, and the gap timer restarts. -/
def characterJudged (s : State) : State :=
  { s with loop := { s.loop with deferred := false, gapTimer := some s.nowMs } }

/-- Judgement is deferred (R2): the assembler stays, and its gap timer does not run. -/
def deferJudgement (s : State) : State :=
  { s with loop := { s.loop with deferred := true, gapTimer := none } }

/-- A character at its stop-bit position (R2). -/
def receiveChar (data : Byte) (e : CharEnding) (s : State) : State :=
  match judgeChar data e with
  | .good => takeChar data e.marker (characterJudged s)
  | .parityError => takeError .parity (characterJudged s)
  | .deferred => deferJudgement s

/-- The receiver seeks a start bit (R2, R8): not in BREAK, nor while a judgement is deferred. -/
def State.seeksStart (s : State) : Bool :=
  s.on && !s.loop.deferred && decide (s.loop.assembler ≠ .brk)

/-- An own frame cut off by a break returns to the head of its class, or is discarded (R9). -/
def returnOwn (o : OwnFrame) (superseded : Bool) (s : State) : State :=
  match o.ref with
  | .command _ _ _ =>
    if superseded then s
    else { s with transit := { s.transit with actuator := o :: s.transit.actuator } }
  | .notice _ _ => { s with transit := { s.transit with notice := o :: s.transit.notice } }
  | .response _ _ => { s with transit := { s.transit with response := o :: s.transit.response } }

/-- The transmitter holds Loop Out at space; the frame being sent is cut off (R9). -/
def cutOff (s : State) : State :=
  let held := { s with loop := { s.loop with tx := .breakHold } }
  match s.loop.tx with
  | .transit _ =>
    dropTransitHead (held.countLine fun c => { c with lostToBreak := inc16 c.lostToBreak })
  | .own o _ superseded => returnOwn o superseded held
  | .idle => held
  | .breakHold => held

/-- A break detected in IN_FRAME is a break abort (R8). -/
def countBreakAbort (s : State) : State :=
  match s.loop.assembler with
  | .inFrame _ => s.countLine fun c => { c with breakAborts := inc16 c.breakAborts }
  | _ => s

/-- The assembler in BREAK, a deferred character dropped and the gap timer not running, its break not yet a loop
reset (R8, R10). -/
def setBreak (s : State) : State :=
  { s with loop := { s.loop with
      assembler := .brk, deferred := false, gapTimer := none, breakReset := false } }

/-- Loop In enters break: the assembler's part (R8). -/
def enterBreak (s : State) : State := setBreak (countBreakAbort s)

/-- A shadow at a loop reset (R168). -/
def Shadow.afterLoopReset : Shadow → Shadow
  | .loading _ => .empty
  | x => x

/-- Work on the value of each table. -/
def PerTable.map {α : Type} (f : α → α) (x : PerTable α) : PerTable α :=
  ⟨f x.station, f x.access, f x.tap, f x.point, f x.storage, f x.pump, f x.band, f x.screen, f x.weir,
    f x.alarm⟩

/-- The transit section's part of a loop reset (R37, log 33). -/
def resetTransit (s : State) : State :=
  { s with transit := { s.transit with
      queue := [], actuator := [], notice := [], response := [], lap := [], fairness := 0 } }

/-- A loop reset (R10, R37, R168, R177). -/
def loopResetNow (s : State) : State :=
  let s := clearCounters (responseGone (resetTransit s))
  { s with
    loop := { s.loop with holdOut := .released, restrobe := 0, breakReset := true }
    tables := { s.tables with shadows := s.tables.shadows.map Shadow.afterLoopReset } }

/-- The present command of an actuator is posted (R38). -/
def postPresent (a : Actuator) (s : State) : State :=
  match a with
  | .pump p => postPump p (s.pump p).command s
  | .rake r => postRake r (s.rake r).command s
  | .annunciator => postAnnunciate s.annMode s

/-- The refresh of one actuator, if its gate entry is OWNED (R38). -/
def refreshOne (s : State) (a : Actuator) : State :=
  if (s.gateEntry a).isSome ∧ s.owned a then postPresent a s else s

/-- The refresh (R38). -/
def refresh (s : State) : State := actuators.foldl refreshOne s

/-- A break ends (R8, R9, R38). -/
def breakEnded (s : State) : State :=
  let long := s.loop.breakReset
  let s := s.countLine fun c =>
    { c with
      breaks := inc16 c.breaks
      longBreaks := if long then inc16 c.longBreaks else c.longBreaks }
  let s := { s with loop := { s.loop with
      assembler := .idle, gapTimer := some s.nowMs, tx := .idle, breakReset := false } }
  if long then refresh s else s

/-! ### Meanings -/

/-- CHARACTER_RECEIVED (R2, R4): none is taken where the receiver seeks no start bit (log 4). -/
def execCharacterReceived (data : Byte) (ending : CharEnding) (s : State) :
    Host.Outcome State Fault Refusal :=
  .next (if s.seeksStart then receiveChar data ending s else s)

/-- CHARACTER_ERROR (R2, R5): a parity error the receiver judges where it seeks a start bit, or a framing error,
judged at the return to mark. -/
def execCharacterError (e : CharError) (s : State) : Host.Outcome State Fault Refusal :=
  .next
    (match e with
    | .parity => if s.seeksStart then takeError .parity (characterJudged s) else s
    | .framing =>
      if s.on ∧ s.loop.assembler ≠ .brk then takeError .framing (characterJudged s) else s)

/-- GAP_TIMER_EXPIRY (R6), while the gap timer runs. -/
def execGapTimerExpiry (s : State) : Host.Outcome State Fault Refusal :=
  .next (if s.on && s.loop.gapTimer.isSome then gapReached s else s)

/-- BREAK_DETECTED (R8, R9); a break already standing is not detected again (log 4). -/
def execBreakDetected (s : State) : Host.Outcome State Fault Refusal :=
  .next (if s.on ∧ s.loop.assembler ≠ .brk then cutOff (enterBreak s) else s)

/-- LOOP_RESET (R10): in a break, once per break. -/
def execLoopReset (s : State) : Host.Outcome State Fault Refusal :=
  .next
    (if s.on ∧ s.loop.assembler = .brk ∧ s.loop.breakReset = false then loopResetNow s else s)

/-- BREAK_END (R8, R9, R38). -/
def execBreakEnd (s : State) : Host.Outcome State Fault Refusal :=
  .next (if s.on ∧ s.loop.assembler = .brk then breakEnded s else s)

/-- HOLD_IN_ASSERTED (R12): the level, and the stall timer at its becoming asserted. -/
def execHoldInAsserted (s : State) : Host.Outcome State Fault Refusal :=
  .next
    { s with
      chip := { s.chip with holdIn := true }
      loop := { s.loop with
        stallTimer := if s.on ∧ s.chip.holdIn = false then some s.now else s.loop.stallTimer } }

/-- HOLD_IN_RELEASED (R11, R12). -/
def execHoldInReleased (s : State) : Host.Outcome State Fault Refusal :=
  let s' := { s with chip := { s.chip with holdIn := false } }
  .next
    (if s.on then
      finishAlarms
        (stateCondition 23 false
          { s' with loop := { s.loop with stallTimer := none, loopStall := false } })
    else s')

/-- STALL_TIMER_EXPIRY (R12). -/
def execStallTimerExpiry (s : State) : Host.Outcome State Fault Refusal :=
  .next
    (if s.on ∧ s.loop.stallTimer.isSome ∧ s.loop.loopStall = false then
      finishAlarms (stallReached s)
    else s)

/-- STROBE_END (R14). -/
def execStrobeEnd (s : State) : Host.Outcome State Fault Refusal :=
  .next
    (if s.on ∧ s.loop.holdOut = .strobe then
      { s with loop := { s.loop with holdOut := .asserted } }
    else s)

/-- LOOP_HEALTH_TIMER_EXPIRY (R16). -/
def execLoopHealthTimerExpiry (s : State) : Host.Outcome State Fault Refusal :=
  .next (if s.on then { s with loop := { s.loop with healthTimer := none } } else s)

end Sys2Proof.Machine
end

