-- ==== Sys2Proof/Machine/PowerEvents.lean ====
section
/-! DEFINITION. The commands of power, reset and restart, and the running seconds (R173, R176, R177,
R162; logs 2, 3). -/

namespace Sys2Proof.Machine

/-- POWER_UP (R176): a start, cold if the backup supply did not hold; with the reset input held low the
start waits for its release. -/
def execPowerUp (addr : Byte) (rate : BitVec 2) (backupHeld : Bool) (s : State) :
    Host.Outcome State Fault Refusal :=
  let s := { s with chip := { s.chip with
    mainPower := true, checkAgrees := s.chip.checkAgrees && backupHeld } }
  .next (if s.chip.resetLow then s else start addr rate s)

/-- RESET_RELEASE (R176): a start, once main power is up. -/
def execResetRelease (addr : Byte) (rate : BitVec 2) (s : State) :
    Host.Outcome State Fault Refusal :=
  .next
    (if s.chip.mainPower then start addr rate s
    else { s with chip := { s.chip with resetLow := false } })

/-- RESTART_BEGIN (R177): a start, at a moment the pending restart may begin. -/
def execRestartBegin (addr : Byte) (rate : BitVec 2) (s : State) :
    Host.Outcome State Fault Refusal :=
  .next (if s.on ∧ s.restartReady then start addr rate s else s)

/-- RESET_ASSERTED (R176, R173): the controller is held; a write in progress leaves its image failing. -/
def execResetAsserted (s : State) : Host.Outcome State Fault Refusal :=
  .next (abandonWrites { s with chip := { s.chip with resetLow := true } })

/-- MAIN_POWER_LOST (R173). -/
def execMainPowerLost (s : State) : Host.Outcome State Fault Refusal :=
  .next (abandonWrites { s with chip := { s.chip with mainPower := false } })

/-- RUNNING_SECONDS (R162): the count rises in every state of power; the model's second begins (log
3). -/
def execRunningSeconds (s : State) : Host.Outcome State Fault Refusal :=
  .next
    { s with
      clock := { s.clock with running := addSat max32 s.clock.running 1 }
      chip := { s.chip with uptime := s.chip.uptime + 1, millis := 0 } }

end Sys2Proof.Machine
end

