-- ==== Sys2Proof/Machine/RequestEvents.lean ====
section
/-! DEFINITION. The requests as commands (R166): each is the MANAGE frame of that request meeting intake
(log 6), the parameters as the frame's characters. -/

namespace Sys2Proof.Machine

/-- READ_STATUS (R167). -/
def execReadStatus (src tag : Byte) (part : Option Byte) (s : State) :
    Host.Outcome State Fault Refusal :=
  .next (request src tag (.readStatus part) s)

/-- READ_COUNTERS (R178). -/
def execReadCounters (src tag : Byte) (group : Byte) (part : Option Byte) (s : State) :
    Host.Outcome State Fault Refusal :=
  .next (request src tag (.readCounters group part) s)

/-- READ_POINT (R56). -/
def execReadPoint (src tag : Byte) (first count : Byte) (part : Option Byte) (s : State) :
    Host.Outcome State Fault Refusal :=
  .next (request src tag (.readPoint first count part) s)

/-- READ_PUMP (R107). -/
def execReadPump (src tag : Byte) (pump : Byte) (part : Option Byte) (s : State) :
    Host.Outcome State Fault Refusal :=
  .next (request src tag (.readPump pump part) s)

/-- READ_RAKE (R135). -/
def execReadRake (src tag : Byte) (drive : Byte) (part : Option Byte) (s : State) :
    Host.Outcome State Fault Refusal :=
  .next (request src tag (.readRake drive part) s)

/-- READ_FLOW (R59). -/
def execReadFlow (src tag : Byte) (part : Option Byte) (s : State) :
    Host.Outcome State Fault Refusal :=
  .next (request src tag (.readFlow part) s)

/-- READ_ALARMS (R163). -/
def execReadAlarms (src tag : Byte) (first count : Byte) (part : Option Byte) (s : State) :
    Host.Outcome State Fault Refusal :=
  .next (request src tag (.readAlarms first count part) s)

/-- READ_SPILL (R149). -/
def execReadSpill (src tag : Byte) (form : Byte) (number : BitVec 16) (part : Option Byte)
    (s : State) :
    Host.Outcome State Fault Refusal :=
  .next (request src tag (.readSpill form number part) s)

/-- READ_TABLE (R169). -/
def execReadTable (src tag : Byte) (table copy index : Byte) (part : Option Byte) (s : State) :
    Host.Outcome State Fault Refusal :=
  .next (request src tag (.readTable table copy index part) s)

/-- SET_DRIVE_MODE (R87, R125). -/
def execSetDriveMode (src tag : Byte) (drive mode : Byte) (s : State) :
    Host.Outcome State Fault Refusal :=
  .next (request src tag (.setDriveMode drive mode) s)

/-- RESET_DRIVE (R119, R133). -/
def execResetDrive (src tag : Byte) (drive : Byte) (s : State) :
    Host.Outcome State Fault Refusal :=
  .next (request src tag (.resetDrive drive) s)

/-- RAKE_NOW (R127). -/
def execRakeNow (src tag : Byte) (drive : Byte) (s : State) :
    Host.Outcome State Fault Refusal :=
  .next (request src tag (.rakeNow drive) s)

/-- FORCE_POINT (R49). -/
def execForcePoint (src tag : Byte) (point : Byte) (value : BitVec 16) (s : State) :
    Host.Outcome State Fault Refusal :=
  .next (request src tag (.forcePoint point value) s)

/-- RELEASE_POINT (R50). -/
def execReleasePoint (src tag : Byte) (point : Byte) (s : State) :
    Host.Outcome State Fault Refusal :=
  .next (request src tag (.releasePoint point) s)

/-- ACK_ALARM (R155). -/
def execAckAlarm (src tag : Byte) (entry : Byte) (s : State) :
    Host.Outcome State Fault Refusal :=
  .next (request src tag (.ackAlarm entry) s)

/-- SILENCE (R157). -/
def execSilence (src tag : Byte) (s : State) :
    Host.Outcome State Fault Refusal :=
  .next (request src tag .silence s)

/-- COLLECT_SPILL (R148). -/
def execCollectSpill (src tag : Byte) (number : BitVec 16) (s : State) :
    Host.Outcome State Fault Refusal :=
  .next (request src tag (.collectSpill number) s)

/-- TABLE_BEGIN (R168). -/
def execTableBegin (src tag : Byte) (table count : Byte) (s : State) :
    Host.Outcome State Fault Refusal :=
  .next (request src tag (.tableBegin table count) s)

/-- TABLE_SEGMENT (R169). -/
def execTableSegment (src tag : Byte) (table index : Byte) (data : List Byte) (s : State) :
    Host.Outcome State Fault Refusal :=
  .next (request src tag (.tableSegment table index data) s)

/-- TABLE_COMMIT (R170). -/
def execTableCommit (src tag : Byte) (table method : Byte) (check : BitVec 16) (s : State) :
    Host.Outcome State Fault Refusal :=
  .next (request src tag (.tableCommit table method check) s)

/-- TABLE_ABANDON (R168). -/
def execTableAbandon (src tag : Byte) (table : Byte) (s : State) :
    Host.Outcome State Fault Refusal :=
  .next (request src tag (.tableAbandon table) s)

/-- SET_STATION_MODE (R174). -/
def execSetStationMode (src tag : Byte) (mode : Byte) (s : State) :
    Host.Outcome State Fault Refusal :=
  .next (request src tag (.setStationMode mode) s)

/-- CLEAR_COUNTERS (R178). -/
def execClearCounters (src tag : Byte) (s : State) :
    Host.Outcome State Fault Refusal :=
  .next (request src tag .clearCounters s)

/-- RESTART (R177). -/
def execRestart (src tag : Byte) (s : State) :
    Host.Outcome State Fault Refusal :=
  .next (request src tag .restart s)

end Sys2Proof.Machine
end

