-- ==== Sys2Proof/Machine/TransitEvents.lean ====
section
/-! DEFINITION. The commands of the transit section (02_frames_in_transit.md): a frame's classification,
the transmit arbiter, a frame sent, a lap timeout. -/

namespace Sys2Proof.Machine

/-! ### Classification (R17 to R23) -/

/-- A content error is counted (R19, R20, R22). -/
def countContent (s : State) : State :=
  s.countTransit fun c => { c with contentErrors := inc16 c.contentErrors }

/-- A SAMPLE length that suits its kind (R19). -/
def sampleLengthOk (n : Nat) : Bool := decide (n % 3 = 0) && decide (3 ≤ n) && decide (n ≤ 24)

/-- A SAMPLE frame (R19). -/
def takeSample (f : Frame) (s : State) : State :=
  if sampleLengthOk f.payload.length then
    let pairs := samplePairs f.payload
    let sunk := s.allSunk f.src pairs
    let s := finishDrives (pairs.foldl (takePair f.src) s)
    if sunk then s else forward f s
  else forward f (countContent s)

/-- A foreign command is counted for an actuator (R20). -/
def countForeign (a : Actuator) (s : State) : State :=
  { s with transit := { s.transit with
      gate := s.transit.gate.map fun e =>
        if e.drive = a then { e with foreignCount := inc16 e.foreignCount } else e } }

/-- The gate entry of a node and channel (R20). -/
def State.gateAt (s : State) (node channel : Byte) : Option GateEntry :=
  s.transit.gate.find? fun e => decide (e.node = node ∧ e.channel = channel)

/-- A foreign COMMAND at the gate (R20). -/
def judgeCommand (f : Frame) (s : State) : State :=
  match f.payload with
  | [] => forward f (countContent s)
  | channel :: _ =>
    match s.gateAt f.dest channel with
    | none => forward f s
    | some e => if s.owned e.drive then countForeign e.drive s else forward f s

/-- The clock value of a TIME payload, where its LEN is 4 (R22, R181). -/
def timeValue : List Byte → Option Nat
  | [a, b, c, d] => some (join32 a b c d)
  | _ => none

/-- A source that may set the clock (R22). -/
def State.maySetClock (s : State) (src : Byte) : Bool :=
  match s.permission src with
  | some p => p.covers .operate
  | none => false

/-- A TIME frame is counted as refused (R22). -/
def countTimeRefused (s : State) : State :=
  s.countTransit fun c => { c with timeRefused := inc16 c.timeRefused }

/-- What a TIME frame does at the controller (R22, log 13): it sets the clock, or is counted under each
test it fails. -/
def takeTime (f : Frame) (s : State) : State :=
  match s.maySetClock f.src, timeValue f.payload with
  | true, some t => setClock t s
  | true, none => countContent s
  | false, some _ => countTimeRefused s
  | false, none => countContent (countTimeRefused s)

/-- Steps 3 to 8 of the classification, for a foreign frame without a pass mark (R17). -/
def classifyKind (f : Frame) (s : State) : State :=
  let own := decide (f.dest = s.chip.ownAddress)
  match f.kind with
  | some .sample => takeSample f s
  | some .command => if own then forward f s else judgeCommand f s
  | some .manage => if own then intake f.src f.payload s else forward f s
  | some .time =>
    if own then takeTime f s else if f.dest = 0 then forward f (takeTime f s) else forward f s
  | some .response => forward f s
  | some .notice => forward f s
  | none => forward f s

/-- A good frame is classified (R17). -/
def classify (f : Frame) (s : State) : State :=
  if f.src = s.chip.ownAddress then finishDrives (ownReturned f s)
  else if f.passMark then s.countTransit fun c => { c with orphans := inc16 c.orphans }
  else classifyKind f s

/-- The frame is taken from the frames handed over (log 5). -/
def takeHanded (f : Frame) (s : State) : State :=
  if s.loop.handed.head? = some f then
    { s with loop := { s.loop with handed := s.loop.handed.tail } }
  else s

/-! ### The transmit arbiter and the transmitter (R29 to R31, R3) -/

/-- KIND of an own frame, its marks 0 (R3, R179). -/
def OwnFrame.kindFlags (o : OwnFrame) : Byte :=
  match o.ref with
  | .command _ _ _ => 2
  | .response _ _ => 4
  | .notice _ _ => 5

/-- An own frame as it is sent with a SEQ (R3). -/
def ownSent (src : Byte) (o : OwnFrame) (seq : Byte) : Frame :=
  { dest := o.dest.getD (Config.noticeDestination seq), src, kindFlags := o.kindFlags, seq
    payload := o.payload }

/-- What the arbiter offers (R29). -/
inductive Offer where
  | transit (f : Frame) | own (o : OwnFrame) | nothing
  deriving DecidableEq, Repr

/-- The offer without regard to the fairness counter (R29, cases 2 to 4). -/
def Transit.plainOffer (t : Transit) : Offer :=
  match t.queue, t.candidate with
  | f :: _, _ => .transit f
  | [], some o => .own o
  | [], none => .nothing

/-- The transmit arbiter's offer (R29). -/
def Transit.offered (t : Transit) : Offer :=
  match t.candidate with
  | some o => if t.fairness = 4 then .own o else t.plainOffer
  | none => t.plainOffer

/-- The head of the class of an own frame leaves it as the frame starts (R25). -/
def Transit.takeOwn (t : Transit) (o : OwnFrame) : Transit :=
  match o.ref with
  | .command _ _ _ => { t with actuator := t.actuator.tail }
  | .notice _ _ => { t with notice := t.notice.tail }
  | .response _ _ => { t with response := t.response.tail }

/-- The transmitter starts what is offered (R29 to R31). -/
def startOffer (s : State) : State :=
  match s.transit.offered with
  | .transit f =>
    { s with
      loop := { s.loop with tx := .transit f }
      transit := { s.transit with
        fairness :=
          if s.transit.noUnsent then s.transit.fairness else min 4 (s.transit.fairness + 1) } }
  | .own o =>
    { s with
      loop := { s.loop with
        tx := .own o (ownSent s.chip.ownAddress o s.transit.nextSeq) false }
      transit := { s.transit.takeOwn o with
        nextSeq := s.transit.nextSeq + 1, fairness := 0 } }
  | .nothing => s

/-- An own frame reported sent becomes a lap entry (R31). -/
def makeLap (o : OwnFrame) (f : Frame) (superseded : Bool) (s : State) : State :=
  { s with transit := { s.transit with
      lap := s.transit.lap ++ [⟨o, f, superseded, s.nowMs⟩] } }

/-- The response of a pending restart has been reported sent (R177). -/
def noteResponseSent (o : OwnFrame) (s : State) : State :=
  match o.ref with
  | .response _ true => responseGone s
  | _ => s

/-- The frame being sent is reported sent (R3, R31). -/
def frameSent (s : State) : State :=
  let idle := { s with loop := { s.loop with tx := .idle } }
  match s.loop.tx with
  | .transit _ => dropTransitHead idle
  | .own o f superseded => noteResponseSent o (makeLap o f superseded idle)
  | .idle => s
  | .breakHold => s

/-! ### Meanings -/

/-- FRAME_RECEIVED (R17): a frame that is not good in the sense of R4 is no operand of it (log 26). -/
def execFrameReceived (f : Frame) (s : State) : Host.Outcome State Fault Refusal :=
  if f.good then
    .next (if s.on then classify f (countCompleted (takeHanded f s)) else s)
  else .fault .notAGoodFrame

/-- TRANSMIT_START (R29): the transmitter asks when it is IDLE, Hold In is released and Loop In is not in
break (R11). -/
def execTransmitStart (s : State) : Host.Outcome State Fault Refusal :=
  .next
    (if s.on ∧ s.loop.tx = .idle ∧ s.chip.holdIn = false ∧ s.loop.assembler ≠ .brk then
      startOffer s
    else s)

/-- FRAME_SENT (R3). -/
def execFrameSent (s : State) : Host.Outcome State Fault Refusal :=
  .next (if s.on then frameSent s else s)

/-- LAP_TIMEOUT (R33). -/
def execLapTimeout (s : State) : Host.Outcome State Fault Refusal :=
  .next (if s.on then finishDrives (lapTimedOut s) else s)

end Sys2Proof.Machine
end

