-- ==== Sys2Proof/Machine/Dispatch.lean ====
section
/-! DEFINITION. One arm per command: each calls its own meaning. -/

namespace Sys2Proof.Machine

/-- The effect of a command on everything but the queue. -/
def exec (i : Instr) (s : State) : Host.Outcome State Fault Refusal :=
  match i with
  | .powerUp addr rate backupHeld => Sys2Proof.Machine.execPowerUp addr rate backupHeld s
  | .resetRelease addr rate => Sys2Proof.Machine.execResetRelease addr rate s
  | .characterReceived data ending => Sys2Proof.Machine.execCharacterReceived data ending s
  | .characterError e => Sys2Proof.Machine.execCharacterError e s
  | .gapTimerExpiry => Sys2Proof.Machine.execGapTimerExpiry s
  | .frameReceived f => Sys2Proof.Machine.execFrameReceived f s
  | .strobeEnd => Sys2Proof.Machine.execStrobeEnd s
  | .transmitStart => Sys2Proof.Machine.execTransmitStart s
  | .frameSent => Sys2Proof.Machine.execFrameSent s
  | .holdInAsserted => Sys2Proof.Machine.execHoldInAsserted s
  | .holdInReleased => Sys2Proof.Machine.execHoldInReleased s
  | .stallTimerExpiry => Sys2Proof.Machine.execStallTimerExpiry s
  | .breakDetected => Sys2Proof.Machine.execBreakDetected s
  | .loopReset => Sys2Proof.Machine.execLoopReset s
  | .breakEnd => Sys2Proof.Machine.execBreakEnd s
  | .loopHealthTimerExpiry => Sys2Proof.Machine.execLoopHealthTimerExpiry s
  | .lapTimeout => Sys2Proof.Machine.execLapTimeout s
  | .pointSecondTimerExpiry => Sys2Proof.Machine.execPointSecondTimerExpiry s
  | .balanceUpdate order => Sys2Proof.Machine.execBalanceUpdate order s
  | .staggerTimerExpiry => Sys2Proof.Machine.execStaggerTimerExpiry s
  | .powerReturnTimerExpiry => Sys2Proof.Machine.execPowerReturnTimerExpiry s
  | .startConfirmExpiry p => Sys2Proof.Machine.execStartConfirmExpiry p s
  | .stopConfirmExpiry p => Sys2Proof.Machine.execStopConfirmExpiry p s
  | .overcurrentTimerExpiry p => Sys2Proof.Machine.execOvercurrentTimerExpiry p s
  | .travelTimerExpiry r => Sys2Proof.Machine.execTravelTimerExpiry r s
  | .jamCurrentTimerExpiry r => Sys2Proof.Machine.execJamCurrentTimerExpiry r s
  | .reverseTimerExpiry r => Sys2Proof.Machine.execReverseTimerExpiry r s
  | .renotifyTimerExpiry entry => Sys2Proof.Machine.execRenotifyTimerExpiry entry s
  | .summaryTimerExpiry => Sys2Proof.Machine.execSummaryTimerExpiry s
  | .settlingTimerExpiry => Sys2Proof.Machine.execSettlingTimerExpiry s
  | .writeCompletion agrees => Sys2Proof.Machine.execWriteCompletion agrees s
  | .restartBegin addr rate => Sys2Proof.Machine.execRestartBegin addr rate s
  | .readStatus src tag part => Sys2Proof.Machine.execReadStatus src tag part s
  | .readCounters src tag group part => Sys2Proof.Machine.execReadCounters src tag group part s
  | .readPoint src tag first count part => Sys2Proof.Machine.execReadPoint src tag first count part s
  | .readPump src tag pump part => Sys2Proof.Machine.execReadPump src tag pump part s
  | .readRake src tag drive part => Sys2Proof.Machine.execReadRake src tag drive part s
  | .readFlow src tag part => Sys2Proof.Machine.execReadFlow src tag part s
  | .readAlarms src tag first count part => Sys2Proof.Machine.execReadAlarms src tag first count part s
  | .readSpill src tag form number part => Sys2Proof.Machine.execReadSpill src tag form number part s
  | .readTable src tag table copy index part => Sys2Proof.Machine.execReadTable src tag table copy index part s
  | .setDriveMode src tag drive mode => Sys2Proof.Machine.execSetDriveMode src tag drive mode s
  | .resetDrive src tag drive => Sys2Proof.Machine.execResetDrive src tag drive s
  | .rakeNow src tag drive => Sys2Proof.Machine.execRakeNow src tag drive s
  | .forcePoint src tag point value => Sys2Proof.Machine.execForcePoint src tag point value s
  | .releasePoint src tag point => Sys2Proof.Machine.execReleasePoint src tag point s
  | .ackAlarm src tag entry => Sys2Proof.Machine.execAckAlarm src tag entry s
  | .silence src tag => Sys2Proof.Machine.execSilence src tag s
  | .collectSpill src tag number => Sys2Proof.Machine.execCollectSpill src tag number s
  | .tableBegin src tag table count => Sys2Proof.Machine.execTableBegin src tag table count s
  | .tableSegment src tag table index data => Sys2Proof.Machine.execTableSegment src tag table index data s
  | .tableCommit src tag table method check => Sys2Proof.Machine.execTableCommit src tag table method check s
  | .tableAbandon src tag table => Sys2Proof.Machine.execTableAbandon src tag table s
  | .setStationMode src tag mode => Sys2Proof.Machine.execSetStationMode src tag mode s
  | .clearCounters src tag => Sys2Proof.Machine.execClearCounters src tag s
  | .restart src tag => Sys2Proof.Machine.execRestart src tag s
  | .runningSeconds => Sys2Proof.Machine.execRunningSeconds s
  | .resetAsserted => Sys2Proof.Machine.execResetAsserted s
  | .mainPowerLost => Sys2Proof.Machine.execMainPowerLost s

end Sys2Proof.Machine
end

