-- ==== Sys2Proof/Safety.lean ====
section
/-! DEFINITION. What counts as a safe state of the controller: the capacities of its queues, the laws of
the slot record, the start slot and the run order, the law of the spill log; what an event leaves alone; and
the premises and effects that several claims name. -/

namespace Sys2Proof.Safety

open Sys2Proof.Machine

/-- An own frame is being sent. -/
def sendingOwn : Tx → Bool
  | .own _ _ _ => true
  | _ => false

/-- The queues of the transit section within their capacities (R24, R27, R28, R31), the frame being sent
counted where its rule counts it. -/
structure WithinCapacity (s : State) : Prop where
  queue : fill s.transit.queue ≤ 384
  lap : s.transit.lap.length + (sendingOwn s.loop.tx).toNat ≤ 16
  notice : s.transit.notice.length + s.loop.tx.sendingNotice.toNat ≤ 8
  response : s.transit.response.length + s.loop.tx.sendingResponse.toNat ≤ 4
  fairness : s.transit.fairness ≤ 4

/-- The frame being sent from the transit queue is its head (R24). -/
def SendsHead (s : State) : Prop :=
  ∀ f, s.loop.tx = .transit f → s.transit.queue.head? = some f

/-- No notice of an event is left over after it (R27, log 11). -/
def NothingHeldBack (s : State) : Prop := s.transit.outbox = Outbox.empty

/-- The law of the slot record (R76). -/
def SlotLaw (s : State) : Prop := s.grants = 0 ∨ s.grants + s.loose ≤ s.capacity

/-- At most one pump is in STARTING (R77). -/
def OneStarting (s : State) : Prop :=
  ∀ p q, (s.pump p).state = .starting → (s.pump q).state = .starting → p = q

/-- The run order holds exactly the pumps in RUNNING, each once (R96). -/
def RunOrderTrue (s : State) : Prop :=
  s.seq.run.Nodup ∧ ∀ p, p ∈ s.seq.run ↔ (s.pump p).state = .running

/-- Outside AUTOMATIC every drive is in HAND (R86, R125, R175). -/
def HandOutsideAutomatic (s : State) : Prop :=
  s.automatic = false →
    (∀ p, (s.pump p).state = .hand) ∧ ∀ r, (s.rake r).state = .hand

/-- A weir's record is open in the log (R137). -/
def isOpenOf (w : Weir) (r : SpillRec) : Bool := decide (r.weir = w ∧ r.state = .opened)

/-- The law of the spill log (R137, R143, R145). -/
structure SpillLogTrue (s : State) : Prop where
  size : s.spill.log.length ≤ 32
  numbers : (s.spill.log.map (·.number)).Nodup
  next : ∀ r ∈ s.spill.log, r.number ≠ s.spill.nextNumber
  range : 1 ≤ s.spill.nextNumber ∧ s.spill.nextNumber ≤ 65535
  opened : ∀ w, (s.spill.log.filter (isOpenOf w)).length =
    if (s.weir w).state = .spilling ∨ (s.weir w).state = .receding then 1 else 0

/-! ### What an event leaves alone

A frame is said by erasing: two states agree outside some fields when they are equal once those fields are
put at fixed values. -/

/-- The frame being sent without its superseded mark (R26). -/
def unmarkedTx : Tx → Tx
  | .own o f _ => .own o f false
  | t => t

/-- A lap entry without its superseded mark (R26). -/
def unmarked (e : LapEntry) : LapEntry := { e with superseded := false }

/-- What a grant, a shedding or a stop leaves of a pump's record: modes, latch, run seconds, sources,
overcurrent timer and uncommanded count. -/
def keptByGrants (r : PumpRec) : PumpRec :=
  { PumpRec.cold with
    mgmt := r.mgmt
    selector := r.selector
    latch := r.latch
    runSeconds := r.runSeconds
    sources := r.sources
    overTimer := r.overTimer
    uncommanded := r.uncommanded }

/-- What a grant or a shedding leaves of a rake's record: mode, latch, cause, last command lost, cycle and
interval counts. -/
def rakeKeptByGrants (v : RakeRec) : RakeRec :=
  { RakeRec.cold with
    mgmt := v.mgmt
    latch := v.latch
    cause := v.cause
    lost := v.lost
    cycles := v.cycles
    interval := v.interval }

/-- What any judgement of a pump leaves of its record: management mode and run seconds. -/
def keptByJudging (r : PumpRec) : PumpRec :=
  { PumpRec.cold with
    mgmt := r.mgmt
    runSeconds := r.runSeconds }

/-- What any judgement of a rake leaves of its record: the management mode. -/
def rakeKeptByJudging (v : RakeRec) : RakeRec := { RakeRec.cold with mgmt := v.mgmt }

/-- The state with everything erased that a shedding check and a grant pass may change (R79 to R81): the
moves of drives and their orders, stagger and preemption marks, the commands posted and the superseded
marks they set. -/
def outsideGrants (s : State) : State :=
  { s with
    loop := { s.loop with tx := unmarkedTx s.loop.tx }
    transit := { s.transit with
      actuator := []
      fairness := 0
      lap := s.transit.lap.map unmarked }
    arbiter := { s.arbiter with
      stagger := none
      preempt := ⟨false, false⟩ }
    seq := { s.seq with
      pumps := s.seq.pumps.map keptByGrants
      duty := []
      run := [] }
    screens := { s.screens with
      rakes := ⟨rakeKeptByGrants s.screens.rakes.a, rakeKeptByGrants s.screens.rakes.b⟩ } }

/-- The state with everything erased that judging drives, posting commands and notices and stating
conditions may change: the drives' records but for management modes and run seconds, the orders, the drive
arbiter, the alarm unit, the ACTUATOR and NOTICE classes, superseded marks, the notices lost. -/
def outsideDrives (s : State) : State :=
  { s with
    loop := { s.loop with tx := unmarkedTx s.loop.tx }
    transit := { s.transit with
      actuator := []
      notice := []
      fairness := 0
      lap := s.transit.lap.map unmarked
      count := { s.transit.count with noticesLost := 0 }
      outbox := Outbox.empty }
    arbiter := Arbiter.start
    seq := { s.seq with
      pumps := s.seq.pumps.map keptByJudging
      duty := []
      run := [] }
    screens := { s.screens with
      rakes := ⟨rakeKeptByJudging s.screens.rakes.a, rakeKeptByJudging s.screens.rakes.b⟩ }
    alarms := ⟨[], false, none, false⟩ }

/-- The state with the alarm list, the silence flag and the notices of the present event erased. -/
def outsideAlarms (s : State) : State :=
  { s with
    transit := { s.transit with outbox := Outbox.empty }
    alarms := { s.alarms with
      entries := []
      silence := false } }

/-- The ACTUATOR class holds a command for an actuator with a code (R26). -/
def Waits (s : State) (a : Actuator) (code : CommandCode) : Prop :=
  ∃ o ∈ s.transit.actuator, ∃ arg, o.ref = .command a code arg

/-- A command of an actuator stands posted: unsent in the ACTUATOR class, where its gate entry admits it
(R25, R26). -/
def Posted (s : State) (a : Actuator) (code : CommandCode) : Prop :=
  (s.gateEntry a).isSome = true → Waits s a code

/-! ### Premises and effects that several claims name -/

/-- No table waits for a QUIET activation, and no notice of an earlier event is left over. -/
structure Settled (s : State) : Prop where
  quiet : s.awaits .quiet = false
  outbox : s.transit.outbox = Outbox.empty

/-- A request of this permission from this source is taken: the controller works, the source is listed with
enough permission (R165, R166), and the RESPONSE class has room (R21). -/
structure Taken (s : State) (src : Byte) (need : Permission) : Prop where
  on : s.on = true
  listed : ∃ held, s.permission src = some held ∧ held.covers need = true
  room : s.responseFull = false

/-- The response to a request (R182): the code and the tag, then the characters given. -/
def reply (src code tag : Byte) (rest : List Byte) : OwnFrame :=
  { dest := some src, payload := [code, tag] ++ rest, ref := .response tag false, retry := 0 }

/-- The one response a request brings (R166). -/
def Answered (s t : State) (src code tag : Byte) (rest : List Byte) : Prop :=
  t.transit.response = s.transit.response ++ [reply src code tag rest]

/-- The state with one response posted and nothing else changed. -/
def withReply (s : State) (src code tag : Byte) (rest : List Byte) : State :=
  { s with transit := { s.transit with
      response := s.transit.response ++ [reply src code tag rest] } }

/-- The same, for a response MALFORMED, which is counted (R178). -/
def withMalformed (s : State) (src code tag : Byte) : State :=
  { withReply s src code tag [2, 0] with
    handler := { s.handler with malformed := inc16 s.handler.malformed } }

/-- The same, for a data image cut into parts of 36 characters (R183): the part named, part 0 where none is; a
part above 15, or one that is not there, is MALFORMED, with the Part character 0 (the model's choice, log 16). -/
def withData (s : State) (src code tag : Byte) (image : List Byte) (part : Option Byte) : State :=
  let n := max 1 ((image.length + 35) / 36)
  let i := (part.map BitVec.toNat).getD 0
  if i ≤ 15 ∧ i < n then
    withReply s src code tag
      ([0, BitVec.ofNat 8 (16 * i + (n - 1))] ++ (image.drop (36 * i)).take 36)
  else withMalformed s src code tag

/-- The same, for what a read does not find (R166): an index above 15 is MALFORMED before that (R183); one up to 15 is
not compared with an image that is not there (the model's choice, log 16). -/
def withNotFound (s : State) (src code tag : Byte) (part : Option Byte) : State :=
  if (part.map BitVec.toNat).getD 0 ≤ 15 then withReply s src code tag [4, 0]
  else withMalformed s src code tag

/-- The part index of a read (R183). -/
def partIndex : Request → Option Byte
  | .readStatus p => p
  | .readCounters _ p => p
  | .readPoint _ _ p => p
  | .readPump _ p => p
  | .readRake _ p => p
  | .readFlow p => p
  | .readAlarms _ _ p => p
  | .readSpill _ _ p => p
  | .readTable _ _ _ p => p
  | _ => none

/-- The latch of a pump is absent and no source stands that would set it (R116). -/
structure NoLatchYet (s : State) (p : Pump) : Prop where
  installed : s.installed p = true
  latch : (s.pump p).latch = none
  sources : s.latchingSources p = []

/-- The NOTICE class after it meets one notice (R27): the notice joins the tail; a full class loses its oldest unsent
ALARM notice for it, and where it holds none it is the new notice that is lost. -/
def metBy (s : State) (o : OwnFrame) : List OwnFrame :=
  if s.noticeFull = false then s.transit.notice ++ [o]
  else if s.transit.notice.any OwnFrame.isAlarm then
    s.transit.notice.eraseP OwnFrame.isAlarm ++ [o]
  else s.transit.notice

/-- The notices lost after it (R27): one more where the class was full. -/
def lostAfterOne (s : State) : Nat :=
  if s.noticeFull then min 65535 (s.transit.count.noticesLost + 1)
  else s.transit.count.noticesLost

/-- Of the points that blocks react to at once (R55), point `n` is the park point of rake `r` and nothing else. -/
structure ParksOnly (s : State) (n : Nat) (r : Side) : Prop where
  park : (s.role fun x => x.park.get r) = some n
  otherPark : ∀ r', r' ≠ r → (s.role fun x => x.park.get r') ≠ some n
  current : ∀ r', (s.role fun x => x.rakeCurrent.get r') ≠ some n
  supply : s.role (·.supply) ≠ some n
  pump : ∀ p, (s.role fun x => x.feedback.get p) ≠ some n ∧ (s.role fun x => x.current.get p) ≠ some n ∧
    (s.role fun x => x.selector.get p) ≠ some n ∧ (s.role fun x => x.f1.get p) ≠ some n ∧
    (s.role fun x => x.f2.get p) ≠ some n ∧ (s.role fun x => x.f3.get p) ≠ some n

/-- A TABLE_COMMIT of table `x` with method IMMEDIATE that is taken and passes every step of R170: its shadow holds
the segments `gs`, whose image agrees with the check and reads as `d`. -/
structure Commits (s : State) (src table method : Byte) (check : BitVec 16) (x : TableId)
    (gs : List (List Byte)) (d : TableData) : Prop where
  taken : Taken s src .configure
  named : tableOfCode table = some x ∧ methodOfCode method = some .immediate
  shadow : s.tables.shadows.get x = .loading (gs.map some)
  agrees : crc gs.flatten = check
  valid : readTable s.surroundings x gs.flatten = .ok d
  standby : x = .station → s.tables.mode = .standby

/-! ### What a start leaves -/

/-- What a table is validated against when it is restored (R176): the STATION and POINT tables restored before it. -/
def restoredBefore (t : State) : TableId → Surroundings
  | .station => ⟨none, none, false⟩
  | .access => ⟨t.station, none, false⟩
  | .tap => ⟨t.station, none, false⟩
  | .point => ⟨t.station, none, false⟩
  | _ => ⟨t.station, t.tables.active.point.map (·.data), false⟩

/-- Table `x` is restored from its stored image, where that agrees with its check and passes validation, and is
absent with its mark set where not (R176). -/
def RestoredFromStore (t : State) (x : TableId) : Prop :=
  match t.tables.stored.get x with
  | .intact image =>
    match readTable (restoredBefore t x) x image with
    | .ok d => t.activeImage x = some image ∧ t.tables.active = t.tables.active.put image d
    | .error _ => t.tableActive x = false
  | _ => t.tableActive x = false

/-- The conditions present from a start (R164): PUMP_TRIPPED, RAKE_JAMMED, SPILL, STORE_FAULT and LOG_LOSS. -/
def presentFromStart (t : State) (n : Nat) : Bool :=
  (pumps.any fun p => decide (n = p.number) && t.installed p && (t.pump p).latch.isSome) ||
  (decide (n = 13) && (t.rake .a).latch.isSome) || (decide (n = 14) && (t.rake .b).latch.isSome) ||
  (decide (n = 17) && decide ((t.weir .w1).state = .spilling)) ||
  (decide (n = 18) && decide ((t.weir .w2).state = .spilling)) ||
  (decide (n = 24) && tableIds.any t.tables.marks.get) || (decide (n = 25) && t.spill.collectionOwed)

/-- Entry `n` is raised by a start (R154, R164): its condition is present from the start and enabled. -/
def raisedAtStart (t : State) (n : Nat) : Bool := presentFromStart t n && decide (t.priority n ≠ 0)

/-- An alarm entry after a start, its activation count as it then stands (R164): raised at the clock time, or
NORMAL with its times absent. -/
def entryAtStart (t : State) (n : Nat) : AlarmEntry where
  condition := presentFromStart t n
  state := if raisedAtStart t n then .activeUnack else .normal
  firstActive := if raisedAtStart t n then some t.clockTime else none
  lastChange := if raisedAtStart t n then some t.clockTime else none
  count := (t.alarm n).count
  renotify :=
    if raisedAtStart t n && t.notified n && decide (t.priority n = 1 ∧ renotifyIn t.alarmTable ≠ 0) then some t.now
    else none

/-- The ALARM notices of a start (R158, R164), in entry-number order. -/
def noticesAtStart (t : State) : List OwnFrame :=
  (alarmNumbers.filter fun n => raisedAtStart t n && t.notified n).map fun n => alarmNotice n false t

/-- What every start leaves, warm or cold (R176, R2, R4, R11, R27, R36, R39, R57, R73, R84, R108, R121, R136, R139,
R156, R161, R164, R166, R168, R178). `closing` are the SPILL_CLOSE notices that the start posts (R152). The NOTICE
class takes them and then the ALARM notices; what is more than 8 has the oldest ALARM notices lost and counted
(log 34). -/
structure Started (closing : List OwnFrame) (t : State) : Prop where
  power : t.chip.mainPower = true ∧ t.chip.resetLow = false ∧ t.chip.checkAgrees = true
  loop : t.loop =
    { assembler := .idle, deferred := false, gapTimer := some t.nowMs, handed := [], breakReset := false, tx := .idle
      stallTimer := if t.chip.holdIn then some t.now else none
      loopStall := false, holdOut := .released, restrobe := 0, healthTimer := none
      line := ⟨0, 0, 0, 0, 0, 0, 0, 0, 0, 0, 0, 0, 0⟩ }
  traffic : t.transit.queue = [] ∧ t.transit.response = [] ∧ t.transit.lap = [] ∧
    t.transit.nextSeq = 0 ∧ t.transit.fairness = 0 ∧ t.transit.outbox = ⟨[], [], [], []⟩
  gate : t.transit.gate = ((t.station.map (·.actuators)).getD []).map fun e => ⟨e.node, e.channel, e.drive, 0⟩
  actuator : t.transit.actuator =
    match t.gateEntry .annunciator with
    | none => []
    | some g => [⟨some g.node, [g.channel, 3, t.annMode.code], .command .annunciator .annunciate t.annMode.code, 0⟩]
  notices : t.alarms.entries.length = 73 →
    t.transit.notice = closing ++ (noticesAtStart t).drop (closing.length + (noticesAtStart t).length - 8) ∧
    t.transit.count =
      { TransitCounters.zero with noticesLost := closing.length + (noticesAtStart t).length - 8 }
  points : t.points = ⟨List.replicate 48 ⟨0, none, .none, 0, false⟩, 0, 0⟩
  flow : t.flow.filter = none ∧ t.flow.held = none ∧ t.flow.ring = [] ∧
    t.flow.record = BalanceRecord.start (t.role (·.wetWell)).isSome
  arbiter : t.arbiter = ⟨.mains, none, .stopped, ⟨false, false⟩⟩
  pumps : ∀ p, t.pump p =
    { mgmt := (t.pump p).mgmt, selector := .auto, state := .hand, latch := (t.pump p).latch, command := .stop
      confirmed := false, minRun := none, minOff := none, startConfirm := none, stopConfirm := none
      history := (t.pump p).history, runSeconds := (t.pump p).runSeconds
      sources := ⟨false, false, false, false, false, false, false, decide ((t.pump p).latch = some .failToStop)⟩
      overTimer := none, uncommanded := 0 }
  orders : t.seq.run = [] ∧ t.seq.duty.Perm t.installedPumps ∧ t.seq.demand = ⟨0, .failedLevel, 0, none⟩ ∧
    t.seq.highLevel = false ∧ t.seq.backupFloat = false
  bands : t.seq.engaged = t.bands.map fun _ => false
  rakes : ∀ r, t.rake r =
    { mgmt := (t.rake r).mgmt, state := .hand, latch := (t.rake r).latch, attempts := 0, parkSeen := false
      cause := .travel, travel := none, reverse := none, jam := none, command := .stop, confirmed := false
      lost := false, cycles := (t.rake r).cycles, interval := 0 }
  screens : ∀ r, t.screen r = ⟨none, false, false⟩
  falseOnsets : t.spill.falseOnsets = ⟨0, 0⟩
  alarms : t.alarms.entries.length = 73 → ∀ n, 1 ≤ n → n ≤ 73 → t.alarm n = entryAtStart t n
  annunciator : t.alarms.silence = false ∧ t.alarms.posted = some t.annMode ∧ t.alarms.confirmed = false
  summary : t.report.summaryTimer = if summaryIn t.alarmTable = 0 then none else some t.now
  shadows : ∀ x, t.tables.shadows.get x = .empty ∧ t.tables.outcomes.get x = .none ∧
    t.tables.marks.get x = !t.tableActive x
  store : t.tables.writing = none ∧ t.tables.queue = [] ∧ ∀ x, RestoredFromStore t x
  counters : t.tables.refused = 0 ∧ t.tables.writeFailures = 0
  requests : t.handler = ⟨none, 0, 0⟩
  mode : (t.tables.mode = .settling ∧ t.tables.settling = some t.now ∧
      t.tables.wanted = .automatic ∧ t.mandatoryFault = none) ∨
    (t.tables.mode = .standby ∧ t.tables.settling = none ∧
      (t.tables.wanted = .standby ∨ t.mandatoryFault ≠ none))

/-- A command that begins a start (R176, R177) by which the retained fields are kept (`warm`) or take their cold
values: the check word agrees, and at a power-up the backup supply held. -/
def Starts (c : Instr) (s : State) (warm : Bool) : Prop :=
  ∃ (addr : Byte) (rate : BitVec 2),
    (∃ held, c = .powerUp addr rate held ∧ s.chip.resetLow = false ∧
      (s.chip.checkAgrees && held) = warm) ∨
    (c = .resetRelease addr rate ∧ s.chip.mainPower = true ∧ s.chip.checkAgrees = warm) ∨
    (c = .restartBegin addr rate ∧ s.on = true ∧ s.restartReady = true ∧ s.chip.checkAgrees = warm)

/-- The points after one pair of a SAMPLE frame from a node (R41 to R45), by the taps and definitions of `s`. -/
def pairTaken (s : State) (node : Byte) (x : Points) (pair : Byte × Int) : Points :=
  match s.tapOf node pair.1 with
  | none => x
  | some tap =>
    match s.pointDef tap.target with
    | none => { x with toUndefined := inc16 x.toUndefined }
    | some d =>
      match tap.sample d pair.2 with
      | none => { x with rejected := inc16 x.rejected }
      | some (v, g) =>
        { x with recs := x.recs.set tap.target ((x.recs.getD tap.target PointRec.start).accept v g) }

/-- The request that a command is, with its source and tag. -/
def requestOf : Instr → Option (Byte × Byte × Request)
  | .readStatus src tag part => some (src, tag, .readStatus part)
  | .readCounters src tag group part => some (src, tag, .readCounters group part)
  | .readPoint src tag first count part => some (src, tag, .readPoint first count part)
  | .readPump src tag pump part => some (src, tag, .readPump pump part)
  | .readRake src tag drive part => some (src, tag, .readRake drive part)
  | .readFlow src tag part => some (src, tag, .readFlow part)
  | .readAlarms src tag first count part => some (src, tag, .readAlarms first count part)
  | .readSpill src tag form number part => some (src, tag, .readSpill form number part)
  | .readTable src tag table copy index part => some (src, tag, .readTable table copy index part)
  | .setDriveMode src tag drive mode => some (src, tag, .setDriveMode drive mode)
  | .resetDrive src tag drive => some (src, tag, .resetDrive drive)
  | .rakeNow src tag drive => some (src, tag, .rakeNow drive)
  | .forcePoint src tag point value => some (src, tag, .forcePoint point value)
  | .releasePoint src tag point => some (src, tag, .releasePoint point)
  | .ackAlarm src tag entry => some (src, tag, .ackAlarm entry)
  | .silence src tag => some (src, tag, .silence)
  | .collectSpill src tag number => some (src, tag, .collectSpill number)
  | .tableBegin src tag table count => some (src, tag, .tableBegin table count)
  | .tableSegment src tag table index data => some (src, tag, .tableSegment table index data)
  | .tableCommit src tag table method check => some (src, tag, .tableCommit table method check)
  | .tableAbandon src tag table => some (src, tag, .tableAbandon table)
  | .setStationMode src tag mode => some (src, tag, .setStationMode mode)
  | .clearCounters src tag => some (src, tag, .clearCounters)
  | .restart src tag => some (src, tag, .restart)
  | _ => none

/-- The commands by which the characters of a frame arrive as they are sent (R2, R179). -/
def receive (f : Frame) : List Instr := f.line.map fun c => .characterReceived c.1 c.2

/-- The loop port after a character is judged (R2, R6): no judgement deferred, the gap timer restarted. -/
def judged (s : State) : LoopPort := { s.loop with deferred := false, gapTimer := some s.nowMs }

/-- A lap entry of a response. -/
def isResponseEntry (e : LapEntry) : Bool :=
  match e.own.ref with
  | .response _ _ => true
  | _ => false

/-- A lap entry of a notice. -/
def isNoticeEntry (e : LapEntry) : Bool :=
  match e.own.ref with
  | .notice _ _ => true
  | _ => false

/-- A lap entry of a SUMMARY notice. -/
def isSummaryEntry (e : LapEntry) : Bool :=
  match e.own.ref with
  | .notice .summary _ => true
  | _ => false

/-- A foreign frame that has not passed the controller before, good in the sense of R4. -/
structure Foreign (s : State) (f : Frame) : Prop where
  on : s.on = true
  good : f.good = true
  src : f.src ≠ s.chip.ownAddress
  fresh : f.passMark = false

/-- The state with a frame taken from those handed over and counted toward the re-strobe (R14, R17). -/
def arrived (f : Frame) (s : State) : State := countCompleted (takeHanded f s)

/-! ### Further invariants -/

/-- Own frames stand in the class their kind names (R25). -/
structure ClassesTrue (s : State) : Prop where
  actuator : ∀ o ∈ s.transit.actuator, ∃ a code arg, o.ref = .command a code arg
  notice : ∀ o ∈ s.transit.notice, ∃ t n, o.ref = .notice t n
  response : ∀ o ∈ s.transit.response, ∃ tag b, o.ref = .response tag b

/-- The transmitter holds Loop Out at space exactly while Loop In is in break (R9, R11). -/
def HoldsBreak (s : State) : Prop := s.loop.tx = .breakHold ↔ s.loop.assembler = .brk

/-- The queues of the transit section and the transmitter (R9, R24 to R31). -/
structure QueuesTrue (s : State) : Prop where
  capacity : WithinCapacity s
  head : SendsHead s
  classes : ClassesTrue s
  breakHold : HoldsBreak s
  outbox : NothingHeldBack s

/-- The lists of fixed or bounded length (R153, R45, R52, R67, R85, R97). -/
structure Shapes (s : State) : Prop where
  alarms : s.alarms.entries.length = 73
  points : s.points.recs.length = 48
  numbers : (s.pointDefs.map (·.number)).Nodup ∧ ∀ d ∈ s.pointDefs, d.number < 48
  ring : s.flow.ring.length ≤ 60
  history : ∀ p, (s.pump p).history.length ≤ 12
  bands : s.seq.engaged.length = s.bands.length

/-- The settling timer runs exactly in SETTLING (R174, R175), so that a step can reach AUTOMATIC from
SETTLING alone; outside AUTOMATIC every drive is in HAND (R86, R125); one pump at most is STARTING (R77). -/
structure ModesTrue (s : State) : Prop where
  settling : s.tables.settling.isSome = true ↔ s.tables.mode = .settling
  hand : HandOutsideAutomatic s
  starting : OneStarting s

end Sys2Proof.Safety
end

