-- ==== Sys2Proof/Certificates/Slice0/Obligations.lean ====
section
/-! DEFINITION. The statements for the provers, from the numbered rules of spec/. -/

open Sys2Proof Sys2Proof.Machine Sys2Proof.Safety

/-! ### The queue and the whole machine -/

/-- The command at the front of the queue runs on the rest; on an empty queue a millisecond of the model's
second passes (log 3). -/
def Obligations.StepRunsTheFront : Prop :=
  (∀ (c : Instr) (rest : List Instr) (s : State),
    step { s with pending := c :: rest } = exec c { s with pending := rest }) ∧
  ∀ s : State, s.pending = [] →
    step s = .next { s with chip := { s.chip with millis := min 999 (s.chip.millis + 1) } }

/-- R1: the straps are read at the starts alone (POWER_UP, RESET_RELEASE, RESTART_BEGIN), a value of 0 or above
239 taken as 239; every other command, a loop reset among them, leaves the own address and the rate. A start
that does not begin (logs 2, 4) leaves them too. -/
def Obligations.StrapsAreReadAtStartsAlone : Prop :=
  ∀ (c : Instr) (s t : State), exec c s = .next t →
    (t.chip.ownAddress = s.chip.ownAddress ∧ t.chip.rate = s.chip.rate) ∨
    ∃ (addr : Byte) (rate : BitVec 2),
      ((∃ held, c = .powerUp addr rate held) ∨ c = .resetRelease addr rate ∨
        c = .restartBegin addr rate) ∧
      t.chip.rate = rate ∧
      t.chip.ownAddress = if 1 ≤ addr.toNat ∧ addr.toNat ≤ 239 then addr else 239

/-- Every command whose operands the outside can present is answered with a next state; FRAME_RECEIVED stops on
a frame that is not good in the sense of R4 (log 26), which the assembler never hands over; nothing is refused.
A command's effect is on everything but the queue. -/
def Obligations.EveryGoodCommandIsAnswered : Prop :=
  (∀ (c : Instr) (s t : State), exec c s = .next t → t.pending = s.pending) ∧
  (∀ (c : Instr) (s : State), c.wellFormed = true → ∃ t, exec c s = .next t) ∧
  (∀ (f : Frame) (s : State), f.good = false →
    exec (.frameReceived f) s = .fault .notAGoodFrame) ∧
  ∀ (c : Instr) (s : State) (r : Refusal), exec c s ≠ .refused r

/-! ### Loop port -/

/-- R2, R4, R179, R180: a character is twelve bit times, the start bit at space, the data bits least significant
first, the marker, a parity bit that makes the ones even, the stop bit at mark; a frame is its characters, DEST with
marker 1 and the others with marker 0. The characters of a good frame bring it whole out of the assembler: handed
over (to a list, log 5), counted good, the gap timer restarted (log 21), and nothing else changed. -/
def Obligations.FrameIsAssembledFromItsCharacters : Prop :=
  (∀ (d : Byte) (m : Bool), ∃ parity : Bool,
    let data := [d.getLsbD 0, d.getLsbD 1, d.getLsbD 2, d.getLsbD 3, d.getLsbD 4, d.getLsbD 5,
      d.getLsbD 6, d.getLsbD 7]
    bitTimes d (sentEnding d m) = [false] ++ data ++ [m, parity, true] ∧
      ((data ++ [m, parity]).count true) % 2 = 0) ∧
  (∀ f : Frame, f.line.map (·.1) = f.chars ∧
    f.line.map (·.2.marker) = true :: List.replicate (f.length - 1) false ∧
    f.bitTimes = f.line.flatMap fun c => bitTimes c.1 (sentEnding c.1 c.2.marker)) ∧
  ∀ (f : Frame) (rest : List Instr) (s : State), f.good = true → s.on = true →
    s.loop.assembler = .idle → s.loop.deferred = false →
    Host.Core.run Sys2Proof.core f.length ({ s with pending := receive f ++ rest } : State) =
      .next
        ({ s with
            pending := rest
            loop := { judged s with
              handed := s.loop.handed ++ [f]
              line := { s.loop.line with goodFrames := inc16 s.loop.line.goodFrames } } } : State)

/-- R2, R4, R5, R6, R8, R16. A good character restarts the gap timer (the model's choice, log 21). A marker begins a
frame; a non-marker is stray in IDLE, ignored in DISCARD, appended in IN_FRAME. There a LEN above 40 is a length error
and DISCARD, and the last character completes the frame: a check error with the health timer, malformed, or good and
handed over (to a list: the model's choice, log 5). The stop bit at mark with the wrong parity is a parity error; the
stop bit at space defers judgement, and the gap timer stops until it is judged. In BREAK, or with judgement deferred,
no character is taken. A gap in IN_FRAME is a gap abort, in DISCARD it ends the discarding; in IDLE, or not running,
its expiry has no effect (the model's choice, log 4). A character error is counted once under its own name, whichever
the state; IN_FRAME becomes DISCARD, IDLE and DISCARD stay, so no character in error begins a frame; the health timer
starts, no judgement stays deferred and the gap timer restarts (log 21); the silence after it counts no gap abort. A
framing error is judged where judgement was deferred too; a parity error then, and any error in BREAK, has no effect
(the model's choice, log 4). -/
def Obligations.AssemblerActsByItsState : Prop :=
  (∀ (d : Byte) (s : State), s.on = true → s.loop.deferred = false →
    let takes := fun (m : Bool) (l : LoopPort) =>
      exec (.characterReceived d (sentEnding d m)) s = .next { s with loop := l }
    (s.loop.assembler = .idle →
      takes true { judged s with assembler := .inFrame [d] } ∧
      takes false { judged s with
        line := { s.loop.line with stray := inc16 s.loop.line.stray } }) ∧
    (∀ cs, s.loop.assembler = .inFrame cs →
      takes true { judged s with
        assembler := .inFrame [d]
        line := { s.loop.line with markerAborts := inc16 s.loop.line.markerAborts } } ∧
      (cs.length < 4 → takes false { judged s with assembler := .inFrame (cs ++ [d]) }) ∧
      (cs.length = 4 → takes false
        (if 40 < d.toNat then
          { judged s with
            assembler := .discard
            line := { s.loop.line with lengthErrors := inc16 s.loop.line.lengthErrors } }
        else { judged s with assembler := .inFrame (cs ++ [d]) })) ∧
      ∀ dest src kindFlags seq len rest, cs = dest :: src :: kindFlags :: seq :: len :: rest →
        len.toNat ≤ 40 →
        (rest.length + 1 ≠ len.toNat + 2 →
          takes false { judged s with assembler := .inFrame (cs ++ [d]) }) ∧
        (∀ payload high, rest = payload ++ [high] → payload.length = len.toNat →
          let f : Frame := ⟨dest, src, kindFlags, seq, payload⟩
          let agrees := crc ([dest, src, kindFlags, seq, len] ++ payload) = join16 high d
          let addresses := dest.toNat < 248 ∧ src.toNat < 248
          (¬agrees → exec (.characterReceived d (sentEnding d false)) s =
            .next (countCompleted { s with loop := { judged s with
              assembler := .idle
              healthTimer := some s.now
              line := { s.loop.line with checkErrors := inc16 s.loop.line.checkErrors } } })) ∧
          (agrees → ¬addresses → exec (.characterReceived d (sentEnding d false)) s =
            .next (countCompleted { s with loop := { judged s with
              assembler := .idle
              line := { s.loop.line with malformed := inc16 s.loop.line.malformed } } })) ∧
          (agrees → addresses → takes false { judged s with
            assembler := .idle
            handed := s.loop.handed ++ [f]
            line := { s.loop.line with goodFrames := inc16 s.loop.line.goodFrames } }))) ∧
    (s.loop.assembler = .discard →
      takes true { judged s with assembler := .inFrame [d] } ∧ takes false (judged s))) ∧
  (∀ (d : Byte) (e : CharEnding) (s : State),
    (s.on = true → s.loop.assembler = .brk ∨ s.loop.deferred = true →
      exec (.characterReceived d e) s = .next s) ∧
    (e.stop = true → e.parity = parityBit d e.marker → e = sentEnding d e.marker) ∧
    (e.stop = true → e.parity ≠ parityBit d e.marker →
      exec (.characterReceived d e) s = exec (.characterError .parity) s) ∧
    (e.stop = false → s.on = true → s.loop.assembler ≠ .brk → s.loop.deferred = false →
      exec (.characterReceived d e) s =
        .next { s with loop := { s.loop with deferred := true, gapTimer := none } })) ∧
  (∀ s : State, s.on = true →
    (∀ cs, s.loop.assembler = .inFrame cs → s.loop.gapTimer.isSome = true →
      exec .gapTimerExpiry s =
        .next { s with loop := { s.loop with
          assembler := .idle
          healthTimer := some s.now
          line := { s.loop.line with gapAborts := inc16 s.loop.line.gapAborts } } }) ∧
    (s.loop.assembler = .discard → s.loop.gapTimer.isSome = true → exec .gapTimerExpiry s =
      .next { s with loop := { s.loop with assembler := .idle } }) ∧
    (s.loop.assembler = .idle ∨ s.loop.gapTimer = none → exec .gapTimerExpiry s = .next s)) ∧
  (∀ (e : CharError) (s : State), s.on = true → s.loop.assembler ≠ .brk →
    (e = .parity → s.loop.deferred = false) →
    exec (.characterError e) s =
      .next { s with loop := { judged s with
        assembler := (match s.loop.assembler with
          | .idle => .idle
          | _ => .discard)
        healthTimer := some s.now
        line := (match e with
          | .parity => { s.loop.line with parityErrors := inc16 s.loop.line.parityErrors }
          | .framing => { s.loop.line with framingErrors := inc16 s.loop.line.framingErrors }) } } ∧
    ∀ t u, exec (.characterError e) s = .next t → exec .gapTimerExpiry t = .next u →
      u.loop.line = t.loop.line ∧ u.loop.assembler = .idle) ∧
  ∀ s : State, s.on = true →
    (s.loop.assembler = .brk → ∀ e, exec (.characterError e) s = .next s) ∧
    (s.loop.deferred = true → exec (.characterError .parity) s = .next s)

/-- R8 and R9: at a break detected the assembler is in BREAK, a deferred judgement dropped and the gap timer not
running (log 21), and the transmitter holds Loop Out at space. A transit frame being sent is lost and leaves the
queue, Hold Out judged; an own frame returns to the head of its class, but for a superseded command, which is
discarded; no lap entry is made. Everything else stands. -/
def Obligations.BreakCutsOffTheFrameBeingSent : Prop :=
  ∀ s : State, s.on = true → s.loop.assembler ≠ .brk →
    let broken : LoopPort := { s.loop with
      assembler := .brk
      deferred := false
      gapTimer := none
      breakReset := false
      tx := .breakHold
      line := { s.loop.line with
        breakAborts := match s.loop.assembler with
          | .inFrame _ => inc16 s.loop.line.breakAborts
          | _ => s.loop.line.breakAborts } }
    ∃ t, exec .breakDetected s = .next t ∧
      ((∀ f, s.loop.tx ≠ .transit f) → t.loop = broken) ∧
      (s.loop.tx = .idle ∨ s.loop.tx = .breakHold → t.transit = s.transit) ∧
      (∀ f, s.loop.tx = .transit f →
        t.transit = { s.transit with queue := s.transit.queue.tail } ∧
        t.loop = { broken with
          holdOut :=
            if s.loop.holdOut = .released then
              if s.upper ≤ fill s.transit.queue.tail then .asserted else .released
            else if fill s.transit.queue.tail ≤ s.lower then .released else s.loop.holdOut
          restrobe :=
            if s.loop.holdOut = .released ∧ s.upper ≤ fill s.transit.queue.tail then 0
            else s.loop.restrobe
          line := { broken.line with lostToBreak := inc16 s.loop.line.lostToBreak } }) ∧
      (∀ o f m, s.loop.tx = .own o f m → t.transit =
        match o.ref with
        | .command _ _ _ =>
          if m then s.transit else { s.transit with actuator := o :: s.transit.actuator }
        | .notice _ _ => { s.transit with notice := o :: s.transit.notice }
        | .response _ _ => { s.transit with response := o :: s.transit.response }) ∧
      { t with loop := s.loop, transit := s.transit } = s

/-- R10 and R37: what a loop reset empties, clears and releases, and what it does not change; once per break (a
second one has no effect, log 4). Every counter ends at 0, those that R37's own resolutions would raise among them
(the model's reading, log 33). -/
def Obligations.LoopResetClearsTheTraffic : Prop :=
  ∀ s : State, s.on = true → s.loop.assembler = .brk →
    (s.loop.breakReset = true → exec .loopReset s = .next s) ∧
    (s.loop.breakReset = false → ∃ t, exec .loopReset s = .next t ∧
      t.transit = { s.transit with
        queue := []
        actuator := []
        notice := []
        response := []
        lap := []
        fairness := 0
        gate := s.transit.gate.map fun e => { e with foreignCount := 0 }
        count := TransitCounters.zero } ∧
      t.loop = { s.loop with
        holdOut := .released
        restrobe := 0
        breakReset := true
        line := LineCounters.zero } ∧
      t.points = { s.points with rejected := 0, toUndefined := 0 } ∧
      t.spill = { s.spill with falseOnsets := ⟨0, 0⟩ } ∧
      t.handler.denied = 0 ∧ t.handler.malformed = 0 ∧
      t.tables.refused = 0 ∧ t.tables.writeFailures = 0 ∧
      (∀ x, (∃ l, s.tables.shadows.get x = .loading l) → t.tables.shadows.get x = .empty) ∧
      (∀ x, (∀ l, s.tables.shadows.get x ≠ .loading l) →
        t.tables.shadows.get x = s.tables.shadows.get x) ∧
      t.tables.active = s.tables.active ∧ t.tables.mode = s.tables.mode ∧
      t.chip = s.chip ∧ t.flow = s.flow ∧ t.arbiter = s.arbiter ∧ t.seq = s.seq ∧
      t.screens = s.screens ∧ t.alarms = s.alarms ∧ t.report = s.report ∧ t.clock = s.clock ∧
      t.pending = s.pending)

/-- R8, R9 and R38: at the end of a break, short or long, the assembler and the transmitter are IDLE, the gap timer
runs (log 21), the break is counted and the rest of the loop port stands; after a loop reset, each actuator whose
gate entry is OWNED has its present command posted and its confirmed mark cleared, and no other actuator's command
is touched; after a short break nothing is posted. -/
def Obligations.BreakEndRefreshesTheOwned : Prop :=
  ∀ s : State, s.on = true → s.loop.assembler = .brk →
    ∃ t, exec .breakEnd s = .next t ∧
      t.loop = { s.loop with
        assembler := .idle
        gapTimer := some s.nowMs
        tx := .idle
        breakReset := false
        line := { s.loop.line with
          breaks := inc16 s.loop.line.breaks
          longBreaks :=
            if s.loop.breakReset then inc16 s.loop.line.longBreaks
            else s.loop.line.longBreaks } } ∧
      (s.loop.breakReset = false →
        t.transit = s.transit ∧ t.seq = s.seq ∧ t.screens = s.screens ∧ t.alarms = s.alarms) ∧
      (s.loop.breakReset = true →
        (∀ p, (s.gateEntry (.pump p)).isSome = true → s.owned (.pump p) = true →
          Waits t (.pump p) (s.pump p).command ∧ (t.pump p).confirmed = false) ∧
        (∀ r, (s.gateEntry (.rake r)).isSome = true → s.owned (.rake r) = true →
          Waits t (.rake r) (s.rake r).command ∧ (t.rake r).confirmed = false) ∧
        ((s.gateEntry .annunciator).isSome = true → s.owned .annunciator = true →
          t.alarms.posted = some s.annMode ∧
          ∃ o ∈ t.transit.actuator, o.ref = .command .annunciator .annunciate s.annMode.code) ∧
        ∀ a, s.owned a = false →
          t.transit.actuator.filter (OwnFrame.isFor a) =
            s.transit.actuator.filter (OwnFrame.isFor a)) ∧
      (∀ p, (t.pump p).state = (s.pump p).state) ∧ (∀ r, (t.rake r).state = (s.rake r).state) ∧
      outsideDrives { t with loop := s.loop } = outsideDrives s

/-- R11 to R14 and R16. Hold In's level is kept; the stall timer starts where it becomes asserted, and is
stopped with LOOP_STALL cleared at its release; the expiry makes LOOP_STALL present, once. Hold Out against its
thresholds; the re-strobe count (which runs on in STROBE, log 24) and the end of a strobe; the health timer's
expiry and the health that then reads. -/
def Obligations.HoldLinesAndHealthFollowTheirRules : Prop :=
  (∀ s : State, s.on = true → Shapes s →
    exec .holdInAsserted s =
      .next { s with
        chip := { s.chip with holdIn := true }
        loop := { s.loop with
          stallTimer := if s.chip.holdIn then s.loop.stallTimer else some s.now } } ∧
    (∃ t, exec .holdInReleased s = .next t ∧
      t.chip = { s.chip with holdIn := false } ∧ t.loop.stallTimer = none ∧
      t.loop.loopStall = false ∧ (t.alarm 23).condition = false ∧
      outsideDrives { t with chip := s.chip, loop := s.loop } = outsideDrives s) ∧
    (s.loop.stallTimer.isSome = true → s.loop.loopStall = false →
      ∃ t, exec .stallTimerExpiry s = .next t ∧
        t.loop.loopStall = true ∧ t.loopHealth = .stalled ∧ (t.alarm 23).condition = true ∧
        ((s.alarm 23).condition = false → (s.alarm 23).state = .normal → s.priority 23 ≠ 0 →
          (t.alarm 23).state = .activeUnack ∧ (t.alarm 23).firstActive = some s.clockTime ∧
          (t.alarm 23).count = min 255 ((s.alarm 23).count + 1)) ∧
        outsideDrives { t with loop := s.loop } = outsideDrives s)) ∧
  (∀ s : State, (judgeHoldOut s).loop = { s.loop with
      holdOut :=
        if s.loop.holdOut = .released then
          if s.upper ≤ fill s.transit.queue then .asserted else .released
        else if fill s.transit.queue ≤ s.lower then .released else s.loop.holdOut
      restrobe :=
        if s.loop.holdOut = .released ∧ s.upper ≤ fill s.transit.queue then 0
        else s.loop.restrobe }) ∧
  (∀ s : State, (countCompleted s).loop =
    match s.loop.holdOut with
    | .released => s.loop
    | .strobe => { s.loop with restrobe := s.loop.restrobe + 1 }
    | .asserted =>
      if s.restrobeN ≤ s.loop.restrobe + 1 then { s.loop with holdOut := .strobe, restrobe := 0 }
      else { s.loop with restrobe := s.loop.restrobe + 1 }) ∧
  (∀ s : State, s.on = true → exec .strobeEnd s =
    .next { s with loop := { s.loop with
      holdOut := if s.loop.holdOut = .strobe then .asserted else s.loop.holdOut } }) ∧
  ∀ s : State, s.on = true → ∃ t, exec .loopHealthTimerExpiry s = .next t ∧
    t = { s with loop := { s.loop with healthTimer := none } } ∧
    t.loopHealth = if s.loop.loopStall then .stalled else .good

/-! ### Transit section -/

/-- R29 with R11, R30 and R31: the candidate is the first unsent member of ACTUATOR, NOTICE and RESPONSE, and
none while the lap list holds 16; at fairness 4 it goes first, else the transit head, else the candidate, else
nothing. An own frame starts with the next SEQ and its class loses its head. Where Hold In is asserted, Loop In
is in break or a frame is being sent, nothing starts. -/
def Obligations.TransmitterStartsTheOffer : Prop :=
  ∀ s : State, s.on = true → ClassesTrue s →
    (¬(s.loop.tx = .idle ∧ s.chip.holdIn = false ∧ s.loop.assembler ≠ .brk) →
      exec .transmitStart s = .next s) ∧
    (s.loop.tx = .idle → s.chip.holdIn = false → s.loop.assembler ≠ .brk →
      let own := s.transit.actuator ++ s.transit.notice ++ s.transit.response
      let candidate := if 16 ≤ s.transit.lap.length then none else own.head?
      let transitStarts := fun f => exec .transmitStart s =
        .next { s with
          loop := { s.loop with tx := .transit f }
          transit := { s.transit with
            fairness :=
              if own = [] then s.transit.fairness else min 4 (s.transit.fairness + 1) } }
      let ownStarts := fun o => ∃ t, exec .transmitStart s = .next t ∧
        t.loop = { s.loop with tx := .own o (ownSent s.chip.ownAddress o s.transit.nextSeq) false } ∧
        t.transit.actuator ++ t.transit.notice ++ t.transit.response = own.tail ∧
        t.transit.actuator = s.transit.actuator.tail ∧
        t.transit.nextSeq = s.transit.nextSeq + 1 ∧ t.transit.fairness = 0 ∧
        t.transit.queue = s.transit.queue ∧ t.transit.lap = s.transit.lap
      match candidate, s.transit.queue with
      | some o, f :: _ => if s.transit.fairness = 4 then ownStarts o else transitStarts f
      | some o, [] => ownStarts o
      | none, f :: _ => transitStarts f
      | none, [] => exec .transmitStart s = .next s)

/-- R3, R13, R24, R31: a transit frame reported sent leaves the queue, and Hold Out is judged against the fill it
leaves: a fall to the lower threshold releases it. An own frame becomes a lap entry at the tail with its superseded
mark and the time of send completion (the model's reading in milliseconds, log 3). With no frame being sent the
command has no effect (log 4). -/
def Obligations.FrameSentLeavesQueueOrMakesLapEntry : Prop :=
  ∀ s : State, s.on = true →
    (∀ f, s.loop.tx = .transit f → ∃ t, exec .frameSent s = .next t ∧
      t.transit = { s.transit with queue := s.transit.queue.tail } ∧
      t.loop = { s.loop with
        tx := .idle
        holdOut :=
          if s.loop.holdOut = .released then
            if s.upper ≤ fill s.transit.queue.tail then .asserted else .released
          else if fill s.transit.queue.tail ≤ s.lower then .released else s.loop.holdOut
        restrobe :=
          if s.loop.holdOut = .released ∧ s.upper ≤ fill s.transit.queue.tail then 0
          else s.loop.restrobe } ∧
      { t with loop := s.loop, transit := s.transit } = s) ∧
    (∀ o f m, s.loop.tx = .own o f m → ∃ t, exec .frameSent s = .next t ∧
      t.transit = { s.transit with lap := s.transit.lap ++ [⟨o, f, m, s.nowMs⟩] } ∧
      t.loop = { s.loop with tx := .idle } ∧
      t.handler = (match o.ref with
        | .response _ true => { s.handler with
            restart := s.handler.restart.map fun x => { x with responseGone := true } }
        | _ => s.handler) ∧
      { t with loop := s.loop, transit := s.transit, handler := s.handler } = s) ∧
    (s.loop.tx = .idle ∨ s.loop.tx = .breakHold → exec .frameSent s = .next s)

/-- R17, R32, R34 and R35: an own frame returns and is stripped. Matching no entry it is a stray own frame. Matching
one, every older entry is resolved lost and it is resolved taken or not taken by its mark, all removed, no later
entry's timeout having passed (the model's reading in milliseconds, log 3; R32 is completed before R33 looks at the
new oldest entry, log 36): of those lost or not taken the responses are counted unconfirmed and the notices
undelivered at retry 2; where no command is among them, those below it, but a SUMMARY, count as posted again (R161; a
SUMMARY not taken too, with no count: the model's reading, log 47); a taken command clears its pump's COMMAND_LOST, or
its rake's mark. A frame without the mark that matches the oldest entry does what that entry's timeout does. -/
def Obligations.ReturnedFrameResolvesItsLapEntry : Prop :=
  ∀ (f : Frame) (s : State), s.on = true → f.good = true → f.src = s.chip.ownAddress → Settled s →
    ((∀ e ∈ s.transit.lap, e.frame.seq ≠ f.seq) →
      ∃ t, exec (.frameReceived f) s = .next t ∧
        t.transit.count.strayOwn = inc16 s.transit.count.strayOwn ∧
        t.transit.queue = s.transit.queue ∧
        t.transit.lap.map unmarked = s.transit.lap.map unmarked) ∧
    (∀ older e rest, s.transit.lap = older ++ e :: rest → (∀ x ∈ older, x.frame.seq ≠ f.seq) →
      e.frame.seq = f.seq →
      (∀ e' ∈ rest, s.nowMs - e'.sentAt < s.lapTimeout) →
      ∃ t, exec (.frameReceived f) s = .next t ∧
        t.transit.lap.map unmarked = rest.map unmarked ∧
        t.transit.queue = s.transit.queue ∧ t.transit.response = s.transit.response ∧
        t.transit.count.strayOwn = s.transit.count.strayOwn ∧
        (let failed := if f.takenMark then older else older ++ [e]
        let among := fun (c : LapEntry → Bool) (n : Nat) => inc16^[(failed.filter c).length] n
        t.transit.count.unconfirmed = among isResponseEntry s.transit.count.unconfirmed ∧
        t.transit.count.undelivered =
          among (fun x => isNoticeEntry x && decide (2 ≤ x.own.retry))
            s.transit.count.undelivered ∧
        ((∀ x ∈ failed, isResponseEntry x = true ∨ isNoticeEntry x = true) →
          t.transit.count.givenUp = s.transit.count.givenUp ∧
          t.transit.count.retries =
            among (fun x => isNoticeEntry x && !isSummaryEntry x && decide (x.own.retry < 2))
              s.transit.count.retries)) ∧
        (f.takenMark = true →
          (∀ p code arg, e.own.ref = .command (.pump p) code arg →
            (t.pump p).sources.commandLost = false) ∧
          (∀ r code arg, e.own.ref = .command (.rake r) code arg → (t.rake r).lost = false))) ∧
    ∀ e rest, s.transit.lap = e :: rest → e.frame.seq = f.seq → f.takenMark = false →
      exec (.frameReceived f) s = exec .lapTimeout (arrived f s)

/-- R33 to R35, R113, R130, R132 and R161, with R27. The oldest entry's timeout, no later entry's having passed (the
model's reading in milliseconds, log 3), resolves it lost. A response is counted unconfirmed. A notice is counted
undelivered at retry 2. Below it a SUMMARY is not posted again, and nothing is counted for it (the count: the model's
reading, log 47); any other is posted again to the gateway then named (log 36) with its retry raised, a full class
losing its oldest unsent ALARM notice for it, or the notice itself. A superseded command is set aside; another is
posted again below retry 2 while its gate entry stands, and given up at retry 2. The last loss is reported whether a
gate entry stands or not (the model's reading, log 31): a pump's COMMAND_LOST becomes present; a rake in RAKING or
REVERSING is JAMMED with cause COMMAND_LOST, its timers stopped, STOP posted, RAKE_JAMMED present; a rake in any other
state has its last command marked lost, and only the grant pass of the event (log 11) may move it from WAIT_SLOT. -/
def Obligations.LapTimeoutActsByClass : Prop :=
  ∀ (e : LapEntry) (rest : List LapEntry) (s : State), s.on = true → Settled s →
    s.transit.lap = e :: rest → (∀ e' ∈ rest, s.nowMs - e'.sentAt < s.lapTimeout) →
    ∃ t, exec .lapTimeout s = .next t ∧
      t.transit.lap.map unmarked = rest.map unmarked ∧
      t.transit.queue = s.transit.queue ∧ t.transit.response = s.transit.response ∧
      (match e.own.ref with
      | .response _ _ => t.transit.count.unconfirmed = inc16 s.transit.count.unconfirmed
      | .notice kind _ =>
        if 2 ≤ e.own.retry then t.transit.count.undelivered = inc16 s.transit.count.undelivered
        else if kind = .summary then
          t.transit.notice = s.transit.notice ∧ t.transit.count = s.transit.count
        else
          t.transit.count.retries = inc16 s.transit.count.retries ∧
          t.transit.notice = metBy s { e.own with dest := s.gateway, retry := e.own.retry + 1 } ∧
          t.transit.count.noticesLost = lostAfterOne s
      | .command a _ _ =>
        if e.superseded then
          t.transit.count.retries = s.transit.count.retries ∧
            t.transit.count.givenUp = s.transit.count.givenUp
        else if 2 ≤ e.own.retry then
          t.transit.count.givenUp = inc16 s.transit.count.givenUp ∧
          (∀ p, a = .pump p → s.installed p = true → (t.pump p).sources.commandLost = true) ∧
          ∀ r, a = .rake r →
            ((s.rake r).state = .raking ∨ (s.rake r).state = .reversing →
              (t.rake r).state = .jammed ∧ (t.rake r).latch = some .commandLost ∧
              (t.rake r).travel = none ∧ (t.rake r).reverse = none ∧ (t.rake r).jam = none ∧
              Posted t (.rake r) .stop ∧
              (Shapes s → (t.alarm (match r with
                | .a => 13
                | .b => 14)).condition = true)) ∧
            ((s.rake r).state ≠ .raking → (s.rake r).state ≠ .reversing →
              (t.rake r).lost = true ∧ (t.rake r).latch = (s.rake r).latch ∧
              ((s.rake r).state ≠ .waitSlot → t.rake r = { s.rake r with lost := true }))
        else if (s.gateEntry a).isSome then
          t.transit.count.retries = inc16 s.transit.count.retries ∧
            t.transit.actuator.any (OwnFrame.isFor a) = true
        else t.transit.count.retries = s.transit.count.retries)

/-- R18, R23 and R24 (R17 steps 1, 2, 7 and 8). A foreign frame with its pass mark set is dropped and counted,
and nothing is taken from it, whatever its kind; a forwarded copy bears the mark and an own frame never does; an
own frame returning with a pass mark is handled as without it. Without the mark, a frame that no other step
takes is forwarded: the copy has the mark set and all else as it arrived; it joins the tail where the fill
allows 384 characters and is counted as transit overflow otherwise; Hold Out is judged. -/
def Obligations.ForeignFrameIsForwardedOnce : Prop :=
  ((∀ (f : Frame) (s : State), s.on = true → f.good = true → f.src ≠ s.chip.ownAddress →
    f.passMark = true →
    exec (.frameReceived f) s =
      .next { arrived f s with transit := { s.transit with
        count := { s.transit.count with orphans := inc16 s.transit.count.orphans } } }) ∧
  (∀ f : Frame, f.withPassMark.passMark = true) ∧
  (∀ (src seq : Byte) (o : OwnFrame), (ownSent src o seq).passMark = false) ∧
  ∀ (f : Frame) (s : State), s.loop.handed = [] → f.src = s.chip.ownAddress →
    exec (.frameReceived f) s =
      exec (.frameReceived { f with kindFlags := f.kindFlags &&& 0xEF }) s) ∧
  ∀ (f : Frame) (s : State), Foreign s f →
    (f.kind = none ∨ f.kind = some .response ∨ f.kind = some .notice ∨
      (f.kind = some .manage ∧ f.dest ≠ s.chip.ownAddress) ∨
      (f.kind = some .command ∧ (f.dest = s.chip.ownAddress ∨ f.payload = [])) ∨
      (f.kind = some .time ∧ f.dest ≠ s.chip.ownAddress ∧ f.dest ≠ 0)) →
    ∃ t, exec (.frameReceived f) s = .next t ∧
      (t.transit.queue =
        if fill s.transit.queue + f.length ≤ 384 then
          s.transit.queue ++ [{ f with kindFlags := f.kindFlags ||| 0x10 }]
        else s.transit.queue) ∧
      t.transit.count = { s.transit.count with
        overflow :=
          if fill s.transit.queue + f.length ≤ 384 then s.transit.count.overflow
          else inc16 s.transit.count.overflow
        contentErrors :=
          if f.kind = some .command ∧ f.dest ≠ s.chip.ownAddress then
            inc16 s.transit.count.contentErrors
          else s.transit.count.contentErrors } ∧
      (s.loop.holdOut = .released → s.upper ≤ fill t.transit.queue →
        fill s.transit.queue + f.length ≤ 384 →
        t.loop.holdOut = .asserted ∧ t.loop.restrobe = 0) ∧
      { t with
        loop := s.loop
        transit := { t.transit with queue := s.transit.queue, count := s.transit.count } } = s

/-- R20 with R36: a foreign COMMAND for an actuator whose gate entry is OWNED is dropped and counted for that
actuator, so none passes to it; one with a PASS entry or none is forwarded. -/
def Obligations.CommandGateStopsForeignCommands : Prop :=
  ∀ (f : Frame) (channel : Byte) (rest : List Byte) (s : State), Foreign s f →
    f.kind = some .command → f.dest ≠ s.chip.ownAddress → f.payload = channel :: rest →
    (∀ e, s.transit.gate.find? (fun e => decide (e.node = f.dest ∧ e.channel = channel)) = some e →
      s.owned e.drive = true →
      exec (.frameReceived f) s =
        .next { arrived f s with transit := { s.transit with
          gate := s.transit.gate.map fun x =>
            if x.drive = e.drive then { x with foreignCount := inc16 x.foreignCount } else x } }) ∧
    ((∀ e, s.transit.gate.find? (fun e => decide (e.node = f.dest ∧ e.channel = channel)) = some e →
      s.owned e.drive = false) → fill s.transit.queue + f.length ≤ 384 →
      ∃ t, exec (.frameReceived f) s = .next t ∧
        t.transit = { s.transit with
          queue := s.transit.queue ++ [{ f with kindFlags := f.kindFlags ||| 0x10 }] } ∧
        { t with loop := s.loop, transit := s.transit } = s)

/-- R22, R162 and R150: a TIME frame, broadcast or addressed to the controller, from a source with OPERATE and
of LEN 4 sets the clock so that it reads the value, the running seconds untouched; open records are flagged
CLOCK_SET; a broadcast one is forwarded, the other consumed. From any other source, or of another LEN, the clock
stands and the frame is counted, under both where it fails both (log 13). -/
def Obligations.TimeFrameSetsTheClock : Prop :=
  ∀ (f : Frame) (s : State), Foreign s f → f.kind = some .time →
    (f.dest = 0 ∨ f.dest = s.chip.ownAddress) →
    ∃ t, exec (.frameReceived f) s = .next t ∧
      t.clock.running = s.clock.running ∧
      (∀ a b c d held, f.payload = [a, b, c, d] → s.permission f.src = some held →
        held ≠ .view →
        t.clock.set = true ∧
        t.clockTime = ((a.toNat * 256 + b.toNat) * 256 + c.toNat) * 256 + d.toNat ∧
        (∀ w, (s.weir w).state = .spilling ∨ (s.weir w).state = .receding →
          ∀ r ∈ t.spill.log, r.weir = w → r.state = .opened → r.flags.clockSet = true) ∧
        (∀ w, (s.weir w).state = .onset → (t.weir w).clockSetMark = true)) ∧
      ((f.payload.length ≠ 4 ∨ s.permission f.src = none ∨ s.permission f.src = some .view) →
        t.clock = s.clock ∧ t.spill = s.spill ∧
        t.transit.count.timeRefused =
          (if s.permission f.src = none ∨ s.permission f.src = some .view then
            inc16 s.transit.count.timeRefused
          else s.transit.count.timeRefused) ∧
        t.transit.count.contentErrors =
          (if f.payload.length ≠ 4 then inc16 s.transit.count.contentErrors
          else s.transit.count.contentErrors)) ∧
      t.transit.queue =
        (if f.dest = 0 ∧ f.dest ≠ s.chip.ownAddress ∧ fill s.transit.queue + f.length ≤ 384 then
          s.transit.queue ++ [{ f with kindFlags := f.kindFlags ||| 0x10 }]
        else s.transit.queue)

/-! ### Points -/

/-- R19, R41, R45 and R55. A SAMPLE frame that does not hold 1 to 8 whole pairs is a content error: nothing is taken
and it is forwarded. Of a frame that does, the pairs are taken in payload order, and it is stripped exactly where
every pair's tap has the forwarding SINK. Of one pair: without a tap nothing is taken; to an undefined point
or rejected it is counted and the record stands; accepted it sets the last accepted value and grade and age 0,
and the value and quality too unless the point is forced. No other point and no other block than the drives and
alarms is touched. -/
def Obligations.SampleIsTakenAndStrippedOrForwarded : Prop :=
  (∀ (f : Frame) (s : State), Foreign s f → f.kind = some .sample →
    ¬(f.payload.length % 3 = 0 ∧ 3 ≤ f.payload.length ∧ f.payload.length ≤ 24) →
    ∃ t, exec (.frameReceived f) s = .next t ∧
      t.transit = { s.transit with
        queue :=
          if fill s.transit.queue + f.length ≤ 384 then
            s.transit.queue ++ [{ f with kindFlags := f.kindFlags ||| 0x10 }]
          else s.transit.queue
        count := { s.transit.count with
          contentErrors := inc16 s.transit.count.contentErrors
          overflow :=
            if fill s.transit.queue + f.length ≤ 384 then s.transit.count.overflow
            else inc16 s.transit.count.overflow } } ∧
      { t with loop := s.loop, transit := s.transit } = s) ∧
  (∀ (f : Frame) (s : State), Foreign s f → Settled s → Shapes s → f.kind = some .sample →
    f.payload.length % 3 = 0 → 3 ≤ f.payload.length → f.payload.length ≤ 24 →
    ∃ t, exec (.frameReceived f) s = .next t ∧
      t.points = (samplePairs f.payload).foldl (pairTaken s f.src) s.points ∧
      (samplePairs f.payload).length = f.payload.length / 3 ∧
      t.transit.queue =
        (if ∀ x ∈ samplePairs f.payload,
            (s.tapOf f.src x.1).map (·.forwarding) = some .sink then s.transit.queue
        else if fill s.transit.queue + f.length ≤ 384 then
          s.transit.queue ++ [{ f with kindFlags := f.kindFlags ||| 0x10 }]
        else s.transit.queue) ∧
      outsideDrives
        { t with
          loop := s.loop
          points := s.points
          transit := { t.transit with queue := s.transit.queue, count := s.transit.count } } =
        outsideDrives s) ∧
  ∀ (f : Frame) (channel hi lo : Byte) (s : State), Foreign s f → Settled s → Shapes s →
    f.kind = some .sample → f.payload = [channel, hi, lo] →
    let raw := (join16 hi lo).toInt
    ∃ t, exec (.frameReceived f) s = .next t ∧
      (s.tapOf f.src channel = none → t.points = s.points) ∧
      (∀ tap, s.tapOf f.src channel = some tap →
        (s.pointDef tap.target = none →
          t.points = { s.points with toUndefined := inc16 s.points.toUndefined }) ∧
        ∀ d, s.pointDef tap.target = some d →
          (tap.policy = .reject → (raw < tap.windowMin ∨ tap.windowMax < raw) →
            t.points = { s.points with rejected := inc16 s.points.rejected }) ∧
          (∀ v g, tap.sample d raw = some (v, g) →
            t.pointRec tap.target =
              { s.pointRec tap.target with
                value := if (s.pointRec tap.target).forced then (s.pointRec tap.target).value else v
                quality :=
                  if (s.pointRec tap.target).forced then (s.pointRec tap.target).quality else g
                accepted := some (v, g)
                age := 0 } ∧
            (t.alarm (26 + tap.target)).condition = false) ∧
          ∀ n, n ≠ tap.target → t.pointRec n = s.pointRec n) ∧
      t.transit.queue =
        (if (s.tapOf f.src channel).map (·.forwarding) = some .sink then s.transit.queue
        else if fill s.transit.queue + f.length ≤ 384 then
          s.transit.queue ++ [{ f with kindFlags := f.kindFlags ||| 0x10 }]
        else s.transit.queue) ∧
      outsideDrives
        { t with
          loop := s.loop
          points := s.points
          transit := { t.transit with queue := s.transit.queue, count := s.transit.count } } =
        outsideDrives s

/-- R43: the product with the gain divided by 1,024 to the nearest whole number, a half away from zero, plus the
offset, all exact; the range it then lies in for the operands of a tap. R42, R44 and R45: a raw value in the window is
taken as it stands; outside it CLAMP takes the nearer bound, marked clamped, whatever the class range then does to it,
and REJECT takes none. The fitting of a scaled value to each class, its clamped mark where limiting changes it, and
the active STATE point: usable and reading 1. -/
def Obligations.SampleIsScaledWindowedAndFitted : Prop :=
  (∀ (t : Tap) (raw : Int),
    (∃ q : Int, t.scale raw = q + t.offset ∧
      2 * |1024 * q - raw * t.gain| ≤ 1024 ∧
      (2 * |1024 * q - raw * t.gain| = 1024 → |raw * t.gain| < |1024 * q|)) ∧
    (-32768 ≤ raw → raw ≤ 32767 → -32768 ≤ t.gain → t.gain ≤ 32767 →
      -32768 ≤ t.offset → t.offset ≤ 32767 →
      -1081344 ≤ t.scale raw ∧ t.scale raw ≤ 1081343)) ∧
  (∀ (t : Tap) (d : PointDef) (raw : Int), t.windowMin ≤ t.windowMax →
    (t.windowMin ≤ raw → raw ≤ t.windowMax → ∃ v g, t.sample d raw = some (v, g) ∧
      v = (d.cls.fit (t.scale raw)).1 ∧
      g = if (d.cls.fit (t.scale raw)).2 then .clamped else .good) ∧
    (raw < t.windowMin → t.sample d raw =
      if t.policy = .clamp then some ((d.cls.fit (t.scale t.windowMin)).1, .clamped) else none) ∧
    (t.windowMax < raw → t.sample d raw =
      if t.policy = .clamp then some ((d.cls.fit (t.scale t.windowMax)).1, .clamped) else none)) ∧
  (∀ (c : PointClass) (lo hi v : Int),
    (c = .level ∧ lo = -1000 ∧ hi = 15000) ∨ (c = .current ∧ lo = 0 ∧ hi = 10000) ∨
      (c = .select ∧ lo = 0 ∧ hi = 3) →
    (v < lo → c.fit v = (lo, true)) ∧ (hi < v → c.fit v = (hi, true)) ∧
      (lo ≤ v → v ≤ hi → c.fit v = (v, false))) ∧
  (∀ v : Int, PointClass.state.fit v = (if v = 0 then 0 else 1, false)) ∧
  ∀ r : PointRec, r.active = true ↔
    (r.quality = .good ∨ r.quality = .clamped ∨ r.quality = .stale ∨ r.quality = .substituted ∨
      r.quality = .forced) ∧ r.value = 1

/-- R46 to R48 and R51: at the point second every defined point's age rises, saturating; it is then graded by
its age, its history and its substitute, the points without a substitute first; a forced one keeps value and
quality; POINT_FAILED follows the age. A point within its limits keeps its value, also one that was SUBSTITUTED before
its limits were raised (the model's reading, log 38); at NONE it holds 0 (R66). -/
def Obligations.PointsAgeAndAreGraded : Prop :=
  ∀ s : State, s.on = true → Settled s → Shapes s →
    ∃ t, exec .pointSecondTimerExpiry s = .next t ∧
      (∀ d ∈ s.pointDefs,
        (∀ u, d.substitute = some u → ∀ d', s.pointDef u = some d' → d'.substitute = none) →
        let r := s.pointRec d.number
        let r' := t.pointRec d.number
        r'.age = min 65535 (r.age + 1) ∧ r'.accepted = r.accepted ∧ r'.forced = r.forced ∧
        (r.forced = true → r'.value = r.value ∧ r'.quality = r.quality) ∧
        (r.forced = false → r'.age ≤ d.stale ∨ r'.age ≤ d.fail →
          r'.value = if r.accepted.isSome then r.value else 0) ∧
        (r.forced = false → r'.age ≤ d.stale →
          r'.quality = (r.accepted.map Prod.snd).getD .none) ∧
        (r.forced = false → d.stale < r'.age → r'.age ≤ d.fail →
          r'.quality = if r.accepted.isSome then .stale else .none) ∧
        (r.forced = false → d.stale < r'.age → d.fail < r'.age →
          (∀ u, d.substitute = some u → (t.pointRec u).quality.usable = true →
            r'.value = (t.pointRec u).value ∧ r'.quality = .substituted) ∧
          (d.substitute = none → r'.value = r.value ∧ r'.quality = .failed) ∧
          (∀ u, d.substitute = some u → (t.pointRec u).quality.usable = false →
            r'.value = r.value ∧ r'.quality = .failed)) ∧
        (t.alarm (26 + d.number)).condition = (d.alarmEnable && decide (d.fail < r'.age))) ∧
      (∀ n, s.pointDef n = none → t.pointRec n = s.pointRec n) ∧
      t.points.rejected = s.points.rejected ∧ t.points.toUndefined = s.points.toUndefined ∧
      outsideDrives { t with points := s.points } = outsideDrives s

/-- R49 and R50: FORCE_POINT fits the value to the class and presents it with quality FORCED; age and last
accepted value stand. RELEASE_POINT restores a forced point at once from its record, its age and its substitute,
case by case; an unforced point is unchanged. A number above 47 is MALFORMED and an undefined point NOT_FOUND,
with no effect. -/
def Obligations.ForceAndReleaseActAtOnce : Prop :=
  (∀ (src tag point : Byte) (value : BitVec 16) (s : State), Taken s src .operate → Settled s →
    Shapes s →
    (47 < point.toNat → exec (.forcePoint src tag point value) s =
      .next (withMalformed s src 19 tag)) ∧
    (point.toNat ≤ 47 → s.pointDef point.toNat = none → exec (.forcePoint src tag point value) s =
      .next (withReply s src 19 tag [4, 0])) ∧
    ∀ d, point.toNat ≤ 47 → s.pointDef point.toNat = some d →
      ∃ t, exec (.forcePoint src tag point value) s = .next t ∧
        t.pointRec point.toNat =
          { s.pointRec point.toNat with
            value := (d.cls.fit value.toInt).1
            quality := .forced
            forced := true } ∧
        (∀ n, n ≠ point.toNat → t.pointRec n = s.pointRec n) ∧
        Answered s t src 19 tag [0, 0] ∧
        outsideDrives
          { t with
            points := s.points
            transit := { t.transit with response := s.transit.response } } = outsideDrives s) ∧
  ∀ (src tag point : Byte) (s : State), Taken s src .operate → Settled s → Shapes s →
    (47 < point.toNat → exec (.releasePoint src tag point) s =
      .next (withMalformed s src 20 tag)) ∧
    (point.toNat ≤ 47 → s.pointDef point.toNat = none → exec (.releasePoint src tag point) s =
      .next (withReply s src 20 tag [4, 0])) ∧
    ∀ d, point.toNat ≤ 47 → s.pointDef point.toNat = some d → d.stale ≤ d.fail →
      ∃ t, exec (.releasePoint src tag point) s = .next t ∧
        (let r := s.pointRec point.toNat
        let r' := t.pointRec point.toNat
        let sub := d.substitute.map s.pointRec
        (r.forced = false → r' = r) ∧
        (r.forced = true → r'.forced = false ∧ r'.age = r.age ∧ r'.accepted = r.accepted ∧
          (r.age ≤ d.fail → r'.value = (r.accepted.map Prod.fst).getD 0 ∧
            r'.quality = match r.accepted with
              | none => .none
              | some (_, g) => if r.age ≤ d.stale then g else .stale) ∧
          (d.fail < r.age → ∀ u, sub = some u → u.quality.usable = true →
            r'.value = u.value ∧ r'.quality = .substituted) ∧
          (d.fail < r.age → (∀ u, sub = some u → u.quality.usable = false) →
            r'.value = (r.accepted.map Prod.fst).getD 0 ∧ r'.quality = .failed))) ∧
        (∀ n, n ≠ point.toNat → t.pointRec n = s.pointRec n) ∧
        Answered s t src 20 tag [0, 0] ∧
        outsideDrives
          { t with
            points := s.points
            transit := { t.transit with response := s.transit.response } } = outsideDrives s

/-! ### Storage and flow -/

/-- R60: a curve with strictly increasing x gives its first y at or below the first x, its last y at or above
the last, and between two breakpoints the value interpolated with the quotient truncated toward zero. R68: the sum S
over the m newest periods, the mean inflow from it, its limits and its quality. -/
def Obligations.CurvesAndInflowAreExact : Prop :=
  (∀ (curve : Curve) (x : Int), curve.Pairwise (fun a b => a.1 < b.1) →
    (∀ a, curve.head? = some a → x ≤ a.1 → interp curve x = a.2) ∧
    (∀ z, curve.getLast? = some z → z.1 ≤ x → interp curve x = z.2) ∧
    ∀ (i : Nat) (a b : Int × Int), curve[i]? = some a → curve[i + 1]? = some b →
      a.1 ≤ x → x < b.1 →
      interp curve x = a.2 + ((x - a.1) * (b.2 - a.2)).tdiv (b.1 - a.1)) ∧
  ∀ (window : Nat) (ring : List RingEntry),
    let n := ring.length
    let m := min window (n - 1)
    let newest := fun i : Nat => ring.getD (n - 1 - i) ⟨0, 0, 0⟩
    let sum := (newest 0).volume - (newest m).volume +
      ∑ i ∈ Finset.range m, ((newest i).pumped + (newest i).spilled)
    (m = 0 → inflow window ring = (0, .invalid)) ∧
    (0 < m →
      (inflow window ring).1 = (if sum ≤ 0 then 0 else min 65535 (sum / (m : Int))) ∧
      (inflow window ring).2 = if m = window then .valid else .part)

/-- R58 to R67, with no NEXT_PERIOD activation waiting: at a balance expiry the standing record, the filter, the
ring and the pumped totals are those the rules form from the points, whatever the order in which the blocks take
the record. A weir's level at NONE counts as 0, also where that gives a head and a flow over a crest below 0 (the
model's reading, log 46). -/
def Obligations.BalanceRecordIsFormed : Prop :=
  ∀ (o : BalanceOrder) (s : State), s.on = true → Settled s → s.awaits .nextPeriod = false →
    ∃ t, exec (.balanceUpdate o) s = .next t ∧
      t.flow.record.running = s.clock.running ∧
      t.flow.record.wetWell = (s.roleRec (·.wetWell)).map (fun r => (r.value, r.quality)) ∧
      (∀ l, s.usableValue (·.wetWell) = some l →
        ∃ f : Int,
          f = (match s.flow.filter with
            | none => 16 * l
            | some g => g + ((16 * l - g) * (((s.storage.map (·.k)).getD 16 : Nat) : Int)).tdiv 16) ∧
          t.flow.filter = some f ∧ t.flow.record.level = (f + 8) / 16 ∧
          t.flow.held = some ((f + 8) / 16) ∧ t.flow.record.basis = .filtered) ∧
      (s.usableValue (·.wetWell) = none →
        t.flow.filter = none ∧ t.flow.held = s.flow.held ∧
        t.flow.record.level = s.flow.held.getD 0 ∧
        t.flow.record.basis = if s.flow.held.isSome then .held else .none) ∧
      t.flow.record.volume =
        (if t.flow.record.basis = .filtered then
          s.storage.map fun x => interp x.curve t.flow.record.level
        else none) ∧
      (s.pumpTable = none → t.flow.record.head = none) ∧
      (∀ p, s.pumpTable = some p → ∃ h, t.flow.record.head = some h ∧
        h.well = t.flow.record.basis ∧
        let d := (s.usableValue (·.river)).getD p.design
        h.discharge = (if (s.usableValue (·.river)).isSome then .river else .design) ∧
        h.value = (if h.well = .none then 0 else max 0 (d - t.flow.record.level)) + p.allowance) ∧
      (∀ p, t.flow.record.flows.get p =
        if s.installed p && s.feedbackActive p then
          match s.pumpEntry p, t.flow.record.head with
          | some e, some h => interp e.curve h.value
          | _, _ => 0
        else 0) ∧
      t.flow.record.total = (pumps.map t.flow.record.flows.get).sum ∧
      (∀ p, t.flow.totals.get p =
        min 4294967295 (s.flow.totals.get p + (t.flow.record.flows.get p).toNat)) ∧
      (∀ w, t.flow.record.weirs.get w =
        match s.weirDef w, s.roleRec fun r => r.weirLevel.get w with
        | some d, some r =>
          let level := if r.quality = .none then 0 else r.value
          ⟨some (level - d.crest), r.quality.usable,
            if d.crest < level then interp d.curve (level - d.crest) else 0⟩
        | _, _ => ⟨none, false, 0⟩) ∧
      (t.flow.record.volume = none → t.flow.ring = []) ∧
      (∀ v, t.flow.record.volume = some v →
        t.flow.ring = (if 60 ≤ s.flow.ring.length then s.flow.ring.tail else s.flow.ring) ++
          [⟨v, t.flow.record.total,
            ((weirs.filter fun w => (t.flow.record.weirs.get w).usable).map fun w =>
              (t.flow.record.weirs.get w).flow).sum⟩]) ∧
      (t.flow.record.qin, t.flow.record.qinQuality) =
        inflow ((s.storage.map (·.window)).getD 0) t.flow.ring ∧
      t.points = s.points ∧ t.tables = s.tables ∧ t.clock = s.clock ∧ t.chip = s.chip ∧
      t.handler = s.handler ∧ t.transit.queue = s.transit.queue ∧
      t.transit.response = s.transit.response

/-! ### Sequencing -/

/-- R98 to R101 and R106 at a balance expiry: run seconds; the bands' flags (of a band with lead, where
protection does not take the record first), all released on an unusable level, also where a float decides the
demand (the model's reading, log 12); the case of demand and its figure; the blinded cap, judged before or
after the screens as the order operand says (the model's choice, log 9); HIGH_LEVEL and BACKUP_FLOAT. -/
def Obligations.DemandIsFormedFromTheRecord : Prop :=
  ∀ (o : BalanceOrder) (s : State), s.on = true → Settled s → Shapes s →
    s.awaits .nextPeriod = false →
    ∃ t, exec (.balanceUpdate o) s = .next t ∧
      let usable := t.flow.record.basis = .filtered
      let level := t.flow.record.level
      let blinded := fun u : State => (sides.filter fun r => (u.screen r).blinded).length
      (∀ p, (t.pump p).runSeconds =
        if s.installed p && s.feedbackActive p then min 4294967295 ((s.pump p).runSeconds + 1)
        else (s.pump p).runSeconds) ∧
      t.seq.engaged.length = s.bands.length ∧
      (¬usable → ∀ e ∈ t.seq.engaged, e = false) ∧
      (usable → ∀ (i : Nat) (b : Band) (was : Bool), s.bands[i]? = some b →
        s.seq.engaged[i]? = some was → (o.protectionFirst = false ∨ b.lead = 0) →
        let rating := (pumps.map fun p =>
          if (s.pump p).state = .starting ∨ (s.pump p).state = .running then
            s.rating t.flow.record.head p
          else 0).sum
        t.seq.engaged[i]? = some (
          if was then decide (b.stop ≤ level)
          else decide (b.start ≤ level ∨ (0 < b.lead ∧ b.start - b.lead ≤ level ∧
            t.flow.record.qinQuality ≠ .invalid ∧ rating < t.flow.record.qin)))) ∧
      (let dem := t.seq.demand
      (s.roleActive (·.lowFloat) = true → dem.reason = .lowFloat ∧ dem.uncapped = 0) ∧
      (s.roleActive (·.lowFloat) = false → s.roleActive (·.highFloat) = true →
        dem.reason = .highFloat ∧ dem.uncapped = s.installedPumps.length) ∧
      (s.roleActive (·.lowFloat) = false → s.roleActive (·.highFloat) = false → ¬usable →
        dem.reason = .failedLevel ∧ dem.uncapped = (s.bandTable.map (·.failedCount)).getD 0) ∧
      (s.roleActive (·.lowFloat) = false → s.roleActive (·.highFloat) = false → usable →
        dem.reason = .bands ∧
        (∀ (i : Nat) (b : Band), s.bands[i]? = some b → t.seq.engaged[i]? = some true →
          b.count ≤ dem.uncapped) ∧
        (dem.uncapped = 0 ∨ ∃ (i : Nat) (b : Band), s.bands[i]? = some b ∧
          t.seq.engaged[i]? = some true ∧ b.count = dem.uncapped)) ∧
      dem.cap = (match s.screenTable with
        | none => none
        | some x =>
          match if o.screenFirst then blinded t else blinded s with
          | 0 => none
          | 1 => some x.oneCap
          | _ => some x.twoCap) ∧
      dem.d = min dem.uncapped (dem.cap.getD dem.uncapped)) ∧
      (t.seq.highLevel = match s.alarmTable with
        | none => false
        | some x =>
          if ¬usable then s.seq.highLevel
          else if x.level ≤ level then true
          else if level < x.level - 50 then false else s.seq.highLevel) ∧
      (t.alarm 19).condition = t.seq.highLevel ∧
      (t.alarm 20).condition = s.roleActive (·.highFloat)

/-- R59, R98, R104 and R105. A balance expiry, no NEXT_PERIOD activation waiting, hands the record it forms to
protection, the screens and the sequencer in the order its operand names (log 9), then to the spill monitor, weir 1
first (log 45), and ends with the shedding check and the grant pass (log 11); the sequencer's five stages come in
order. Protection judges the pumps in number order, which the spec leaves open: the model's choice (log 49). What
stage five leaves in AUTOMATIC: a waiting pump is eligible; with A below D no pump of the duty order stands IDLE and
eligible; with A above D none waits, and every pump running is within its minimum run time; a pump in STARTING is left
to go on. -/
def Obligations.DemandIsMetAsFarAsPumpsAllow : Prop :=
  (∀ (o : BalanceOrder) (s : State), s.on = true → s.awaits .nextPeriod = false →
    let protection := fun u : State => pumps.foldl (fun u p => protectPump p u) u
    let screens := fun u : State => judgeScreen .b (judgeScreen .a u)
    let sequencer := fun u : State =>
      actOnDemand (judgeLevels (formDemand (judgeBands
        (pumps.foldl (fun u p => countRunSecond p u) u))))
    let weirs := fun u : State => judgeWeir .w2 (judgeWeir .w1 u)
    let first := formRecord s
    exec (.balanceUpdate o) s = .next (finishDrives (weirs
      (match o.protectionFirst, o.screenFirst with
      | true, true => sequencer (screens (protection first))
      | true, false => screens (sequencer (protection first))
      | false, true => protection (sequencer (screens first))
      | false, false => screens (protection (sequencer first)))))) ∧
  ∀ s : State, s.automatic = true →
    let t := actOnDemand s
    (∀ p, (t.pump p).state = .startWait → t.eligible p = true) ∧
    (t.committed < s.seq.demand.d → ∀ p ∈ s.seq.duty,
      (t.pump p).state = .idle → t.eligible p = false) ∧
    (s.seq.demand.d < t.committed →
      (∀ p ∈ s.seq.duty, (t.pump p).state ≠ .startWait) ∧
      ∀ p ∈ s.seq.run, (t.pump p).state = .running →
        t.timerElapsed (t.minRunLength p) (t.pump p).minRun = false) ∧
    (∀ p, (s.pump p).state = .starting → (t.pump p).state = .starting) ∧
    (∀ p, (s.pump p).state.mode ≠ .auto → t.pump p = s.pump p) ∧
    t.seq.demand = s.seq.demand ∧ outsideDrives t = outsideDrives s

/-! ### Slots, starts and supply -/

/-- R77 to R79 and R91: the stagger's and the power-return timer's expiry. With no drive waiting and the law of
the slot record kept, the timer is all that changes in the drives. With the start slot then open, a slot free
and no rake waiting, the waiting pump that stands earliest in the duty order, if eligible, is started: its
history takes the running seconds, RUN is posted; with its feedback already active it is RUNNING at once, at the
tail of the run order, and the stagger runs; no other pump moves. R81, R83, R127 and R128: with one rake waiting in
AUTOMATIC, the power-return timer expired and no pump waiting, a free slot is the rake's, with RUN posted, its cycle
begun and its preemption mark clear. With none free, a rake not urgent, or with its mark set, waits on and no drive
moves; an urgent one with its mark clear sheds the pump at the tail of the run order and sets the mark: while that
pump's feedback stays active it is STOPPING and the rake waits, and where it is not active already the pump has
stopped and the rake has the slot (preemption judged in the pass, per rake: the model's choice, log 39). -/
def Obligations.SlotTimersLetTheNextDriveStart : Prop :=
  (∀ (c : Instr) (s : State), s.on = true → Settled s → Shapes s → s.overOccupied = false →
    (c = .staggerTimerExpiry ∧ s.arbiter.stagger.isSome = true) ∨
      (c = .powerReturnTimerExpiry ∧ s.arbiter.powerReturn.isRunning = true) →
    (∀ r, (s.rake r).state ≠ .waitSlot) →
    ∃ t, exec c s = .next t ∧ outsideDrives t = outsideDrives s ∧ t.screens = s.screens ∧
      (c = .powerReturnTimerExpiry → t.arbiter.powerReturn = .expired) ∧
      ((∀ p, (s.pump p).state ≠ .startWait) →
        t.seq = s.seq ∧ (c = .staggerTimerExpiry → t.arbiter.stagger = none)) ∧
      ∀ (before after : List Pump) (p : Pump), s.seq.duty = before ++ p :: after →
        (∀ q ∈ before, (s.pump q).state ≠ .startWait) → (s.pump p).state = .startWait →
        s.eligible p = true → 0 < s.freeSlots → s.automatic = true →
        (∀ q, (s.pump q).state ≠ .starting) →
        (c = .staggerTimerExpiry ∨ s.arbiter.stagger = none) →
        (c = .powerReturnTimerExpiry ∨ s.powerReturned = true) →
        (t.pump p).history.getLast? = some s.clock.running ∧
        (t.pump p).history.length = min 12 ((s.pump p).history.length + 1) ∧
        (t.pump p).command = .run ∧ (t.pump p).confirmed = false ∧ Posted t (.pump p) .run ∧
        (∀ q, q ≠ p → t.pump q = s.pump q) ∧
        (s.feedbackActive p = false → (t.pump p).state = .starting ∧
          (t.pump p).startConfirm = some s.now ∧ t.seq.run = s.seq.run) ∧
        (s.feedbackActive p = true → (t.pump p).state = .running ∧
          (t.pump p).startConfirm = none ∧ (t.pump p).minRun = some s.now ∧
          t.seq.run = s.seq.run ++ [p] ∧ t.arbiter.stagger = some s.now)) ∧
  ∀ (c : Instr) (r : Side) (s : State), s.on = true → Settled s → RunOrderTrue s →
    s.overOccupied = false → s.automatic = true →
    (c = .staggerTimerExpiry ∧ s.arbiter.stagger.isSome = true ∧ s.powerReturned = true) ∨
      (c = .powerReturnTimerExpiry ∧ s.arbiter.powerReturn.isRunning = true) →
    (s.rake r).state = .waitSlot → (∀ r', r' ≠ r → (s.rake r').state ≠ .waitSlot) →
    (∀ p, (s.pump p).state ≠ .startWait) →
    let granted := fun t : State => (t.rake r).state = .raking ∧ (t.rake r).travel = some s.now ∧
      (t.rake r).attempts = 0 ∧ (t.rake r).parkSeen = false ∧ (t.rake r).command = .run ∧
      Posted t (.rake r) .run ∧ t.arbiter.preempt.get r = false
    ∃ t, exec c s = .next t ∧ outsideDrives t = outsideDrives s ∧
      (∀ r', r' ≠ r → t.rake r' = s.rake r') ∧
      (0 < s.freeSlots → granted t ∧ t.seq = s.seq) ∧
      (s.freeSlots = 0 → s.urgent r = false ∨ s.arbiter.preempt.get r = true ∨ s.seq.run = [] →
        t.rake r = s.rake r ∧ t.seq = s.seq ∧ t.arbiter.preempt = s.arbiter.preempt) ∧
      ∀ (before : List Pump) (p : Pump), s.freeSlots = 0 → s.urgent r = true →
        s.arbiter.preempt.get r = false → s.seq.run = before ++ [p] →
        t.seq.run = before ∧ (∀ q, q ≠ p → t.pump q = s.pump q) ∧
        (t.pump p).command = .stop ∧ Posted t (.pump p) .stop ∧
        (s.feedbackActive p = true → (t.pump p).state = .stopping ∧
          (t.pump p).stopConfirm = some s.now ∧ t.rake r = s.rake r ∧
          t.arbiter.preempt.get r = true ∧ t.seq.duty = s.seq.duty) ∧
        (s.feedbackActive p = false → granted t ∧ (t.pump p).minOff = some s.now ∧
          (t.pump p).state =
            if (s.pump p).latch.bind (s.sourceAction p) = some .inhibitStart then .tripped else .idle)

/-- R92, R93, R95, R114, R116 and R117: a confirm expiry of a pump on which no latching source stands latches
FAIL_TO_START (in STARTING) or FAIL_TO_STOP (in STOPPING, its feedback still active): TRIPPED, STOP posted, its
timers stopped, PUMP_TRIPPED present; leaving STARTING starts the stagger. So also where a latch is held whose cause
has not the action STOP: the new cause takes its place (for a cause with the action ALARM_ONLY, or without one, by
the model's choice, log 41). -/
def Obligations.ConfirmExpiriesTripThePump : Prop :=
  ∀ (c : Instr) (p : Pump) (cause : FaultSource) (s : State), s.on = true → Settled s → Shapes s →
    s.installed p = true → s.latchingSources p = [] →
    (∀ held, (s.pump p).latch = some held → s.sourceAction p held ≠ some .stop) →
    (c = .startConfirmExpiry p ∧ cause = .failToStart ∧ (s.pump p).state = .starting ∧
      (s.pump p).startConfirm.isSome = true) ∨
    (c = .stopConfirmExpiry p ∧ cause = .failToStop ∧ (s.pump p).state = .stopping ∧
      (s.pump p).stopConfirm.isSome = true ∧ s.feedbackActive p = true) →
    ∃ t, exec c s = .next t ∧
      (t.pump p).state = .tripped ∧ (t.pump p).latch = some cause ∧
      t.sourcePresent p cause = true ∧
      (t.pump p).command = .stop ∧ (t.pump p).confirmed = false ∧ Posted t (.pump p) .stop ∧
      (t.pump p).minRun = none ∧ (t.pump p).startConfirm = none ∧ (t.pump p).stopConfirm = none ∧
      (t.pump p).minOff = (s.pump p).minOff ∧ (t.pump p).history = (s.pump p).history ∧
      (cause = .failToStart → t.arbiter.stagger = some s.now) ∧
      (t.alarm p.number).condition = true ∧ outsideDrives t = outsideDrives s

/-- R111, R112, R115 to R118 and R120. The overcurrent timer's expiry makes OVERCURRENT present with its timer
stopped; in the class and action of the PUMP table it latches and trips an AUTO pump, holds it, or only reports.
Protection's judgement of an installed pump at a balance record (by a balance expiry: DemandIsMetAsFarAsPumpsAllow):
the uncommanded count; UNCOMMANDED_STOP present at the update at which it reaches 3 from 2, acting likewise; a HELD
pump with no HOLD source of action STOP goes to TRIPPED with a latch, else to STOPPING with its feedback active, else
to IDLE, and with such a source stays or, by a latch of action STOP, trips (judged before it is released: the model's
choice, log 53). -/
def Obligations.ProtectionActsByClassAndAction : Prop :=
  (∀ (p : Pump) (x : SourceSetting) (s : State), s.on = true → Settled s → Shapes s →
    NoLatchYet s p → (s.pump p).overTimer.isSome = true → (s.pump p).sources.overcurrent = false →
    s.sourceSetting p .overcurrent = some x →
    ∃ t, exec (.overcurrentTimerExpiry p) s = .next t ∧
      (t.pump p).sources = { (s.pump p).sources with overcurrent := true } ∧
      (t.pump p).overTimer = none ∧
      (t.pump p).latch = (if x.cls = .latch ∧ x.action ≠ .alarmOnly then some .overcurrent else none) ∧
      (x = ⟨.latch, .stop⟩ → (s.pump p).state.mode = .auto → (s.pump p).state ≠ .tripped →
        (t.pump p).state = .tripped ∧ Posted t (.pump p) .stop) ∧
      (x = ⟨.hold, .stop⟩ → (s.pump p).state.mode = .auto → (s.pump p).state ≠ .tripped →
        (t.pump p).state = .held ∧ ((s.pump p).state ≠ .held → Posted t (.pump p) .stop)) ∧
      ((s.pump p).state.mode ≠ .auto → (t.pump p).state = (s.pump p).state) ∧
      (x.cls = .hold → (t.alarm (6 + p.number)).condition = true) ∧
      ((t.alarm p.number).condition = (t.pump p).latch.isSome) ∧
      outsideDrives t = outsideDrives s) ∧
  ∀ (p : Pump) (s : State), Shapes s →
    let r := s.pump p
    let t := protectPump p s
    let u := s.setPump p { r with sources := { r.sources with uncommandedStop := false } }
    let n := if r.state = .running ∧ s.feedbackActive p = false ∧ s.arbiter.supply ≠ .lost then
      min 3 (r.uncommanded + 1) else 0
    (∀ q, q ≠ p → t.pump q = s.pump q) ∧ outsideDrives t = outsideDrives s ∧
    t.screens = s.screens ∧
    (s.installed p = false → t = s) ∧
    (s.installed p = true →
      (t.pump p).uncommanded = n ∧
      (t.pump p).sources = { r.sources with
        uncommandedStop := decide (n = 3 ∧ r.uncommanded = 2) && (s.pumpEntry p).isSome } ∧
      (r.state.mode ≠ .auto → (t.pump p).state = r.state) ∧
      (n = 3 → r.uncommanded = 2 → NoLatchYet u p → ∀ x, s.sourceSetting p .uncommandedStop = some x →
        (t.pump p).latch =
          (if x.cls = .latch ∧ x.action ≠ .alarmOnly then some .uncommandedStop else none) ∧
        (x = ⟨.latch, .stop⟩ → (t.pump p).state = .tripped ∧ (t.pump p).command = .stop ∧
          Posted t (.pump p) .stop) ∧
        (x = ⟨.hold, .stop⟩ → (t.pump p).state = .held ∧ (t.pump p).command = .stop ∧
          Posted t (.pump p) .stop) ∧
        (x.action ≠ .stop → u.holdStop p = false → (t.pump p).state = r.state) ∧
        (x.cls = .hold → (t.alarm (6 + p.number)).condition = true) ∧
        (t.alarm p.number).condition = (t.pump p).latch.isSome) ∧
      (r.state = .held → u.holdStop p = false →
        (t.pump p).state =
          (if (t.pump p).latch.isSome then .tripped
          else if s.feedbackActive p then .stopping else .idle) ∧
        ((t.pump p).state = .stopping → (t.pump p).stopConfirm = some s.now) ∧
        ((t.pump p).latch = none → (t.pump p).command = r.command ∧
          t.transit.actuator = s.transit.actuator ∧ t.seq.duty = s.seq.duty)) ∧
      (r.state = .held → u.holdStop p = true → (t.pump p).state =
        if (t.pump p).latch.bind (s.sourceAction p) = some .stop then .tripped else .held))

/-- R75, R78 and R82: as the supply state becomes NONE every grant is withdrawn; a pump in STARTING, RUNNING or
STOPPING enters IDLE (TRIPPED under a latch that inhibits starting, R117) with its minimum off timer started and
keeps its place in the duty order, the run order is left empty, a rake at work waits with its request, STOP is posted
to each, the power-return timer stops unexpired;
every other drive is left in its state, and SUPPLY_LOST is present. A SAMPLE that brings the supply source point to
NONE does this in its event, whatever else the point serves. R83: as it passes from NONE to MAINS or GENERATOR,
SUPPLY_LOST clears, ON_GENERATOR follows the new supply, the power-return timer starts from its full length (expired
at once at a length of 0), and no drive and no order moves; a SAMPLE of value 1 or 2 does this in its event. What the
timer's expiry then grants: SlotTimersLetTheNextDriveStart. -/
def Obligations.LossAndReturnOfSupply : Prop :=
  (∀ (f : Frame) (channel hi lo : Byte) (tap : Tap) (d : PointDef) (g : Quality) (s : State),
    Foreign s f → Settled s → Shapes s → RunOrderTrue s →
    f.kind = some .sample → f.payload = [channel, hi, lo] → s.tapOf f.src channel = some tap →
    s.pointDef tap.target = some d → tap.sample d (join16 hi lo).toInt = some (0, g) →
    s.role (·.supply) = some tap.target → (s.pointRec tap.target).forced = false →
    s.arbiter.supply ≠ .lost →
    ((s.pointRec tap.target).value ≠ 0 ∨ (s.pointRec tap.target).quality ≠ g) →
    ∃ t, exec (.frameReceived f) s = .next t ∧
      t.arbiter.supply = .lost ∧ t.capacity = 0 ∧ t.grants = 0 ∧ t.seq.run = [] ∧
      t.arbiter.powerReturn = .stopped ∧ (t.alarm 21).condition = true ∧
      (t.alarm 22).condition = false ∧
      ∀ p, (s.pump p).state = .starting ∨ (s.pump p).state = .running →
        (t.pump p).state ≠ .starting ∧ (t.pump p).state ≠ .running ∧
          ((t.pump p).state.mode = .auto → (t.pump p).command = .stop)) ∧
  (∀ (f : Frame) (channel hi lo : Byte) (tap : Tap) (d : PointDef) (v : Int) (g : Quality)
    (supply : Supply) (s : State),
    Foreign s f → Settled s → Shapes s →
    f.kind = some .sample → f.payload = [channel, hi, lo] → s.tapOf f.src channel = some tap →
    s.pointDef tap.target = some d → tap.sample d (join16 hi lo).toInt = some (v, g) →
    s.role (·.supply) = some tap.target → (s.pointRec tap.target).forced = false →
    s.arbiter.supply = .lost → (v = 1 ∧ supply = .mains) ∨ (v = 2 ∧ supply = .generator) →
    ((s.pointRec tap.target).value ≠ v ∨ (s.pointRec tap.target).quality ≠ g) →
    ∃ t, exec (.frameReceived f) s = .next t ∧ t.arbiter.supply = supply ∧
      t.arbiter.powerReturn = (if s.powerReturnTime = 0 then .expired else .running s.now) ∧
      (t.alarm 21).condition = false ∧ (t.alarm 22).condition = decide (supply = .generator)) ∧
  (∀ s : State, s.supplyReading ≠ .lost → s.arbiter.supply = .lost → Shapes s →
    let t := judgeSupply s
    t.arbiter = { s.arbiter with
      supply := s.supplyReading
      powerReturn := if s.powerReturnTime = 0 then .expired else .running s.now } ∧
    (∀ x, s.station = some x →
      t.capacity = if s.supplyReading = .mains then x.mainsSlots else x.generatorSlots) ∧
    (t.alarm 21).condition = false ∧
    (t.alarm 22).condition = decide (s.supplyReading = .generator) ∧
    t.seq = s.seq ∧ t.screens = s.screens ∧ outsideDrives t = outsideDrives s) ∧
  ∀ s : State, s.supplyReading = .lost → s.arbiter.supply ≠ .lost → RunOrderTrue s → Shapes s →
    let t := judgeSupply s
    t.arbiter.supply = .lost ∧ t.capacity = 0 ∧ t.grants = 0 ∧ t.arbiter.powerReturn = .stopped ∧
    t.seq.run = [] ∧ t.seq.duty = s.seq.duty ∧
    (∀ p, (s.pump p).state = .starting ∨ (s.pump p).state = .running ∨
        (s.pump p).state = .stopping →
      (t.pump p).state =
        (if (s.pump p).latch.bind (s.sourceAction p) = some .inhibitStart then .tripped else .idle) ∧
      (t.pump p).startConfirm = none ∧ (t.pump p).stopConfirm = none ∧
      (t.pump p).minOff = some s.now ∧ (t.pump p).command = .stop ∧ Posted t (.pump p) .stop) ∧
    (∀ p, (s.pump p).state ≠ .starting → (s.pump p).state ≠ .running →
      (s.pump p).state ≠ .stopping → t.pump p = s.pump p) ∧
    (∀ r, (s.rake r).state = .raking ∨ (s.rake r).state = .reversing →
      (t.rake r).state = .waitSlot ∧ (t.rake r).command = .stop ∧ (t.rake r).travel = none ∧
      (t.rake r).reverse = none ∧ (t.rake r).jam = none ∧ (t.rake r).attempts = 0 ∧
      Posted t (.rake r) .stop) ∧
    (∀ r, (s.rake r).state ≠ .raking → (s.rake r).state ≠ .reversing → t.rake r = s.rake r) ∧
    (t.alarm 21).condition = true ∧ (t.alarm 22).condition = false ∧
    outsideDrives t = outsideDrives s

/-- R75, R76, R80: what a shedding check leaves: the law of the slot record; grants only fall, no pump enters
STARTING or RUNNING and no rake RAKING or REVERSING; urgent rakes keep their grants while any other grant
stands. -/
def Obligations.SheddingRestoresTheSlotLaw : Prop :=
  ∀ s : State, RunOrderTrue s →
    let t := shedCheck s
    SlotLaw t ∧ RunOrderTrue t ∧ t.capacity = s.capacity ∧
    (SlotLaw s → t = s) ∧
    (∀ p, (t.pump p).state.granted = true → t.pump p = s.pump p) ∧
    (∀ r, (t.rake r).state.granted = true → t.rake r = s.rake r) ∧
    (∀ r, (s.rake r).state.granted = true → s.urgent r = true → (t.rake r).state.granted = false →
      t.grantedPumps = [] ∧
        ∀ r', (t.rake r').state.granted = true → s.urgent r' = true) ∧
    outsideDrives t = outsideDrives s

/-! ### Screens and rakes -/

/-- R129, R130 and R132: in RAKING the travel or jam current timer's expiry suspects a jam: REVERSING with that
cause, RUN_REVERSE posted, the reverse timer running. At the reverse timer's expiry the rake tries again below
the retry limit; at it, it is JAMMED and latched with the cause of the last suspicion, STOP posted, RAKE_JAMMED
present. The park point is not judged at the return to RAKING (the model's choice, log 55). -/
def Obligations.JamIsSuspectedRetriedAndLatched : Prop :=
  ∀ (r : Side) (s : State), s.on = true → Settled s → Shapes s → SlotLaw s →
    (∀ (c : Instr) (cause : JamCause), (s.rake r).state = .raking →
      (c = .travelTimerExpiry r ∧ cause = .travel ∧ (s.rake r).travel.isSome = true) ∨
      (c = .jamCurrentTimerExpiry r ∧ cause = .current ∧ (s.rake r).jam.isSome = true) →
      ∃ t, exec c s = .next t ∧
        (t.rake r).state = .reversing ∧ (t.rake r).cause = cause ∧
        (t.rake r).reverse = some s.now ∧ (t.rake r).travel = none ∧ (t.rake r).jam = none ∧
        (t.rake r).attempts = (s.rake r).attempts ∧ (t.rake r).latch = (s.rake r).latch ∧
        (t.rake r).command = .runReverse ∧ Posted t (.rake r) .runReverse ∧
        outsideDrives t = outsideDrives s) ∧
    ((s.rake r).state = .reversing → (s.rake r).reverse.isSome = true →
      ∃ t, exec (.reverseTimerExpiry r) s = .next t ∧ outsideDrives t = outsideDrives s ∧
        (∀ d, s.screenDef r = some d → (s.rake r).attempts < d.retryLimit →
          (t.rake r).state = .raking ∧ (t.rake r).attempts = (s.rake r).attempts + 1 ∧
          (t.rake r).travel = some s.now ∧ (t.rake r).reverse = none ∧
          (t.rake r).latch = (s.rake r).latch ∧ Posted t (.rake r) .run) ∧
        (∀ d, s.screenDef r = some d → d.retryLimit ≤ (s.rake r).attempts →
          (t.rake r).state = .jammed ∧ (t.rake r).latch = some (s.rake r).cause ∧
          (t.rake r).travel = none ∧ (t.rake r).reverse = none ∧ (t.rake r).jam = none ∧
          Posted t (.rake r) .stop ∧
          (t.alarm (match r with
            | .a => 13
            | .b => 14)).condition = true))

/-- R123, R127 and R134. At a balance expiry, no NEXT_PERIOD activation waiting: a screen's differential is upstream
less downstream while both points are usable; the blinded mark is set at the blinded level, cleared at the clear
level, and clear without a differential; the condition follows; an IDLE rake in service whose differential stands at
the rake start level, or whose screen is blinded, has its request in that event, or the grant it brings; outside
AUTO a rake stays. The standing test is kept for the entries to IDLE that follow (log 48), and the screen controller
alone changes no other block. -/
def Obligations.ScreenIsJudgedByItsDifferential : Prop :=
  (∀ (o : BalanceOrder) (r : Side) (d : ScreenDef) (s : State), s.on = true → Settled s → Shapes s →
    s.awaits .nextPeriod = false → s.screenDef r = some d →
    let up := s.usableValue fun x => x.upstream.get r
    let down := s.usableValue fun x => x.downstream.get r
    ∃ t, exec (.balanceUpdate o) s = .next t ∧
      ((up = none ∨ down = none) → t.screen r = ⟨none, false, false⟩) ∧
      (∀ u l, up = some u → down = some l →
        (t.screen r).differential = some (u - l) ∧
        (t.screen r).atStart = decide (d.rakeStart ≤ u - l) ∧
        ((s.screen r).blinded = false → (t.screen r).blinded = decide (d.blinded ≤ u - l)) ∧
        ((s.screen r).blinded = true → (t.screen r).blinded = decide (d.clear < u - l)) ∧
        (d.rakeStart ≤ u - l ∨ (t.screen r).blinded = true → s.inService r = true →
          (s.rake r).state = .idle →
          (t.rake r).state = .waitSlot ∨
            ((t.rake r).state = .raking ∧ s.powerReturned = true ∧ s.automatic = true))) ∧
      (t.alarm (match r with
        | .a => 15
        | .b => 16)).condition = (t.screen r).blinded ∧
      ((s.rake r).state.mode ≠ .auto ∨ (s.rake r).state = .jammed → t.rake r = s.rake r)) ∧
  (∀ (r : Side) (s : State), s.rakeCalled r = true ↔
    (s.screenDef r).isSome = true ∧
      ((s.screen r).atStart = true ∨ (s.screen r).blinded = true)) ∧
  ∀ (r : Side) (s : State),
    let t := judgeScreen r s
    ((s.rake r).state ≠ .idle → t.rake r = s.rake r) ∧
    t.seq = s.seq ∧ t.arbiter = s.arbiter ∧ t.flow = s.flow ∧ t.points = s.points ∧
    ∀ r', r' ≠ r → t.rake r' = s.rake r' ∧ t.screen r' = s.screen r'

/-- R124, R127 and R128. A SAMPLE that changes the park point of a rake, a point of which no other block is told at
once: in RAKING the value 0 sets park-seen; the value 1 with park-seen completes the cycle, counted, the interval
counter 0, the timers stopped, STOP posted and the rake IDLE, or waiting or granted where its next request is called
for; the value 1 without it changes nothing, and in REVERSING neither does. At a balance expiry, no NEXT_PERIOD
activation waiting, the interval counter of a rake in service and IDLE rises with an interval above 0, and at the
interval is cleared and the request raised, in that event granted where the arbiter can; else it holds its value (it
is counted before the differential is tested, the model's choice, log 22). A change of quality alone between usable
ones is such a change (the model's choice, log 55). -/
def Obligations.RakeCycleEndsAtThePark : Prop :=
  (∀ (f : Frame) (channel hi lo : Byte) (tap : Tap) (d : PointDef) (v : Int) (g : Quality) (r : Side)
    (s : State), Foreign s f → Settled s → Shapes s → SlotLaw s →
    f.kind = some .sample → f.payload = [channel, hi, lo] → s.tapOf f.src channel = some tap →
    s.pointDef tap.target = some d → tap.sample d (join16 hi lo).toInt = some (v, g) →
    ParksOnly s tap.target r → (s.pointRec tap.target).forced = false →
    ((s.pointRec tap.target).value ≠ v ∨ (s.pointRec tap.target).quality ≠ g) →
    let was := s.rake r
    ∃ t, exec (.frameReceived f) s = .next t ∧
      (was.state = .raking → v = 0 → t.rake r = { was with parkSeen := true }) ∧
      (was.state = .raking → v = 1 → was.parkSeen = false → t.rake r = was) ∧
      (was.state = .raking → v = 1 → was.parkSeen = true →
        (t.rake r).cycles = min 4294967295 (was.cycles + 1) ∧ (t.rake r).interval = 0 ∧
        (t.rake r).latch = was.latch ∧
        (s.rakeCalled r = false ∨ s.inService r = false →
          t.rake r = { was with
            state := .idle, travel := none, jam := none, command := .stop, confirmed := false
            cycles := min 4294967295 (was.cycles + 1), interval := 0 } ∧
          Posted t (.rake r) .stop) ∧
        (s.rakeCalled r = true → s.inService r = true →
          (t.rake r).state = .waitSlot ∨ (t.rake r).state = .raking)) ∧
      (was.state = .reversing → t.rake r = was)) ∧
  ∀ (o : BalanceOrder) (r : Side) (d : ScreenDef) (s : State), s.on = true → Settled s →
    s.awaits .nextPeriod = false → s.screenDef r = some d →
    let was := s.rake r
    let counts := s.inService r = true ∧ was.state = .idle ∧ 0 < d.interval
    ∃ t, exec (.balanceUpdate o) s = .next t ∧
      (counts → was.interval + 1 < 60 * d.interval → (t.rake r).interval = was.interval + 1) ∧
      (counts → 60 * d.interval ≤ was.interval + 1 → (t.rake r).interval = 0 ∧
        ((t.rake r).state = .waitSlot ∨ (t.rake r).state = .raking)) ∧
      (¬counts → (t.rake r).interval = was.interval)

/-! ### Spills -/

/-- R137 to R139, R143 and R145 to R147: an onset opens at a usable level over the crest with the update's capture;
an update that does not continue it is a false onset. It is confirmed at the onset confirm count, from DRY too where
that is 1: the weir is SPILLING with SPILL present, and SPILL_OPEN is posted. The weir's latest record, CLOSED within
the merge interval, is reopened where it stands, MERGED. Else a new record joins the log with the next spill number
and the litres and peak of every update since the onset, FOLLOWS where the latest is COLLECTED within the interval;
a full log loses its oldest COLLECTED record for it, else its oldest CLOSED one, when the lost count rises, LOG_LOSS
appears and the record is flagged; the loss-to-flag mark is spent. CLOCK_UNSET and CLOCK_SET come from the onset.
Another weir is left alone. A balance expiry, no NEXT_PERIOD activation waiting, judges both weirs on the record it
forms, weir 1 first (the model's choice, log 45). -/
def Obligations.OnsetIsConfirmedOrFalse : Prop :=
  (∀ (o : BalanceOrder) (s : State), s.on = true → Settled s → s.awaits .nextPeriod = false →
    ∃ t, exec (.balanceUpdate o) s = .next t ∧
      t.spill = (judgeWeir .w2 (judgeWeir .w1 (formRecord s))).spill) ∧
  ∀ (w : Weir) (d : WeirDef) (s : State), s.weirDef w = some d →
    let x := s.flow.record.weirs.get w
    let t := judgeWeir w s
    (∀ h, (s.weir w).state = .dry → x.head = some h → x.usable = true → 0 < h →
      1 < d.onsetConfirm →
      t.weir w = ⟨.onset,
        some ⟨(s.flow.record.running + s.clock.offset) % 4294967296, s.flow.record.running,
          s.clock.set⟩, 1, x.flow, h, false, none, 0⟩ ∧ t.spill.log = s.spill.log) ∧
    ((s.weir w).state = .dry → (x.usable = false ∨ ∀ h, x.head = some h → h ≤ 0) → t = s) ∧
    (∀ h, (s.weir w).state = .onset → x.head = some h → x.usable = true → 0 < h →
      (s.weir w).onsetCount + 1 < d.onsetConfirm →
      t.weir w = { s.weir w with
        onsetCount := (s.weir w).onsetCount + 1
        pendingLitres := (s.weir w).pendingLitres + x.flow
        pendingPeak := max (s.weir w).pendingPeak h } ∧ t.spill.log = s.spill.log) ∧
    (∀ (h litres peak : Int) (on : OnsetCapture) (mark : Bool),
      ((s.weir w).state = .onset ∧ (s.weir w).onset = some on ∧
        (s.weir w).onsetCount + 1 = d.onsetConfirm ∧ litres = (s.weir w).pendingLitres + x.flow ∧
        peak = max (s.weir w).pendingPeak h ∧ mark = (s.weir w).clockSetMark) ∨
      ((s.weir w).state = .dry ∧ d.onsetConfirm = 1 ∧
        on = ⟨(s.flow.record.running + s.clock.offset) % 4294967296, s.flow.record.running,
          s.clock.set⟩ ∧ litres = x.flow ∧ peak = h ∧ mark = false) →
      x.head = some h → x.usable = true → 0 < h → (s.spill.log.map (·.number)).Nodup →
      (∀ r ∈ s.spill.log, r.weir = w → r.state ≠ .opened) →
      let latest := s.spill.log.reverse.find? fun r => decide (r.weir = w)
      let near := fun r : SpillRec => ∃ e, r.ending = some e ∧ on.running - e.running ≤ 60 * d.merge
      let told := fun (r : SpillRec) (reopened : Byte) =>
        t.transit.outbox.spill = s.transit.outbox.spill ++
          [(w, ⟨s.gateway, [2, reopened] ++ r.chars, .notice .spillOpen r.number, 0⟩)]
      t.weir w = { WeirRec.dry with state := .spilling } ∧
      t.spill.falseOnsets = s.spill.falseOnsets ∧
      (Shapes s → (t.alarm (match w with
        | .w1 => 17
        | .w2 => 18)).condition = true) ∧
      (∀ r, latest = some r → r.state = .closed → near r →
        let r' : SpillRec := { r with
          state := .opened
          ending := none
          volume := min 4294967295 (r.volume + litres.toNat)
          peak := max r.peak peak
          flags := { r.flags with
            merged := true
            clockUnset := r.flags.clockUnset || !on.clockSet
            clockSet := r.flags.clockSet || mark
            volumeSaturated :=
              r.flags.volumeSaturated || decide (4294967295 < r.volume + litres.toNat) } }
        t.spill.log = s.spill.log.map (fun y => if y.number = r.number then r' else y) ∧
        told r' 1 ∧ t.spill.nextNumber = s.spill.nextNumber ∧
        t.spill.lostCount = s.spill.lostCount ∧ t.spill.lossToFlag = s.spill.lossToFlag ∧
        t.spill.collectionOwed = s.spill.collectionOwed) ∧
      ((∀ r, latest = some r → ¬(r.state = .closed ∧ near r)) →
        let full := 32 ≤ s.spill.log.length
        let collectedThere := ∃ r ∈ s.spill.log, r.state = .collected
        let toFlag := s.spill.lossToFlag || decide (full ∧ ¬collectedThere)
        ∃ r', r'.number = s.spill.nextNumber ∧ r'.weir = w ∧ r'.state = .opened ∧
          r'.startClock = on.clock ∧ r'.startRunning = on.running ∧ r'.ending = none ∧
          r'.peak = peak ∧ r'.volume = min 4294967295 litres.toNat ∧
          r'.flags.merged = false ∧ r'.flags.clockSet = mark ∧ r'.flags.clockUnset = !on.clockSet ∧
          r'.flags.levelDoubt = false ∧ r'.flags.tableChanged = false ∧
          r'.flags.logLoss = toFlag ∧
          r'.flags.volumeSaturated = decide (4294967295 < litres.toNat) ∧
          (r'.flags.follows = true ↔ ∃ r, latest = some r ∧ r.state = .collected ∧ near r) ∧
          t.spill.log =
            (if ¬full then s.spill.log
            else if collectedThere then s.spill.log.eraseP fun r => decide (r.state = .collected)
            else s.spill.log.eraseP fun r => decide (r.state = .closed)) ++ [r'] ∧
          told r' 0 ∧ t.spill.lossToFlag = false ∧
          (let next := if 65535 ≤ s.spill.nextNumber then 1 else s.spill.nextNumber + 1
          (∀ r ∈ t.spill.log, r.number ≠ next) → t.spill.nextNumber = next) ∧
          (¬full ∨ collectedThere → t.spill.lostCount = s.spill.lostCount ∧
            t.spill.collectionOwed = s.spill.collectionOwed) ∧
          (full → ¬collectedThere → t.spill.lostCount = min 65535 (s.spill.lostCount + 1) ∧
            t.spill.collectionOwed = true ∧ (Shapes s → (t.alarm 25).condition = true)))) ∧
    ((s.weir w).state = .onset → (x.usable = false ∨ x.head = none ∨ ∃ h, x.head = some h ∧ h ≤ 0) →
      t.weir w = WeirRec.dry ∧ t.spill.log = s.spill.log ∧
      t.spill.falseOnsets.get w = min 65535 (s.spill.falseOnsets.get w + 1)) ∧
    ∀ w', w' ≠ w → t.weir w' = s.weir w' ∧
      t.spill.falseOnsets.get w' = s.spill.falseOnsets.get w'

/-- R140 to R142 and R144, with R137's end candidate, by a balance expiry at which no NEXT_PERIOD activation waits,
the weir's one open record anywhere in the log and the other weir DRY and not over its crest; the other records stand.
The open record takes the update's litres, saturating, and the greater head; at or below the hysteresis under the
crest the end is counted from its candidate, and at the end confirm, at once where that is 1, the record is closed
with the candidate's times and its duration; above it the weir is SPILLING again. A close posts SPILL_CLOSE with the
record closed, to the gateway, unless the class is full and holds no ALARM (R147, R185, R27). A level that is not
usable, or an absent head, leaves the weir as it is and flags the record LEVEL_DOUBT; the flow and head held are still
added. -/
def Obligations.SpillRecordIsFilledAndClosed : Prop :=
  ∀ (o : BalanceOrder) (w : Weir) (d : WeirDef) (r : SpillRec) (before afterwards : List SpillRec)
    (s : State), s.on = true →
    Settled s → s.awaits .nextPeriod = false → s.weirDef w = some d →
    s.spill.log = before ++ r :: afterwards → r.weir = w → r.state = .opened →
    (∀ y ∈ before ++ afterwards, y.weir = w → y.state ≠ .opened) →
    (∀ w', w' ≠ w → (s.weir w').state = .dry ∧ ∀ h', (s.weirAt w').head = some h' → h' ≤ 0) →
    let x := s.weirAt w
    let here : Capture := ⟨s.clockTime, s.clock.running⟩
    let first := (s.weir w).candidate.getD here
    let withLitres : SpillRec := { r with
      volume := min 4294967295 (r.volume + x.flow.toNat)
      flags := { r.flags with volumeSaturated :=
        r.flags.volumeSaturated || decide (4294967295 < r.volume + x.flow.toNat) } }
    let ended := fun (y : SpillRec) (c : Capture) => { y with
      state := SpillState.closed
      ending := some ⟨c.clock, c.running, c.running - r.startRunning⟩ }
    ∃ t, exec (.balanceUpdate o) s = .next t ∧
    let becomes := fun y : SpillRec => t.spill.log = before ++ y :: afterwards
    let told := fun y : SpillRec =>
      (s.noticeFull = false ∨ s.transit.notice.any OwnFrame.isAlarm = true) →
      (⟨s.gateway, [3] ++ y.chars, .notice .spillClose y.number, 0⟩ : OwnFrame) ∈ t.transit.notice
    ((s.weir w).state = .spilling ∨ (s.weir w).state = .receding →
      x.usable = false ∨ x.head = none →
      t.weir w = s.weir w ∧
      becomes { withLitres with
        peak := match x.head with
          | none => r.peak
          | some h => max r.peak h
        flags := { withLitres.flags with levelDoubt := true } }) ∧
    ∀ h, x.usable = true → x.head = some h →
      let filled : SpillRec := { withLitres with peak := max r.peak h }
      (-d.hysteresis < h → (s.weir w).state = .spilling → t.weir w = s.weir w ∧ becomes filled) ∧
      (-d.hysteresis < h → (s.weir w).state = .receding →
        t.weir w = { s.weir w with state := .spilling, candidate := none, endCount := 0 } ∧
        becomes filled) ∧
      (h ≤ -d.hysteresis → (s.weir w).state = .spilling → 1 < d.endConfirm →
        t.weir w = { s.weir w with state := .receding, candidate := some here, endCount := 1 } ∧
        becomes filled) ∧
      (h ≤ -d.hysteresis → (s.weir w).state = .spilling → d.endConfirm ≤ 1 →
        t.weir w = WeirRec.dry ∧ becomes (ended filled here) ∧ told (ended filled here) ∧
        (Shapes s → (t.alarm (match w with
          | .w1 => 17
          | .w2 => 18)).condition = false)) ∧
      (h ≤ -d.hysteresis → (s.weir w).state = .receding → (s.weir w).endCount + 1 < d.endConfirm →
        t.weir w = { s.weir w with
          candidate := some first
          endCount := (s.weir w).endCount + 1 } ∧
        t.spill.log = s.spill.log) ∧
      (h ≤ -d.hysteresis → (s.weir w).state = .receding → d.endConfirm ≤ (s.weir w).endCount + 1 →
        t.weir w = WeirRec.dry ∧ becomes (ended r first) ∧ told (ended r first) ∧
        (Shapes s → (t.alarm (match w with
          | .w1 => 17
          | .w2 => 18)).condition = false))

/-- R148: COLLECT_SPILL by the record of the number named: what it answers, what becomes of the record, and that
each DONE clears the collection-owed mark and LOG_LOSS with it. -/
def Obligations.CollectSpillActsOnTheRecordNamed : Prop :=
  ∀ (src tag : Byte) (number : BitVec 16) (s : State), Taken s src .operate → Shapes s →
    let found := s.spill.log.find? fun r => decide (r.number = number.toNat)
    (number.toNat = 0 → exec (.collectSpill src tag number) s =
      .next (withMalformed s src 23 tag)) ∧
    (number.toNat ≠ 0 → ∃ t, exec (.collectSpill src tag number) s = .next t ∧
      (found = none → Answered s t src 23 tag [4, 0] ∧ t.spill = s.spill) ∧
      (∀ r, found = some r → r.state = .opened →
        Answered s t src 23 tag [5, 0] ∧ t.spill = s.spill) ∧
      (∀ r, found = some r → r.state ≠ .opened →
        Answered s t src 23 tag [0, 0] ∧
        t.spill = { s.spill with
          collectionOwed := false
          log := s.spill.log.map fun x =>
            if x.number = number.toNat ∧ r.state = .closed then { x with state := .collected }
            else x } ∧
        (t.alarm 25).condition = false) ∧
      outsideDrives
        { t with
          spill := s.spill
          transit := { t.transit with response := s.transit.response } } = outsideDrives s)

/-! ### Alarms and reports -/

/-- R154, R158, R159 and R185. A condition stated as it stands changes nothing. One that appears takes NORMAL and
RETURNED_UNACK to ACTIVE_UNACK, from NORMAL with the first-active time and one more activation; one that clears takes
ACTIVE_UNACK to RETURNED_UNACK and ACTIVE_ACK to NORMAL; else, and at priority 0, the condition field alone changes. A
change sets the last-change time, starts or stops the renotify timer and, where the entry is notified, brings its ALARM
notice, which meets the class in the event: shown by LOOP_STALL, whose appearing and clearing also bring the
annunciator's judgement. R155 and R157: acknowledging one entry, or all, takes ACTIVE_UNACK to ACTIVE_ACK and
RETURNED_UNACK to NORMAL with the last-change time, its renotify timer stopped and, of one entry, its notice, and leaves
every other entry; SILENCE sets the silence flag, under which FLASH_HORN is not derived. -/
def Obligations.AlarmsFollowConditionsAndAcknowledgements : Prop :=
  let isNotified := fun (s : State) (n : Nat) =>
    1 ≤ s.priority n ∧ s.priority n ≤ (s.alarmTable.map (·.threshold)).getD 2
  let told := fun (t : State) (n : Nat) =>
    let e := t.alarm n
    (⟨t.gateway,
      [1, BitVec.ofNat 8 n, BitVec.ofNat 8 e.state.code, BitVec.ofNat 8 (t.priority n),
        BitVec.ofNat 8 (e.condition.toNat + 2 * t.clock.set.toNat + 8 * e.firstActive.isSome.toNat +
          16 * e.lastChange.isSome.toNat)] ++
        u32 (e.firstActive.getD 0) ++ u32 (e.lastChange.getD 0) ++ [BitVec.ofNat 8 e.count],
      .notice .alarm n, 0⟩ : OwnFrame)
  (∀ (n : Nat) (present : Bool) (s : State), 1 ≤ n → n ≤ 73 → Shapes s →
    let t := stateCondition n present s
    let e := s.alarm n
    let next : AlarmState := match present, e.state with
      | true, .normal => .activeUnack
      | true, .returnedUnack => .activeUnack
      | false, .activeUnack => .returnedUnack
      | false, .activeAck => .normal
      | _, st => st
    (e.condition = present → t = s) ∧
    (e.condition ≠ present →
      (∀ k, 1 ≤ k → k ≤ 73 → k ≠ n → t.alarm k = s.alarm k) ∧
      outsideAlarms t = outsideAlarms s ∧
      (s.priority n = 0 ∨ next = e.state →
        t.alarm n = { e with condition := present } ∧
        t.alarms.silence = s.alarms.silence ∧ t.transit.outbox = s.transit.outbox) ∧
      (s.priority n ≠ 0 → next ≠ e.state →
        t.alarm n = {
          condition := present
          state := next
          firstActive := if e.state = .normal then some s.clockTime else e.firstActive
          lastChange := some s.clockTime
          count := if e.state = .normal then min 255 (e.count + 1) else e.count
          renotify :=
            if (next = .activeUnack ∨ next = .returnedUnack) ∧ isNotified s n ∧ s.priority n = 1 ∧
              (s.alarmTable.map (·.renotify)).getD 15 ≠ 0 then some s.now
            else none } ∧
        t.alarms.silence =
          (if next = .activeUnack ∧ s.priority n = 1 then false else s.alarms.silence) ∧
        t.transit.outbox = { s.transit.outbox with
          alarm := s.transit.outbox.alarm ++
            if isNotified s n then [(n, told t n)] else [] }))) ∧
  (∀ (c : Instr) (present : Bool) (s : State), s.on = true → Shapes s →
    s.transit.outbox = Outbox.empty →
    (c = .holdInReleased ∧ present = false) ∨
      (c = .stallTimerExpiry ∧ present = true ∧ s.loop.stallTimer.isSome = true ∧
        s.loop.loopStall = false) →
    let u := stateCondition 23 present s
    ∃ t, exec c s = .next t ∧
      t.alarms.entries = u.alarms.entries ∧ t.alarms.silence = u.alarms.silence ∧
      t.alarms.posted = some t.annMode ∧
      t.transit.notice =
        (if (u.alarm 23).state ≠ (s.alarm 23).state ∧ isNotified s 23 then metBy s (told u 23)
        else s.transit.notice) ∧
      t.seq = s.seq ∧ t.screens = s.screens ∧ t.arbiter = s.arbiter) ∧
  ∀ (src tag entry : Byte) (s : State), Taken s src .operate → Shapes s →
    (73 < entry.toNat → exec (.ackAlarm src tag entry) s =
      .next (withMalformed s src 21 tag)) ∧
    (entry.toNat ≤ 73 → ∃ t, exec (.ackAlarm src tag entry) s = .next t ∧
      (∀ n, 1 ≤ n → n ≤ 73 → t.alarm n =
        if entry.toNat = 0 ∨ entry.toNat = n then
          match (s.alarm n).state with
          | .activeUnack => { s.alarm n with
              state := .activeAck, lastChange := some s.clockTime, renotify := none }
          | .returnedUnack => { s.alarm n with
              state := .normal, lastChange := some s.clockTime, renotify := none }
          | _ => s.alarm n
        else s.alarm n) ∧
      t.alarms.silence = s.alarms.silence ∧ t.alarms.posted = some t.annMode ∧
      (1 ≤ entry.toNat → s.transit.outbox = Outbox.empty → t.transit.notice =
        if (t.alarm entry.toNat).state ≠ (s.alarm entry.toNat).state ∧ isNotified s entry.toNat then
          metBy s (told t entry.toNat)
        else s.transit.notice) ∧
      Answered s t src 21 tag [0, 0] ∧ t.seq = s.seq ∧ t.screens = s.screens ∧
      outsideDrives { t with transit := { t.transit with response := s.transit.response } } =
        outsideDrives s) ∧
    ∃ t, exec (.silence src tag) s = .next t ∧
      t.alarms.silence = true ∧ t.alarms.entries = s.alarms.entries ∧
      t.alarms.posted = some t.annMode ∧ t.annMode ≠ .flashHorn ∧
      Answered s t src 22 tag [0, 0] ∧ t.seq = s.seq ∧ t.screens = s.screens ∧
      outsideDrives { t with transit := { t.transit with response := s.transit.response } } =
        outsideDrives s

/-- R159, R161, R158 and R185: a renotify timer's expiry posts the entry's ALARM notice again with the repeat mark
and restarts the timer; a summary timer's expiry posts the SUMMARY of 24 characters and restarts its timer; nothing
else changes. R27: the notice joins the tail of the NOTICE class; a full class loses its oldest unsent ALARM notice
for it, or, holding none, the new one, and the loss is counted. -/
def Obligations.TimersPostTheirNotices : Prop :=
  ∀ s : State, s.on = true → s.transit.outbox = Outbox.empty →
    let meets := fun o : OwnFrame => { s.transit with
      notice := metBy s o
      count := { s.transit.count with noticesLost := lostAfterOne s } }
    (∀ n, 1 ≤ n → n ≤ 73 → (s.alarm n).renotify.isSome = true →
      let e := s.alarm n
      let marks := e.condition.toNat + 2 * s.clock.set.toNat + 4 + 8 * e.firstActive.isSome.toNat +
        16 * e.lastChange.isSome.toNat
      exec (.renotifyTimerExpiry n) s = .next { s with
        alarms := { s.alarms with
          entries := s.alarms.entries.set (n - 1) { e with renotify := some s.now } }
        transit := meets ⟨s.gateway,
          [1, BitVec.ofNat 8 n, BitVec.ofNat 8 e.state.code, BitVec.ofNat 8 (s.priority n),
            BitVec.ofNat 8 marks] ++ u32 (e.firstActive.getD 0) ++ u32 (e.lastChange.getD 0) ++
            [BitVec.ofNat 8 e.count],
          .notice .alarm n, 0⟩ }) ∧
    (s.report.summaryTimer.isSome = true → ∃ payload : List Byte, payload.length = 24 ∧
      payload = [4] ++ u32 s.clock.running ++ u32 s.clockTime ++ [if s.clock.set then 1 else 0] ++
        s16 s.flow.record.level ++ [BitVec.ofNat 8 s.flow.record.basis.code] ++
        u16 s.flow.record.qin.toNat ++
        [BitVec.ofNat 8 s.flow.record.qinQuality.code,
          BitVec.ofNat 8 (pumps.map fun p : Pump =>
            if s.feedbackActive p then 2 ^ (p.number - 1) else 0).sum,
          BitVec.ofNat 8 s.arbiter.supply.code,
          BitVec.ofNat 8 ((s.weir .w1).state.code + 4 * (s.weir .w2).state.code)] ++
        u16 (s.openNumber .w1) ++ u16 (s.openNumber .w2) ++ [BitVec.ofNat 8 s.unackCount] ∧
      exec .summaryTimerExpiry s = .next { s with
        report := ⟨some s.now⟩
        transit := meets ⟨s.gateway, payload, .notice .summary 0, 0⟩ })

/-! ### Entry to AUTOMATIC, the store, power and starts -/

/-- R175, R89 and R126: at the settling timer's expiry the station is AUTOMATIC and each drive is placed. An
installed pump in AUTO is TRIPPED with a latch, adopted with its feedback active (shed at once where the slots
do not bear it) and never entered in its history, else IDLE; a rake in AUTO is JAMMED with a latch, else IDLE,
or waiting where its request is called for; OFF has STOP posted; a drive in HAND is left alone. The law of the
slot record stands and the power-return timer runs. -/
def Obligations.EveryDriveIsPlacedAtEntryToAutomatic : Prop :=
  ∀ s : State, s.on = true → Settled s → ModesTrue s → RunOrderTrue s →
    s.tables.settling.isSome = true →
    ∃ t, exec .settlingTimerExpiry s = .next t ∧
      t.tables = { s.tables with mode := .automatic, settling := none } ∧ SlotLaw t ∧
      t.arbiter.powerReturn = (if s.powerReturnTime = 0 then .expired else .running s.now) ∧
      (∀ p, (t.pump p).history = (s.pump p).history ∧
        (s.installed p = false → t.pump p = s.pump p) ∧
        (s.installed p = true →
          let mode := if (s.pump p).selector = .auto then (s.pump p).mgmt else (s.pump p).selector
          (mode = .hand → t.pump p = s.pump p) ∧
          (mode = .off → (t.pump p).state = .off ∧ Posted t (.pump p) .stop) ∧
          (mode = .auto → (s.pump p).latch.isSome = true →
            (t.pump p).state = .tripped ∧ Posted t (.pump p) .stop) ∧
          (mode = .auto → (s.pump p).latch = none → s.feedbackActive p = false →
            (t.pump p).state = .idle ∧ Posted t (.pump p) .stop) ∧
          (mode = .auto → (s.pump p).latch = none → s.feedbackActive p = true →
            (((t.pump p).state = .running ∧ (t.pump p).command = .run ∧
                (t.pump p).minRun = some s.now) ∨
              ((t.pump p).state = .stopping ∧ (t.pump p).command = .stop)) ∧
            (s.loose ≤ s.capacity → s.powerReturnTime ≠ 0 →
              (t.pump p).state = .running ∧ Posted t (.pump p) .run)))) ∧
      (∀ r, (t.rake r).cycles = (s.rake r).cycles ∧
        ((s.inService r = false ∨ (s.rake r).mgmt = .hand) → t.rake r = s.rake r) ∧
        (s.inService r = true → (s.rake r).mgmt = .off →
          (t.rake r).state = .off ∧ Posted t (.rake r) .stop) ∧
        (s.inService r = true → (s.rake r).mgmt = .auto → (s.rake r).latch.isSome = true →
          (t.rake r).state = .jammed ∧ Posted t (.rake r) .stop) ∧
        (s.inService r = true → (s.rake r).mgmt = .auto → (s.rake r).latch = none →
          s.powerReturnTime ≠ 0 →
          (t.rake r).state = (if s.rakeCalled r then .waitSlot else .idle) ∧
          Posted t (.rake r) .stop)) ∧
      outsideDrives { t with tables := s.tables } = outsideDrives s

/-- R173: at a write completion the image stands in the store, intact where it reads back agreeing, else failing
with the table's mark set, the failure counted and STORE_FAULT present; the oldest queued write starts either
way, and the active copies stand. Without a write in progress the store stands (log 4). -/
def Obligations.WriteCompletionJudgesTheImage : Prop :=
  ∀ s : State, s.on = true → Shapes s →
    (∀ (agrees : Bool) (x : TableId) (image : List Byte), s.tables.writing = some (x, image) →
      ∃ t, exec (.writeCompletion agrees) s = .next t ∧
        t.tables = { s.tables with
          stored := s.tables.stored.set x (if agrees then .intact image else .failing)
          writing := s.tables.queue.head?
          queue := s.tables.queue.tail
          marks := if agrees then s.tables.marks else s.tables.marks.set x true
          writeFailures :=
            if agrees then s.tables.writeFailures else min 65535 (s.tables.writeFailures + 1) } ∧
        (agrees = false → (t.alarm 24).condition = true) ∧ t.seq = s.seq ∧
        t.screens = s.screens ∧ outsideDrives { t with tables := s.tables } = outsideDrives s) ∧
    ∀ agrees, s.tables.writing = none → ∃ t, exec (.writeCompletion agrees) s = .next t ∧
      t.tables = s.tables ∧ t.seq = s.seq ∧ outsideDrives t = outsideDrives s

/-- R176, R162 and R173: at reset and at a loss of main power the write in progress leaves its image failing and the
queued writes are lost, all else being held; a start waits for main power and the reset input both (logs 2 and 4);
while it is held no command acts but those of power, reset, the second's count and the Hold In level; the running
seconds rise in every state of power. -/
def Obligations.PowerAndResetHoldTheController : Prop :=
  (∀ s : State,
    let held := { s.tables with
      stored := (match s.tables.writing with
        | some (x, _) => s.tables.stored.set x .failing
        | none => s.tables.stored)
      writing := none
      queue := [] }
    exec .resetAsserted s =
      .next { s with chip := { s.chip with resetLow := true }, tables := held } ∧
    exec .mainPowerLost s =
      .next { s with chip := { s.chip with mainPower := false }, tables := held } ∧
    exec .runningSeconds s = .next { s with
      clock := { s.clock with running := min 4294967295 (s.clock.running + 1) }
      chip := { s.chip with uptime := s.chip.uptime + 1, millis := 0 } }) ∧
  (∀ (addr : Byte) (rate : BitVec 2) (kept : Bool) (s : State),
    (s.chip.resetLow = true → exec (.powerUp addr rate kept) s = .next { s with
      chip := { s.chip with mainPower := true, checkAgrees := s.chip.checkAgrees && kept } }) ∧
    (s.chip.mainPower = false → exec (.resetRelease addr rate) s =
      .next { s with chip := { s.chip with resetLow := false } }) ∧
    (s.restartReady = false → exec (.restartBegin addr rate) s = .next s)) ∧
  ∀ (c : Instr) (s : State), s.on = false → c.wellFormed = true →
    (match c with
    | .powerUp _ _ _ => False
    | .resetRelease _ _ => False
    | .resetAsserted => False
    | .mainPowerLost => False
    | .runningSeconds => False
    | .holdInAsserted => False
    | .holdInReleased => False
    | _ => True) → exec c s = .next s

/-- R176 and R177 with R1, R96, R106, R108, R121, R136, R152, R153, R162 and R164: a start whose check word agrees
keeps the retained fields and sets every other to its start value (Started, field by field), the straps read, the
tables restored from the store. An alarm's activation count is kept, and rises by one where its condition is present
from the start and enabled. A weir with an open record is SPILLING again, with SPILL present, where it is defined and
its level role present; else its record is flagged TABLE_CHANGED and closed at the start, SPILL_CLOSE posted, also
where no STATION table was restored, and SPILL is not raised for it (the model's reading, log 50); an ONSET is lost.
In Started three points are the model's: the standing record's wet-well reading (R73 against R59, log 37), the counter
of notices lost, which counts the start's own notices beyond eight (log 34), and a rake's cause of suspicion, TRAVEL
(log 1). -/
def Obligations.WarmStartKeepsTheRetainedFields : Prop :=
  ∀ (c : Instr) (addr : Byte) (rate : BitVec 2) (s : State),
    (c = .powerUp addr rate true ∧ s.chip.resetLow = false) ∨
      (c = .resetRelease addr rate ∧ s.chip.mainPower = true) ∨
      (c = .restartBegin addr rate ∧ s.on = true ∧ s.restartReady = true) →
    s.chip.checkAgrees = true →
    let spills := fun w : Weir => (s.weir w).state = .spilling ∨ (s.weir w).state = .receding
    let closed := fun r : SpillRec =>
      { r with
        state := .closed
        ending := some ⟨s.clockTime, s.clock.running, s.clock.running - r.startRunning⟩
        flags := { r.flags with tableChanged := true } }
    ∃ t, exec c s = .next t ∧
      (let stays := fun w : Weir => (t.weirDef w).isSome = true ∧ (t.role fun x => x.weirLevel.get w).isSome = true
      let gone := fun r : SpillRec => r.state = .opened ∧ spills r.weir ∧ ¬stays r.weir
      Started
        (weirs.flatMap fun w => ((s.spill.log.find? fun r => decide (r.weir = w ∧ gone r)).map fun r =>
          spillNotice t .spillClose [3] (closed r)).toList) t ∧
      (∀ w, t.weir w =
        if spills w ∧ stays w then { WeirRec.dry with state := .spilling } else WeirRec.dry) ∧
      (s.alarms.entries.length = 73 → ∀ w, (t.alarm (match w with
        | .w1 => 17
        | .w2 => 18)).condition = decide (spills w ∧ stays w)) ∧
      t.spill.log = s.spill.log.map fun r => if gone r then closed r else r) ∧
      t.chip.rate = rate ∧ t.chip.holdIn = s.chip.holdIn ∧
      t.chip.ownAddress = (if 1 ≤ addr.toNat ∧ addr.toNat ≤ 239 then addr else 239) ∧
      (∀ p, (t.pump p).mgmt = (s.pump p).mgmt ∧ (t.pump p).latch = (s.pump p).latch ∧
        (t.pump p).history = (s.pump p).history ∧ (t.pump p).runSeconds = (s.pump p).runSeconds) ∧
      (s.seq.duty.Perm t.installedPumps → t.seq.duty = s.seq.duty) ∧
      (∀ r, (t.rake r).mgmt = (s.rake r).mgmt ∧ (t.rake r).latch = (s.rake r).latch ∧
        (t.rake r).cycles = (s.rake r).cycles) ∧
      t.flow.totals = s.flow.totals ∧ t.clock = s.clock ∧ t.tables.wanted = s.tables.wanted ∧
      t.spill.nextNumber = s.spill.nextNumber ∧ t.spill.lostCount = s.spill.lostCount ∧
      t.spill.lossToFlag = s.spill.lossToFlag ∧
      t.spill.collectionOwed = s.spill.collectionOwed ∧
      (s.alarms.entries.length = 73 → ∀ n, 1 ≤ n → n ≤ 73 → (t.alarm n).count =
        if (t.alarm n).condition = true ∧ t.priority n ≠ 0 then min 255 ((s.alarm n).count + 1)
        else (s.alarm n).count) ∧
      (s.tables.writing = none → t.tables.stored = s.tables.stored) ∧
      ∀ x image, s.tables.writing = some (x, image) →
        t.tables.stored = s.tables.stored.set x .failing ∧ t.tableActive x = false

/-- R176 with R1, R96, R106, R108, R121, R136, R152 and R162: the straps are read; where the check word disagrees, or
the backup supply failed, every retained field takes its cold value: modes AUTO, no latch, no history, figures 0, the
log empty with LOG_LOSS present, the clock UNSET at 0, AUTOMATIC wanted, the activation counts 0 but for the
conditions present from the start (R153, R164); the tables are restored from the store all the same. What
stands in Started rests on the model's readings of logs 37 (the wet-well reading), 34 (notices lost) and 1 (a rake's
cause of suspicion). -/
def Obligations.ColdStartSetsTheColdValues : Prop :=
  ∀ (c : Instr) (addr : Byte) (rate : BitVec 2) (s : State), Shapes s →
    (c = .powerUp addr rate false ∧ s.chip.resetLow = false) ∨
      (s.chip.checkAgrees = false ∧
        ((c = .powerUp addr rate true ∧ s.chip.resetLow = false) ∨
          (c = .resetRelease addr rate ∧ s.chip.mainPower = true) ∨
          (c = .restartBegin addr rate ∧ s.on = true ∧ s.restartReady = true))) →
    ∃ t, exec c s = .next t ∧ Started [] t ∧
      t.chip.rate = rate ∧
      t.chip.ownAddress = (if 1 ≤ addr.toNat ∧ addr.toNat ≤ 239 then addr else 239) ∧
      (∀ p, (t.pump p).mgmt = .auto ∧ (t.pump p).latch = none ∧ (t.pump p).history = [] ∧
        (t.pump p).runSeconds = 0) ∧
      t.seq.duty = t.installedPumps ∧
      (∀ r, (t.rake r).mgmt = .auto ∧ (t.rake r).latch = none ∧ (t.rake r).cycles = 0) ∧
      t.flow.totals = ⟨0, 0, 0, 0, 0, 0⟩ ∧ t.clock = ⟨0, 0, false⟩ ∧
      t.tables.wanted = .automatic ∧ t.spill = Spill.cold ∧ (t.alarm 25).condition = true ∧
      (∀ p : Pump, (t.alarm p.number).condition = false) ∧
      (∀ n, 1 ≤ n → n ≤ 73 → (t.alarm n).count =
        if (t.alarm n).condition = true ∧ t.priority n ≠ 0 then 1 else 0) ∧
      ∀ x, t.tableActive x = true → ∃ image, s.tables.stored.get x = .intact image ∧
        t.activeImage x = some image

/-! ### Requests -/

/-- R21, R166 and R178: a request from an unlisted source is dropped and counted; with no room in the RESPONSE
class it is shed and counted; below its permission it is DENIED, counted, and changes nothing else; otherwise it
brings exactly one response, addressed to its source, with its code and tag, within one frame. The command is
the MANAGE frame of that request meeting intake (log 6). -/
def Obligations.RequestIsAnsweredOnce : Prop :=
  ∀ (c : Instr) (src tag : Byte) (r : Request) (need : Permission) (s : State),
    requestOf c = some (src, tag, r) → permissionOfCode r.code = some need → s.on = true →
    (s.permission src = none → exec c s = .next { s with transit := { s.transit with
      count := { s.transit.count with unlisted := min 65535 (s.transit.count.unlisted + 1) } } }) ∧
    (∀ held, s.permission src = some held →
      (s.responseFull = true → exec c s = .next { s with transit := { s.transit with
        count := { s.transit.count with shed := min 65535 (s.transit.count.shed + 1) } } }) ∧
      (s.responseFull = false → held.covers need = false →
        exec c s = .next { withReply s src r.code tag [1, 0] with
          handler := { s.handler with denied := min 65535 (s.handler.denied + 1) } }) ∧
      (s.responseFull = false → held.covers need = true →
        ∃ t o, exec c s = .next t ∧ t.transit.response = s.transit.response ++ [o] ∧
          o.dest = some src ∧ o.payload.take 2 = [r.code, tag] ∧ 4 ≤ o.payload.length ∧
          o.payload.length ≤ 40)) ∧
    ∀ seq : Byte, s.loop.handed = [] → s.loop.holdOut = .released → src ≠ s.chip.ownAddress →
      validAddress src = true → validAddress s.chip.ownAddress = true →
      (r.payload tag).length ≤ 40 →
      exec (.frameReceived ⟨s.chip.ownAddress, src, 3, seq, r.payload tag⟩) s = exec c s

/-- R182 and R183: a request's code and parameter characters spell that request, for every value of every operand
(a segment of at most 32 characters, a part index of at most 15), and one whose part index is above 15 spells none;
every request code has a permission. -/
def Obligations.RequestCharactersSpellTheRequest : Prop :=
  ∀ r : Request, (∀ table index data, r = .tableSegment table index data → data.length ≤ 32) →
    ((∀ i, partIndex r = some i → i.toNat ≤ 15) → parseParams r.code r.params = some r) ∧
    ((∃ i, partIndex r = some i ∧ 15 < i.toNat) → parseParams r.code r.params = none) ∧
    (permissionOfCode r.code).isSome = true ∧ r.params.length ≤ 38

/-- R167, R178, R56, R107, R135, R59, R163, R149, R169 and R183: what each read answers, the part named of the
data image formed whole from the state (its choices: log 16; what READ_STATUS carries besides R167's list: log 18);
MALFORMED for what it names outside its range, a part above 15 before all else, NOT_FOUND for what does not exist;
no other effect. The characters of every image in the order of its fields, and their number; READ_PUMP's has a mark
for each of eight sources (the model's reading of R109, log 17), so that it has 39. A field that may be absent is its
presence character and zeros, or its characters. -/
def Obligations.ReadsAnswerTheirImages : Prop :=
  (∀ s : State,
    let r := s.flow.record
    let weir := fun x : WeirFlow => (match x.head with
      | none => [0, 0, 0, 0]
      | some h => [1] ++ s16 h ++ [if x.usable then 1 else 0] : List Byte)
    s.flowImage = u32 r.running ++
      (match r.wetWell with
        | none => [0, 0, 0, 0]
        | some (v, q) => [1] ++ s16 v ++ [BitVec.ofNat 8 q.code]) ++
      s16 r.level ++ [BitVec.ofNat 8 r.basis.code] ++
      (match r.volume with
        | none => [0, 0, 0, 0, 0]
        | some v => [1] ++ u32 v.toNat) ++
      (match r.head with
        | none => [0, 0, 0, 0, 0]
        | some x => [1] ++ u16 x.value.toNat ++
            [BitVec.ofNat 8 x.discharge.code, BitVec.ofNat 8 x.well.code]) ++
      pumps.flatMap (fun p => u16 (r.flows.get p).toNat) ++ u16 r.total.toNat ++
      weir r.weirs.w1 ++ weir r.weirs.w2 ++ u16 r.weirs.w1.flow.toNat ++ u16 r.weirs.w2.flow.toNat ++
      u16 r.qin.toNat ++ [BitVec.ofNat 8 r.qinQuality.code] ++
      pumps.flatMap (fun p => u32 (s.flow.totals.get p)) ++
      [BitVec.ofNat 8 s.flow.ring.length] ∧
    (∀ (n : Nat) (enc : Nat → List Byte), maybe n enc none = List.replicate (n + 1) 0 ∧
      ∀ v, maybe n enc (some v) = 1 :: enc v) ∧
    (let table := fun x : TableId => flag (s.tableActive x) ++ u8 (s.tables.shadows.get x).code ++
        flag (s.tables.marks.get x) ++ u8 (s.tables.outcomes.get x).code
    let bits := fun (p : Pump → Bool) (r : Side → Bool) => u8 (
      (pumps.map fun q => if p q then 2 ^ (q.number - 1) else 0).sum +
        (if r .a then 64 else 0) + if r .b then 128 else 0)
    let order := fun l : List Pump => u8 l.length ++ l.map fun q => BitVec.ofNat 8 q.number
    s.statusImage = [s.chip.ownAddress] ++ u8 s.chip.rate.toNat ++ u8 s.tables.mode.code ++
      u8 s.tables.wanted.code ++ maybe 1 u8 (s.tables.settling.map fun since => 10 - (s.now - since)) ++
      tableIds.flatMap table ++ flag s.tables.writing.isSome ++ u8 s.tables.queue.length ++
      u8 s.loopHealth.code ++ u8 s.arbiter.supply.code ++ u8 s.capacity ++
      bits (fun p => (s.pump p).state.granted) (fun r => (s.rake r).state.granted) ++
      bits (fun p => decide (p ∈ s.loosePumps)) (fun r => decide (r ∈ s.looseRakes)) ++
      u8 s.freeSlots ++ u8 s.seq.demand.d ++ u8 s.seq.demand.reason.code ++
      u8 s.seq.demand.uncapped ++ maybe 1 u8 s.seq.demand.cap ++ u8 s.committed ++
      u8 s.seq.engaged.length ++ s.seq.engaged.flatMap flag ++ order s.seq.duty ++ order s.seq.run ++
      u32 s.clock.running ++ u32 s.clockTime ++ flag s.clock.set ++ u8 s.unackCount ++
      flag s.handler.restart.isSome ++ u8 (s.weir .w1).state.code ++ u8 (s.weir .w2).state.code) ∧
    (∀ n, s.pointEntry n = u8 n ++
      (match s.pointDef n with
      | none => [0, 0, 0, 0, 0, 0, 0, 0, 0, 0, 0]
      | some d =>
        let r := s.pointRec n
        [1, 1] ++ u8 d.cls.code ++ s16 r.value ++ u8 r.quality.code ++ u16 r.age ++
          maybe 2 s16 (r.accepted.map Prod.fst))) ∧
    (∀ first count, first ≤ 47 → s.pointImage first count = u8 (min count (48 - first)) ++
      (List.range (min count (48 - first))).flatMap fun i => s.pointEntry (first + i)) ∧
    (∀ p, let r := s.pump p
      let left := fun (w : Nat) (enc : Nat → List Byte) (length : PumpEntry → Nat)
          (timer : Option Nat) =>
        maybe w enc (timer.bind fun since =>
          let n := ((s.pumpEntry p).map length).getD 0
          if w = 2 ∧ n ≤ s.now - since then none else some (n - (s.now - since)))
      s.pumpImage p = flag (s.installed p) ++ u8 r.mgmt.code ++ u8 r.selector.code ++
        u8 r.state.mode.code ++ u8 r.state.code ++ maybe 1 (fun c => u8 (FaultSource.code c)) r.latch ++
        [r.command.code] ++ flag r.confirmed ++ left 2 u16 (·.minRun) r.minRun ++
        left 2 u16 (·.minOff) r.minOff ++ left 1 u8 (·.startConfirm) r.startConfirm ++
        left 1 u8 (·.stopConfirm) r.stopConfirm ++ u8 (s.startCount p) ++
        maybe 1 u8 ((s.pumpEntry p).map (·.startLimit)) ++ u32 r.runSeconds ++
        maybe 1 u8 (placeIn s.seq.duty p) ++ maybe 1 u8 (placeIn s.seq.run p) ++
        flag r.sources.f1 ++ flag r.sources.f2 ++ flag r.sources.f3 ++ flag r.sources.overcurrent ++
        flag r.sources.uncommandedStop ++ flag r.sources.commandLost ++ flag r.sources.failToStart ++
        flag (s.sourcePresent p .failToStop) ++ u8 r.uncommanded) ∧
    (∀ x, let v := s.rake x
      let waits := decide (v.state = .waitSlot)
      let left := fun (w : Nat) (enc : Nat → List Byte) (length : ScreenDef → Nat)
          (timer : Option Nat) =>
        maybe w enc (timer.map fun since =>
          ((s.screenDef x).map length).getD 0 - (s.now - since))
      s.rakeImage x = flag (s.screenDef x).isSome ++ flag (s.inService x) ++ u8 v.mgmt.code ++
        u8 v.state.mode.code ++ u8 v.state.code ++ maybe 1 (fun c => u8 (JamCause.code c)) v.latch ++
        u8 v.attempts ++ flag v.parkSeen ++ [v.command.code] ++ flag v.confirmed ++ flag v.lost ++
        left 2 u16 (·.travelLimit) v.travel ++ left 1 u8 (·.reverseTime) v.reverse ++
        left 1 u8 (·.jamDelay) v.jam ++ u32 v.interval ++ u32 v.cycles ++
        flag (s.screen x).differential.isSome ++ maybe 2 s16 (s.screen x).differential ++
        flag (s.screen x).blinded ++ flag waits ++ flag (waits && (s.screen x).blinded)) ∧
    (∀ n, let e := s.alarm n
      s.alarmRecord n = u8 n ++ u8 (s.priority n) ++ flag e.condition ++ u8 e.state.code ++
        maybe 4 u32 e.firstActive ++ maybe 4 u32 e.lastChange ++ u8 e.count ++
        flag e.renotify.isSome) ∧
    (∀ first count, 1 ≤ first → first ≤ 73 →
      s.alarmImage first count = u8 (min count (74 - first)) ++
        ((List.range (min count (74 - first))).flatMap fun i => s.alarmRecord (first + i)) ++
        [s.annMode.code] ++ maybe 1 (fun m => [AnnMode.code m]) s.alarms.posted ++
        flag s.alarms.confirmed ++ flag s.alarms.silence ++ u8 s.unackCount) ∧
    (∀ r : SpillRec, r.chars = u16 r.number ++ u8 r.weir.number ++ u8 r.state.code ++
      u32 r.startClock ++ u32 r.startRunning ++
      (match r.ending with
        | none => List.replicate 12 0
        | some e => u32 e.clock ++ u32 e.running ++ u32 e.duration) ++
      s16 r.peak ++ u32 r.volume ++ u8 r.flags.char) ∧
    s.flowImage.length = 75 ∧
    s.statusImage.length = 76 + s.seq.engaged.length + s.seq.duty.length + s.seq.run.length ∧
    (∀ first count, first ≤ 47 → (s.pointImage first count).length = 1 + 12 * min count (48 - first)) ∧
    (∀ p, (s.pumpImage p).length = 39) ∧ (∀ x, (s.rakeImage x).length = 34) ∧
    (∀ first count, 1 ≤ first → first ≤ 73 →
      (s.alarmImage first count).length = 7 + 16 * min count (74 - first)) ∧
    ∀ x, (s.spillImage x).length = 36) ∧
  ∀ (src tag : Byte) (part : Option Byte) (s : State), Taken s src .view →
    exec (.readStatus src tag part) s = .next (withData s src 1 tag s.statusImage part) ∧
    exec (.readFlow src tag part) s = .next (withData s src 6 tag s.flowImage part) ∧
    (∀ g : Byte, exec (.readCounters src tag g part) s = .next
      (let c := s.loop.line
      let n := s.transit.count
      let foreign := fun a : Actuator =>
        ((s.transit.gate.find? fun e => decide (e.drive = a)).map (·.foreignCount)).getD 0
      match g.toNat with
      | 0 => withData s src 2 tag ([c.goodFrames, c.stray, c.markerAborts, c.lengthErrors,
          c.checkErrors, c.malformed, c.parityErrors, c.framingErrors, c.gapAborts, c.breakAborts,
          c.breaks, c.longBreaks, c.lostToBreak].flatMap u16) part
      | 1 => withData s src 2 tag ([n.orphans, n.contentErrors, foreign (.pump .p1),
          foreign (.pump .p2), foreign (.pump .p3), foreign (.pump .p4), foreign (.pump .p5),
          foreign (.pump .p6), foreign (.rake .a), foreign (.rake .b), foreign .annunciator,
          n.unlisted, n.shed, n.timeRefused, n.overflow, n.noticesLost, n.strayOwn, n.retries,
          n.undelivered, n.unconfirmed, n.givenUp].flatMap u16) part
      | 2 => withData s src 2 tag (u16 s.points.rejected ++ u16 s.points.toUndefined) part
      | 3 => withData s src 2 tag (u16 s.spill.falseOnsets.w1 ++ u16 s.spill.falseOnsets.w2) part
      | 4 => withData s src 2 tag (u16 s.handler.denied ++ u16 s.handler.malformed ++
          u16 s.tables.refused ++ u16 s.tables.writeFailures) part
      | _ => withMalformed s src 2 tag)) ∧
    (∀ first count : Byte, exec (.readPoint src tag first count part) s = .next
      (if first.toNat ≤ 47 ∧ 1 ≤ count.toNat ∧ count.toNat ≤ 8 then
        withData s src 3 tag (s.pointImage first.toNat count.toNat) part
      else withMalformed s src 3 tag)) ∧
    (∀ number : Byte,
      (∀ p : Pump, p.number = number.toNat → exec (.readPump src tag number part) s =
        .next (withData s src 4 tag (s.pumpImage p) part)) ∧
      (number.toNat = 0 ∨ 6 < number.toNat → exec (.readPump src tag number part) s =
        .next (withMalformed s src 4 tag))) ∧
    (∀ drive : Byte, exec (.readRake src tag drive part) s = .next
      (match drive.toNat with
      | 7 => withData s src 5 tag (s.rakeImage .a) part
      | 8 => withData s src 5 tag (s.rakeImage .b) part
      | _ => withMalformed s src 5 tag)) ∧
    (∀ first count : Byte, exec (.readAlarms src tag first count part) s = .next
      (if 1 ≤ first.toNat ∧ first.toNat ≤ 73 ∧ 1 ≤ count.toNat ∧ count.toNat ≤ 8 then
        withData s src 7 tag (s.alarmImage first.toNat count.toNat) part
      else withMalformed s src 7 tag)) ∧
    (∀ (form : Byte) (number : BitVec 16),
      let named := if form.toNat = 0 then s.spill.log.find? fun r => decide (r.number = number.toNat)
        else if number.toNat = 0 then s.spill.log.head? else nextAfter number.toNat s.spill.log
      exec (.readSpill src tag form number part) s = .next
        (if 1 < form.toNat ∨ (form.toNat = 0 ∧ number.toNat = 0) then withMalformed s src 8 tag
        else match named with
          | none => withNotFound s src 8 tag part
          | some r => withData s src 8 tag (r.chars ++ u8 s.spill.log.length ++
              u16 s.spill.nextNumber ++ u16 s.spill.lostCount) part)) ∧
    ∀ (table copy index : Byte),
      (tableOfCode table = none ∨ 1 < copy.toNat →
        exec (.readTable src tag table copy index part) s = .next (withMalformed s src 9 tag)) ∧
      ∀ x, tableOfCode table = some x →
        let reads := fun image : List Byte => exec (.readTable src tag table copy index part) s =
          .next (withData s src 9 tag image part)
        let notFound := exec (.readTable src tag table copy index part) s =
          .next (withNotFound s src 9 tag part)
        let i := index.toNat
        (copy.toNat = 0 →
          (s.activeImage x = none → notFound) ∧
          ∀ image, s.activeImage x = some image →
            let n := (image.length + 31) / 32
            let g := (image.drop (32 * i)).take 32
            let check := crc image
            (n ≤ i → notFound) ∧
            (i < n → reads ([BitVec.ofNat 8 g.length] ++ g ++
              [BitVec.ofNat 8 n, 1, BitVec.ofNat 8 (check.toNat / 256), BitVec.ofNat 8 check.toNat]))) ∧
        (copy.toNat = 1 →
          let shadow := fun (n : Nat) (g : List Byte) =>
            [BitVec.ofNat 8 g.length] ++ g ++ [BitVec.ofNat 8 n, 0, 0, 0]
          match s.tables.shadows.get x with
          | .empty => notFound
          | .loading gs =>
            (∀ g, gs[i]? = some (some g) → reads (shadow gs.length g)) ∧
            ((∀ g, gs[i]? ≠ some (some g)) → notFound)
          | .waiting gs _ =>
            (∀ g, gs[i]? = some g → reads (shadow gs.length g)) ∧ (gs[i]? = none → notFound))

/-- R86 to R88, R125 and R126: SET_DRIVE_MODE keeps the mode named, and the effective mode is judged afresh: the
selector before the management mode for a pump in AUTOMATIC, HAND outside it. A drive entering OFF has STOP
posted; one entering HAND has its command withdrawn and has left the run order. Codes that do not exist are
MALFORMED, a pump not installed or a rake not in service NOT_FOUND. -/
def Obligations.SetDriveModeJudgesTheEffectiveMode : Prop :=
  ∀ (src tag drive mode : Byte) (s : State), Taken s src .operate → Settled s →
    (drive.toNat = 0 ∨ 8 < drive.toNat ∨ 2 < mode.toNat →
      exec (.setDriveMode src tag drive mode) s = .next (withMalformed s src 16 tag)) ∧
    (∀ (p : Pump) (m : Mode), drive.toNat = p.number → modeOfCode mode = some m →
      (s.installed p = false → exec (.setDriveMode src tag drive mode) s =
        .next (withReply s src 16 tag [4, 0])) ∧
      (s.installed p = true → RunOrderTrue s →
        ∃ t, exec (.setDriveMode src tag drive mode) s = .next t ∧
          Answered s t src 16 tag [0, 0] ∧ (t.pump p).mgmt = m ∧
          (t.pump p).state.mode = (if s.automatic then
            (match (s.pump p).selector with
            | .off => .off
            | .hand => .hand
            | .auto => m)
          else .hand) ∧
          ((s.pump p).state.mode ≠ .off → (t.pump p).state = .off →
            (t.pump p).command = .stop ∧ Posted t (.pump p) .stop) ∧
          ((s.pump p).state.mode ≠ .hand → (t.pump p).state = .hand →
            t.transit.actuator.any (OwnFrame.isFor (.pump p)) = false) ∧
          ((t.pump p).state.mode ≠ .auto → p ∉ t.seq.run) ∧
          outsideDrives
            { t.setPump p { t.pump p with mgmt := (s.pump p).mgmt } with
              transit := { t.transit with response := s.transit.response } } = outsideDrives s)) ∧
    ∀ (r : Side) (m : Mode), drive.toNat = (match r with
        | .a => 7
        | .b => 8) → modeOfCode mode = some m →
      (s.inService r = false → exec (.setDriveMode src tag drive mode) s =
        .next (withReply s src 16 tag [4, 0])) ∧
      (s.inService r = true → ∃ t, exec (.setDriveMode src tag drive mode) s = .next t ∧
        Answered s t src 16 tag [0, 0] ∧ (t.rake r).mgmt = m ∧
        (t.rake r).state.mode = (if s.automatic then m else .hand) ∧
        ((s.rake r).state.mode ≠ .off → (t.rake r).state = .off →
          (t.rake r).command = .stop ∧ Posted t (.rake r) .stop) ∧
        ((s.rake r).state.mode ≠ .hand → (t.rake r).state = .hand →
          t.transit.actuator.any (OwnFrame.isFor (.rake r)) = false) ∧
        ((s.rake r).state.mode = .auto → (t.rake r).state.mode ≠ .auto →
          (t.rake r).attempts = 0 ∧ (t.rake r).travel = none ∧ (t.rake r).reverse = none ∧
          (t.rake r).jam = none ∧ (t.rake r).parkSeen = false ∧
          (t.rake r).latch = (s.rake r).latch ∧ (t.rake r).cycles = (s.rake r).cycles) ∧
        outsideDrives
          { t.setRake r { t.rake r with mgmt := (s.rake r).mgmt } with
            transit := { t.transit with response := s.transit.response } } = outsideDrives s)

/-- R118, R119, R127 and R133: RESET_DRIVE of a pump is BAD_STATE while a latching source other than
FAIL_TO_START stands, else clears the latch with FAIL_TO_START and FAIL_TO_STOP, and takes a TRIPPED pump to
HELD, STOPPING or IDLE; with no latch and COMMAND_LOST present the current command is posted again, in every state
of a mode other than HAND (the grant pass of the event, log 11, may then post another). Of a rake it
clears the jam latch, and a JAMMED rake leaves JAMMED. RAKE_NOW gives a rake in IDLE a request, granted in the
event where the arbiter can; in WAIT_SLOT, RAKING and REVERSING it is DONE; in JAMMED or outside AUTO it is
BAD_STATE. What does not exist is MALFORMED or NOT_FOUND, with no effect; RAKE_NOW of a pump's code is MALFORMED
(the model's choice, log 16). -/
def Obligations.ResetDriveAndRakeNowMoveTheirDrives : Prop :=
  (∀ (src tag drive : Byte) (s : State), Taken s src .operate → Settled s → Shapes s →
    (drive.toNat = 0 ∨ 8 < drive.toNat →
      exec (.resetDrive src tag drive) s = .next (withMalformed s src 17 tag)) ∧
    (∀ p : Pump, drive.toNat = p.number →
      (s.installed p = false →
        exec (.resetDrive src tag drive) s = .next (withReply s src 17 tag [4, 0])) ∧
      (s.installed p = true → (s.pump p).latch.isSome = true →
        (∃ f ∈ s.latchingSources p, f ≠ .failToStart) →
        exec (.resetDrive src tag drive) s = .next (withReply s src 17 tag [3, 0])) ∧
      (s.installed p = true → (s.pump p).latch.isSome = true →
        (∀ f ∈ s.latchingSources p, f = .failToStart) →
        ∃ t, exec (.resetDrive src tag drive) s = .next t ∧ Answered s t src 17 tag [0, 0] ∧
          (t.pump p).latch = none ∧ (t.pump p).sources.failToStart = false ∧
          (t.pump p).sources.failToStopRaised = false ∧ (t.alarm p.number).condition = false ∧
          ((s.pump p).state = .tripped → (t.pump p).state =
            if s.holdStop p then .held
            else if s.feedbackActive p then .stopping else .idle) ∧
          ((s.pump p).state.mode ≠ .auto → (t.pump p).state = (s.pump p).state) ∧
          outsideDrives { t with transit := { t.transit with response := s.transit.response } } =
            outsideDrives s) ∧
      (s.installed p = true → (s.pump p).latch = none →
        ∃ t, exec (.resetDrive src tag drive) s = .next t ∧ Answered s t src 17 tag [0, 0] ∧
          (t.pump p).latch = none ∧ (t.pump p).sources = (s.pump p).sources ∧
          ((s.pump p).sources.commandLost = true → (s.pump p).state.mode ≠ .hand →
            (t.pump p).confirmed = false ∧ Posted t (.pump p) (t.pump p).command ∧
            ((s.pump p).state = .held ∨ (s.pump p).state = .off ∨ (s.pump p).state = .tripped ∨
                (s.pump p).state = .idle ∨ (s.pump p).state = .stopping ∨
                (s.overOccupied = false ∧ (∀ r, (s.rake r).state ≠ .waitSlot) ∧
                  (s.pump p).state ≠ .startWait) →
              t.pump p = { s.pump p with confirmed := false })) ∧
          ((s.pump p).sources.commandLost = false ∨ (s.pump p).state.mode = .hand →
            s.overOccupied = false → (∀ r, (s.rake r).state ≠ .waitSlot) →
            (∀ q, (s.pump q).state ≠ .startWait) →
            t.seq = s.seq ∧ ∀ q, t.transit.actuator.filter (OwnFrame.isFor (.pump q)) =
              s.transit.actuator.filter (OwnFrame.isFor (.pump q))))) ∧
    ∀ r : Side, drive.toNat = (match r with
        | .a => 7
        | .b => 8) →
      (s.inService r = false →
        exec (.resetDrive src tag drive) s = .next (withReply s src 17 tag [4, 0])) ∧
      (s.inService r = true → ∃ t, exec (.resetDrive src tag drive) s = .next t ∧
        Answered s t src 17 tag [0, 0] ∧ (t.rake r).latch = none ∧
        ((s.rake r).latch.isSome = true → (t.alarm (match r with
          | .a => 13
          | .b => 14)).condition = false) ∧
        ((s.rake r).latch.isSome = true → (s.rake r).state = .jammed →
          (t.rake r).state = .idle ∨ (t.rake r).state = .waitSlot ∨ (t.rake r).state = .raking) ∧
        ((s.rake r).latch.isSome = true → (s.rake r).state = .jammed → s.rakeCalled r = false →
          (t.rake r).state = .idle) ∧
        ((s.rake r).state.mode ≠ .auto → (t.rake r).state = (s.rake r).state))) ∧
  ∀ (src tag drive : Byte) (s : State), Taken s src .operate → Settled s →
    (drive.toNat ≠ 7 → drive.toNat ≠ 8 →
      exec (.rakeNow src tag drive) s = .next (withMalformed s src 18 tag)) ∧
    ∀ r : Side, drive.toNat = (match r with
        | .a => 7
        | .b => 8) →
      (s.inService r = false →
        exec (.rakeNow src tag drive) s = .next (withReply s src 18 tag [4, 0])) ∧
      (s.inService r = true →
        (s.rake r).state = .hand ∨ (s.rake r).state = .off ∨ (s.rake r).state = .jammed →
        exec (.rakeNow src tag drive) s = .next (withReply s src 18 tag [3, 0])) ∧
      (s.inService r = true → (s.rake r).state.mode = .auto → (s.rake r).state ≠ .jammed →
        ∃ t, exec (.rakeNow src tag drive) s = .next t ∧ Answered s t src 18 tag [0, 0] ∧
          ((s.rake r).state = .idle →
            ((t.rake r).state = .waitSlot ∨ (t.rake r).state = .raking) ∧
            (s.powerReturned = false → (t.rake r).state = .waitSlot) ∧
            (s.powerReturned = true → s.automatic = true → s.overOccupied = false →
              0 < s.freeSlots → s.grants = 0 → (∀ q, (s.rake q).state ≠ .waitSlot) →
              (∀ p, (s.pump p).state ≠ .startWait) →
              (t.rake r).state = .raking ∧ (t.rake r).travel = some s.now ∧
                Posted t (.rake r) .run)) ∧
          outsideDrives { t with transit := { t.transit with response := s.transit.response } } =
            outsideDrives s)

/-! ### Tables -/

/-- R168 and R169: TABLE_BEGIN makes the shadow LOADING with its count of segments, none received, whatever it
held; TABLE_SEGMENT sets one segment of a LOADING shadow; TABLE_ABANDON empties it. What they answer otherwise,
with no effect. -/
def Obligations.ShadowIsLoadedSegmentBySegment : Prop :=
  ∀ (src tag table : Byte) (s : State), Taken s src .configure →
    let shadowed := fun (x : TableId) (v : Shadow) =>
      { s with tables := { s.tables with shadows := s.tables.shadows.set x v } }
    (tableOfCode table = none →
      (∀ count, exec (.tableBegin src tag table count) s = .next (withMalformed s src 32 tag)) ∧
      (∀ index data, exec (.tableSegment src tag table index data) s =
        .next (withMalformed s src 33 tag)) ∧
      exec (.tableAbandon src tag table) s = .next (withMalformed s src 35 tag)) ∧
    ∀ x, tableOfCode table = some x →
      (∀ count : Byte, exec (.tableBegin src tag table count) s = .next
        (if 1 ≤ count.toNat ∧ count.toNat ≤ 64 then
          withReply (shadowed x (.loading (List.replicate count.toNat none))) src 32 tag [0, 0]
        else withMalformed s src 32 tag)) ∧
      (∀ (index : Byte) (data : List Byte),
        (32 < data.length → exec (.tableSegment src tag table index data) s =
          .next (withMalformed s src 33 tag)) ∧
        (data.length ≤ 32 → (∀ l, s.tables.shadows.get x ≠ .loading l) →
          exec (.tableSegment src tag table index data) s =
            .next (withReply s src 33 tag [3, 0])) ∧
        ∀ l, data.length ≤ 32 → s.tables.shadows.get x = .loading l →
          exec (.tableSegment src tag table index data) s = .next
            (if index.toNat < l.length then
              withReply (shadowed x (.loading (l.set index.toNat (some data)))) src 33 tag [0, 0]
            else withMalformed s src 33 tag)) ∧
      exec (.tableAbandon src tag table) s =
        .next (withReply (shadowed x .empty) src 35 tag [0, 0])

/-- R170, R172 and R58: TABLE_COMMIT judged step by step (validation by the model's `readTable`, logs 14, 15). A
refusal leaves the shadow LOADING and everything else as it stood; a pass waits for its method, or, with method
IMMEDIATE (STATION and ACCESS whatever theirs), is activated in the event: the image is the active copy, its
outcome ACTIVATED, its mark clear, its shadow EMPTY, its write begun or queued. With method QUIET it is activated in
the event, too, where the drives are quiet and none waits, and waits while a pump is STARTING or STOPPING or a rake
REVERSING. One that waits for NEXT_PERIOD, alone, is validated again at the balance expiry and activated or
refused. DONE carries 1 where the table was activated and 0 where it is pending (the characters: the model's choice,
log 16). -/
def Obligations.CommitIsJudgedAndActivated : Prop :=
  (∀ (o : BalanceOrder) (x : TableId) (gs : List (List Byte)) (s : State), s.on = true → Settled s →
    s.tables.shadows.get x = .waiting gs .nextPeriod →
    (∀ y gs', y ≠ x → s.tables.shadows.get y ≠ .waiting gs' .nextPeriod) →
    ∃ t, exec (.balanceUpdate o) s = .next t ∧ t.tables.shadows = s.tables.shadows.set x .empty ∧
      (∀ d, readTable s.surroundings x gs.flatten = .ok d →
        t.activeImage x = some gs.flatten ∧ (∀ y, y ≠ x → t.activeImage y = s.activeImage y) ∧
        t.tables.outcomes = s.tables.outcomes.set x .activated ∧
        t.tables.marks = s.tables.marks.set x false ∧ t.tables.refused = s.tables.refused ∧
        (t.tables.writing = some (x, gs.flatten) ∨ (x, gs.flatten) ∈ t.tables.queue)) ∧
      (∀ e, readTable s.surroundings x gs.flatten = .error e →
        t.tables = { s.tables with
          shadows := s.tables.shadows.set x .empty
          outcomes := s.tables.outcomes.set x .refused
          refused := inc16 s.tables.refused })) ∧
  ∀ (src tag table method : Byte) (check : BitVec 16) (s : State), Taken s src .configure →
    Settled s →
    let c := Instr.tableCommit src tag table method check
    (tableOfCode table = none ∨ methodOfCode method = none →
      exec c s = .next (withMalformed s src 34 tag)) ∧
    ∀ x m, tableOfCode table = some x → methodOfCode method = some m →
      ((∀ l, s.tables.shadows.get x ≠ .loading l) →
        exec c s = .next (withReply s src 34 tag [3, 0])) ∧
      ∀ l, s.tables.shadows.get x = .loading l →
        (x = .station → s.tables.mode ≠ .standby →
          exec c s = .next (withReply s src 34 tag [3, 0])) ∧
        ((x = .station → s.tables.mode = .standby) →
          (none ∈ l → exec c s = .next (withReply s src 34 tag [3, 0])) ∧
          ∀ gs : List (List Byte), l = gs.map some →
            (crc gs.flatten ≠ check →
              exec c s = .next (withReply s src 34 tag [6, 0, 6, 0, 0])) ∧
            (∀ reason i, crc gs.flatten = check →
              readTable s.surroundings x gs.flatten = .error (reason, i) →
              exec c s = .next
                (withReply s src 34 tag ([6, 0, BitVec.ofNat 8 reason.code] ++ u16 i))) ∧
            (∀ d, crc gs.flatten = check → readTable s.surroundings x gs.flatten = .ok d →
              ∃ t, exec c s = .next t ∧
                (m = .immediate ∨ x = .station ∨ x = .access →
                  Answered s t src 34 tag [0, 0, 1] ∧ t.tables.shadows.get x = .empty ∧
                  t.activeImage x = some gs.flatten ∧ t.tables.outcomes.get x = .activated ∧
                  t.tables.marks.get x = false ∧
                  (t.tables.writing = some (x, gs.flatten) ∨ (x, gs.flatten) ∈ t.tables.queue) ∧
                  ∀ y, y ≠ x → t.activeImage y = s.activeImage y ∧
                    t.tables.shadows.get y = s.tables.shadows.get y) ∧
                (m = .quiet → x ≠ .station → x ≠ .access → s.overOccupied = false →
                  (s.quiet = true → (∀ p, (s.pump p).state ≠ .startWait) →
                    (∀ r, (s.rake r).state ≠ .waitSlot) →
                    Answered s t src 34 tag [0, 0, 1] ∧
                    t.tables.shadows = s.tables.shadows.set x .empty ∧
                    t.activeImage x = some gs.flatten ∧ t.tables.outcomes.get x = .activated ∧
                    t.tables.marks.get x = false ∧
                    (t.tables.writing = some (x, gs.flatten) ∨
                      (x, gs.flatten) ∈ t.tables.queue)) ∧
                  (RunOrderTrue s →
                    (∃ p, (s.pump p).state = .starting ∨ (s.pump p).state = .stopping) ∨
                      (∃ r, (s.rake r).state = .reversing) →
                    Answered s t src 34 tag [0, 0, 0] ∧
                    t.tables = { s.tables with
                      shadows := s.tables.shadows.set x (.waiting gs .quiet) })) ∧
                (m = .nextPeriod → x ≠ .station → x ≠ .access →
                  Answered s t src 34 tag [0, 0, 0] ∧
                  t.tables = { s.tables with
                    shadows := s.tables.shadows.set x (.waiting gs .nextPeriod) } ∧
                  outsideDrives { t with
                    tables := s.tables
                    transit := { t.transit with response := s.transit.response } } =
                    outsideDrives s)))

/-- What an activation does at the blocks, shown by a commit with method IMMEDIATE that passes; the fields of the image
are in force. TAP and ACCESS reach no block. STORAGE empties the ring (R69). POINT keeps the record of a point whose
class stands; any other is set as at a start, and POINT_FAILED clears with a definition removed or changed in class
(R53). BAND engages its bands by the filtered level of the standing record, and demand stands (R102). WEIR: an ONSET
ends and is no false onset; an open record is flagged TABLE_CHANGED, and closed where the new table defines its weir
no more, by its end candidate in RECEDING (R151). ALARM (STORE_FAULT's entry apart, which follows the marks): priority
0 makes an entry NORMAL, its last change timed where it was not (the model's reading, log 30); an entry that rises
from 0 with its condition present is ACTIVE_UNACK (R160); every other entry stands but for its renotify timer, which
stops where it may not run and is compared only with a changed interval (R159; not started by a priority that becomes
1, log 28); a changed summary interval restarts the summary timer (R161). -/
def Obligations.ActivationReachesTheBlocks : Prop :=
  ∀ (src tag table method : Byte) (check : BitVec 16) (x : TableId) (gs : List (List Byte))
    (d : TableData) (s : State), Settled s → Shapes s → Commits s src table method check x gs d →
    let here : Capture := ⟨s.clockTime, s.clock.running⟩
    ∃ t, exec (.tableCommit src tag table method check) s = .next t ∧
    t.tables.active = s.tables.active.put gs.flatten d ∧
    (x = .tap ∨ x = .access →
      outsideDrives { t with
        tables := s.tables
        transit := { t.transit with response := s.transit.response } } = outsideDrives s) ∧
    (x = .storage → t.flow = { s.flow with ring := [] }) ∧
    (x = .point →
      t.points.rejected = s.points.rejected ∧ t.points.toUndefined = s.points.toUndefined ∧
      ∀ n, n < 48 →
        (∀ a b, s.pointDef n = some a → t.pointDef n = some b → a.cls = b.cls →
          t.pointRec n = s.pointRec n ∧
          (t.alarm (26 + n)).condition = (s.alarm (26 + n)).condition) ∧
        (∀ a, s.pointDef n = some a → (∀ b, t.pointDef n = some b → a.cls ≠ b.cls) →
          t.pointRec n = ⟨0, none, .none, 0, false⟩ ∧ (t.alarm (26 + n)).condition = false) ∧
        (s.pointDef n = none → t.pointRec n = ⟨0, none, .none, 0, false⟩)) ∧
    (x = .band → t.seq.demand = s.seq.demand ∧ t.seq.engaged.length = t.bands.length ∧
      ∀ (i : Nat) (b : Band), t.bands[i]? = some b → t.seq.engaged[i]? = some
        (decide (s.flow.record.basis = .filtered) &&
          (decide (b.start ≤ s.flow.record.level) ||
            (decide (b.stop ≤ s.flow.record.level) && (s.seq.engaged[i]?).getD false)))) ∧
    (x = .weir →
      let spills := fun w : Weir => (s.weir w).state = .spilling ∨ (s.weir w).state = .receding
      let ends := fun w : Weir =>
        if (s.weir w).state = .receding then (s.weir w).candidate.getD here else here
      t.spill.falseOnsets = s.spill.falseOnsets ∧ t.spill.nextNumber = s.spill.nextNumber ∧
      (∀ w, t.weir w =
        if (s.weir w).state = .dry ∨ (spills w ∧ (t.weirDef w).isSome = true) then s.weir w
        else WeirRec.dry) ∧
      (∀ w, spills w → (t.weirDef w).isSome = false → (t.alarm (match w with
        | .w1 => 17
        | .w2 => 18)).condition = false) ∧
      t.spill.log = s.spill.log.map fun r =>
        if r.state = .opened ∧ spills r.weir then
          let changed : SpillRec := { r with flags := { r.flags with tableChanged := true } }
          if (t.weirDef r.weir).isSome then changed
          else { changed with
            state := .closed
            ending := some ⟨(ends r.weir).clock, (ends r.weir).running,
              (ends r.weir).running - r.startRunning⟩ }
        else r) ∧
    (x = .alarm →
      let old := renotifyIn s.alarmTable
      let new := renotifyIn t.alarmTable
      (∀ n, 1 ≤ n → n ≤ 73 → n ≠ 24 →
        let e := s.alarm n
        let raised := s.priority n = 0 ∧ e.condition = true
        let may := 1 ≤ t.priority n ∧ t.priority n ≤ t.notifyThreshold ∧ t.priority n = 1
        (t.priority n = 0 → t.alarm n = { e with
          state := .normal
          lastChange := if e.state = .normal then e.lastChange else some s.clockTime
          renotify := none }) ∧
        (t.priority n ≠ 0 → raised → e.state = .normal → t.alarm n = { e with
          state := .activeUnack
          firstActive := some s.clockTime
          lastChange := some s.clockTime
          count := min 255 (e.count + 1)
          renotify := if may ∧ new ≠ 0 then some s.now else none }) ∧
        (t.priority n ≠ 0 → ¬raised → t.alarm n = { e with
          renotify :=
            if new = 0 ∨ ¬may then none
            else if new = old then e.renotify
            else if old = 0 then
              if e.state = .activeUnack ∨ e.state = .returnedUnack then some s.now else e.renotify
            else e.renotify.map fun since =>
              if 60 * new ≤ s.now - since then s.now else since })) ∧
      t.report.summaryTimer =
        if summaryIn t.alarmTable = summaryIn s.alarmTable then s.report.summaryTimer
        else if summaryIn t.alarmTable = 0 then none else some s.now)

/-- What an activation does at the loop gate and the drives, shown by a commit with method IMMEDIATE that passes, the
law of the slot record kept. STATION, every drive in HAND in STANDBY: the gate list is the new table's, each drive
keeping its foreign count, and an actuator that left it has no command waiting (R36); a wet-well role at another point
takes filter, held level and ring (R72); a new set of pumps installed gives the duty order anew (R96). SCREEN (R134,
R124): a screen removed has its record cleared with SCREEN_BLINDED and its rake in HAND, one newly defined starts
afresh, one defined before and after keeps its record, and its rake the interval counter; a travel timer past its new
limit suspects a jam with the cause TRAVEL, also where the jam current timer is past its own (the travel limit judged
first: the model's choice, log 44). PUMP (R94): a minimum timer that has elapsed under the old length, or reaches the
new one, has elapsed (log 40), and one that runs on stands; a confirm timer past its new length trips the pump with
its cause (a pump of no other source and no latch, no rake waiting; the order of the effects, log 43). -/
def Obligations.ActivationReachesTheDrives : Prop :=
  ∀ (src tag table method : Byte) (check : BitVec 16) (x : TableId) (gs : List (List Byte))
    (d : TableData) (s : State), Settled s → Shapes s → SlotLaw s →
    Commits s src table method check x gs d →
    ∃ t, exec (.tableCommit src tag table method check) s = .next t ∧
    (x = .station → HandOutsideAutomatic s →
      t.transit.gate = ((t.station.map (·.actuators)).getD []).map (fun e =>
        ⟨e.node, e.channel, e.drive,
          (((s.transit.gate.find? fun g => decide (g.drive = e.drive)).map (·.foreignCount)).getD 0)⟩) ∧
      (∀ o ∈ t.transit.actuator, t.transit.gate.any (fun g => o.isFor g.drive) = true) ∧
      t.flow = (if t.role (·.wetWell) = s.role (·.wetWell) then s.flow
        else { s.flow with filter := none, held := none, ring := [] }) ∧
      t.seq.duty = (if t.installedPumps = s.installedPumps then s.seq.duty else t.installedPumps) ∧
      (∀ p, (t.pump p).state = .hand) ∧ ∀ r, (t.rake r).state = .hand) ∧
    (x = .screen → ∀ r,
      ((s.screenDef r).isSome = true → t.screenDef r = none →
        t.screen r = ⟨none, false, false⟩ ∧ (t.rake r).state = .hand ∧
        (t.alarm (match r with
          | .a => 15
          | .b => 16)).condition = false) ∧
      (s.screenDef r = none → (t.screenDef r).isSome = true → t.screen r = ⟨none, false, false⟩) ∧
      ∀ d', (s.screenDef r).isSome = true → t.screenDef r = some d' →
        t.screen r = s.screen r ∧ (t.rake r).interval = (s.rake r).interval ∧
        ∀ since, s.automatic = true → s.inService r = true → (s.rake r).mgmt = .auto →
          (s.rake r).state = .raking → (s.rake r).travel = some since →
          d'.travelLimit ≤ s.now - since → 0 < d'.reverseTime →
          (t.rake r).state = .reversing ∧ (t.rake r).cause = .travel ∧
          (t.rake r).reverse = some s.now ∧ (t.rake r).travel = none ∧ (t.rake r).jam = none ∧
          (t.rake r).attempts = (s.rake r).attempts ∧ Posted t (.rake r) .runReverse) ∧
    (x = .pump → (∀ r, (s.rake r).state ≠ .waitSlot) → ∀ p,
      let after := fun (old new : Nat) (timer : Option Nat) =>
        timer.bind fun since =>
          if old ≤ s.now - since ∨ new ≤ s.now - since then none else some since
      (t.pump p).minOff = after (s.minOffLength p) (t.minOffLength p) (s.pump p).minOff ∧
      ((t.pump p).state = (s.pump p).state →
        (t.pump p).minRun = after (s.minRunLength p) (t.minRunLength p) (s.pump p).minRun) ∧
      ∀ e since, t.pumpEntry p = some e → s.installed p = true →
        (s.pump p).sources = Sources.absent → (s.pump p).latch = none →
        (s.role fun y => y.f1.get p) = none → (s.role fun y => y.f2.get p) = none →
        (s.role fun y => y.f3.get p) = none → (s.role fun y => y.current.get p) = none →
        let trips := fun cause : FaultSource => (t.pump p).state = .tripped ∧
          (t.pump p).latch = some cause ∧ Posted t (.pump p) .stop ∧
          (t.alarm p.number).condition = true
        ((s.pump p).state = .starting → (s.pump p).startConfirm = some since →
          (e.startConfirm ≤ s.now - since → trips .failToStart) ∧
          (s.now - since < e.startConfirm → t.pump p = { s.pump p with
            overTimer := none
            minRun := (t.pump p).minRun
            minOff := (t.pump p).minOff })) ∧
        ((s.pump p).state = .stopping → (s.pump p).stopConfirm = some since →
          s.feedbackActive p = true → e.stopConfirm ≤ s.now - since → trips .failToStop))

/-- R174, R84, R90 and R125: SET_STATION_MODE(STANDBY) is DONE in every mode and retained; past STANDBY every
drive's effective mode becomes HAND, the run order is empty, the power-return timer stops and the preemption
marks clear. AUTOMATIC changes nothing past STANDBY; from STANDBY it enters SETTLING where the mandatory tables pass the
check, and is else REJECTED with REFERENCE for the first failure: a missing table with its code, then a role point that
is not defined with its class or is no tap's target, then an installed pump without its entry, then a band's count above
the installed count, each with its index, counted from 0 (the model's choice, log 15). -/
def Obligations.StationModeIsSetOrRejected : Prop :=
  ∀ (src tag : Byte) (s : State), Taken s src .configure → Settled s →
    (∀ mode : Byte, 2 ≤ mode.toNat →
      exec (.setStationMode src tag mode) s = .next (withMalformed s src 36 tag)) ∧
    (s.tables.mode = .standby →
      exec (.setStationMode src tag 0) s = .next
        (withReply { s with tables := { s.tables with wanted := .standby } } src 36 tag [0, 0]) ∧
      let rejected := fun i : Nat => exec (.setStationMode src tag 1) s = .next
        (withReply s src 36 tag ([6, 0, 4] ++ u16 i))
      let tables : List TableId := [.station, .tap, .point, .storage, .pump, .band]
      let roles : List (PointClass × Option Nat) := match s.roles with
        | none => []
        | some r =>
          let each := fun (c : PointClass) (f : Pump → Option Nat) => pumps.map fun p => (c, f p)
          [(.level, r.wetWell), (.level, r.river), (.state, r.highFloat), (.state, r.lowFloat),
            (.select, r.supply)] ++
          each .state r.feedback.get ++ each .current r.current.get ++ each .select r.selector.get ++
          (pumps.flatMap fun p => [(PointClass.state, r.f1.get p), (.state, r.f2.get p),
            (.state, r.f3.get p)]) ++
          [(.level, r.upstream.a), (.level, r.upstream.b), (.level, r.downstream.a),
            (.level, r.downstream.b), (.state, r.park.a), (.state, r.park.b),
            (.current, r.rakeCurrent.a), (.current, r.rakeCurrent.b),
            (.level, r.weirLevel.w1), (.level, r.weirLevel.w2)]
      let served := fun u : PointClass × Option Nat => ∀ n, u.2 = some n →
        (∃ d, s.pointDef n = some d ∧ d.cls = u.1) ∧ ∃ x ∈ s.taps, x.target = n
      let entered := fun p : Pump => s.installed p = true → (s.pumpEntry p).isSome = true
      let installed := (pumps.filter fun p => s.installed p).length
      (∀ before x after, tables = before ++ x :: after → (∀ y ∈ before, s.tableActive y = true) →
        s.tableActive x = false → rejected x.code) ∧
      ((∀ x ∈ tables, s.tableActive x = true) →
        (∀ before u after, roles = before ++ u :: after → (∀ v ∈ before, served v) → ¬served u →
          rejected before.length) ∧
        ((∀ u ∈ roles, served u) →
          (∀ p, (∀ q, q.number < p.number → entered q) → ¬entered p → rejected (p.number - 1)) ∧
          ((∀ p, entered p) →
            (∀ before b after, s.bands = before ++ b :: after →
              (∀ y ∈ before, y.count ≤ installed) → installed < b.count →
              rejected before.length) ∧
            ((∀ b ∈ s.bands, b.count ≤ installed) → exec (.setStationMode src tag 1) s = .next
              (withReply { s with tables := { s.tables with
                wanted := .automatic, mode := .settling, settling := some s.now } } src 36 tag
                [0, 0])))))) ∧
    (s.tables.mode ≠ .standby →
      exec (.setStationMode src tag 1) s = .next (withReply s src 36 tag [0, 0]) ∧
      (RunOrderTrue s → ∃ t, exec (.setStationMode src tag 0) s = .next t ∧
        Answered s t src 36 tag [0, 0] ∧
        t.tables = { s.tables with wanted := .standby, mode := .standby, settling := none } ∧
        (∀ p, (t.pump p).state = .hand) ∧ (∀ r, (t.rake r).state = .hand) ∧ t.seq.run = [] ∧
        t.arbiter.powerReturn = .stopped ∧ t.arbiter.preempt = ⟨false, false⟩ ∧
        (∀ a, t.owned a = false) ∧
        (∀ p, (s.pump p).state.mode ≠ .hand →
          t.transit.actuator.any (OwnFrame.isFor (.pump p)) = false) ∧
        outsideDrives
          { t with
            tables := s.tables
            transit := { t.transit with response := s.transit.response } } = outsideDrives s))

/-- R178 and R177: CLEAR_COUNTERS sets every counter of every group to 0 and leaves all else; RESTART sets the
restart pending mark with the running seconds, once, and its response is the one the restart waits for. -/
def Obligations.CountersAreClearedAndRestartIsMarked : Prop :=
  ∀ (src tag : Byte) (s : State), Taken s src .configure →
    exec (.clearCounters src tag) s = .next (withReply { s with
      loop := { s.loop with line := ⟨0, 0, 0, 0, 0, 0, 0, 0, 0, 0, 0, 0, 0⟩ }
      transit := { s.transit with
        count := ⟨0, 0, 0, 0, 0, 0, 0, 0, 0, 0, 0, 0⟩
        gate := s.transit.gate.map fun e => { e with foreignCount := 0 } }
      points := { s.points with rejected := 0, toUndefined := 0 }
      spill := { s.spill with falseOnsets := ⟨0, 0⟩ }
      handler := { s.handler with denied := 0, malformed := 0 }
      tables := { s.tables with refused := 0, writeFailures := 0 } } src 37 tag [0, 0]) ∧
    (∀ x, s.handler.restart = some x →
      exec (.restart src tag) s = .next (withReply s src 38 tag [0, 0])) ∧
    (s.handler.restart = none → ∃ t, exec (.restart src tag) s = .next t ∧
      t.handler.restart = some ⟨s.clock.running, false⟩ ∧ t.restartReady = false ∧
      t.transit.response = s.transit.response ++
        [⟨some src, [38, tag, 0, 0], .response tag true, 0⟩] ∧
      { t with handler := s.handler, transit := s.transit } = s)

/-! ### Invariants -/

/-- Every step keeps the queues of the transit section within their capacities, the frame being sent the head of
its queue, the classes true, Loop Out at space exactly in a break, and no notice held back. -/
def Obligations.EveryStepKeepsTheQueuesTrue : Prop :=
  ∀ s t : State, QueuesTrue s → step s = .next t → QueuesTrue t

/-- Every step keeps the law of the slot record and the truth of the run order (R76, R96). -/
def Obligations.EveryStepKeepsTheSlotLaw : Prop :=
  ∀ s t : State, SlotLaw s → RunOrderTrue s → step s = .next t → SlotLaw t ∧ RunOrderTrue t

/-- Every step keeps the law of the spill log (R137, R143, R145). -/
def Obligations.EveryStepKeepsTheSpillLogTrue : Prop :=
  ∀ s t : State, SpillLogTrue s → step s = .next t → SpillLogTrue t

/-- Every step keeps the settling timer to SETTLING, every drive in HAND outside AUTOMATIC, and one pump at most
in STARTING (R77, R86, R125, R174). -/
def Obligations.EveryStepKeepsTheModesTrue : Prop :=
  ∀ s t : State, ModesTrue s → step s = .next t → ModesTrue t

/-- Every step keeps the lists of fixed or bounded length in their lengths. -/
def Obligations.EveryStepKeepsTheShapes : Prop :=
  ∀ s t : State, Shapes s → step s = .next t → Shapes t

/-- R91, R103 and R176. A step leaves a pump's start history as it was, or a cold start empties it, or the pump is
started and the history takes the running seconds, after which the starts younger than 3,600 s stay within the start
limit (the active PUMP table not changed by that step); a pump that enters STARTING has its start so recorded. A
grant pass records a start only of a pump in START_WAIT that is eligible. -/
def Obligations.StepRecordsEachStartWithinTheLimit : Prop :=
  (∀ (p : Pump) (s t : State), step s = .next t →
    t.tables.active.pump = s.tables.active.pump →
    let recorded := (t.pump p).history = pushHistory (s.pump p).history s.clock.running ∧
      t.startCount p ≤ (s.startLimit p).getD 0
    ((t.pump p).history = (s.pump p).history ∨
      ((t.pump p).history = [] ∧ ∃ c rest, s.pending = c :: rest ∧ Starts c s false) ∨
      recorded) ∧
    ((s.pump p).state ≠ .starting → (t.pump p).state = .starting → recorded)) ∧
  ∀ (p : Pump) (s : State),
    let t := grantPass s
    (t.pump p).history = (s.pump p).history ∨
      ((t.pump p).history = pushHistory (s.pump p).history s.clock.running ∧
        (s.pump p).state = .startWait ∧ s.eligible p = true)

/-- The state after reset is one that a start leaves, and has every invariant stated above. -/
def Obligations.ResetMeetsTheInvariants : Prop :=
  Started [] State.reset ∧ QueuesTrue State.reset ∧ SlotLaw State.reset ∧ RunOrderTrue State.reset ∧
    SpillLogTrue State.reset ∧ ModesTrue State.reset ∧ Shapes State.reset ∧ Settled State.reset
end

