-- ==== Sys2Proof/Laws/State.lean ====
section
/-! SUPPORT. One lemma per field per record update of the state, true by definition; and what reading a
record gives after one record of its collection is replaced; what grading leaves of a point's record. -/

namespace Sys2Proof.Machine

variable (s : State)

/-! ### State.setPump -/

@[simp] theorem State.setPump_pending (p : Pump) (r : PumpRec) :
    (s.setPump p r).pending = s.pending := rfl

@[simp] theorem State.setPump_chip (p : Pump) (r : PumpRec) :
    (s.setPump p r).chip = s.chip := rfl

@[simp] theorem State.setPump_loop (p : Pump) (r : PumpRec) :
    (s.setPump p r).loop = s.loop := rfl

@[simp] theorem State.setPump_transit (p : Pump) (r : PumpRec) :
    (s.setPump p r).transit = s.transit := rfl

@[simp] theorem State.setPump_points (p : Pump) (r : PumpRec) :
    (s.setPump p r).points = s.points := rfl

@[simp] theorem State.setPump_flow (p : Pump) (r : PumpRec) :
    (s.setPump p r).flow = s.flow := rfl

@[simp] theorem State.setPump_arbiter (p : Pump) (r : PumpRec) :
    (s.setPump p r).arbiter = s.arbiter := rfl

@[simp] theorem State.setPump_screens (p : Pump) (r : PumpRec) :
    (s.setPump p r).screens = s.screens := rfl

@[simp] theorem State.setPump_spill (p : Pump) (r : PumpRec) :
    (s.setPump p r).spill = s.spill := rfl

@[simp] theorem State.setPump_alarms (p : Pump) (r : PumpRec) :
    (s.setPump p r).alarms = s.alarms := rfl

@[simp] theorem State.setPump_report (p : Pump) (r : PumpRec) :
    (s.setPump p r).report = s.report := rfl

@[simp] theorem State.setPump_clock (p : Pump) (r : PumpRec) :
    (s.setPump p r).clock = s.clock := rfl

@[simp] theorem State.setPump_handler (p : Pump) (r : PumpRec) :
    (s.setPump p r).handler = s.handler := rfl

@[simp] theorem State.setPump_tables (p : Pump) (r : PumpRec) :
    (s.setPump p r).tables = s.tables := rfl

@[simp] theorem State.setPump_seq_duty (p : Pump) (r : PumpRec) :
    (s.setPump p r).seq.duty = s.seq.duty := rfl

@[simp] theorem State.setPump_seq_run (p : Pump) (r : PumpRec) :
    (s.setPump p r).seq.run = s.seq.run := rfl

@[simp] theorem State.setPump_seq_engaged (p : Pump) (r : PumpRec) :
    (s.setPump p r).seq.engaged = s.seq.engaged := rfl

@[simp] theorem State.setPump_seq_demand (p : Pump) (r : PumpRec) :
    (s.setPump p r).seq.demand = s.seq.demand := rfl

@[simp] theorem State.setPump_seq_highLevel (p : Pump) (r : PumpRec) :
    (s.setPump p r).seq.highLevel = s.seq.highLevel := rfl

@[simp] theorem State.setPump_seq_backupFloat (p : Pump) (r : PumpRec) :
    (s.setPump p r).seq.backupFloat = s.seq.backupFloat := rfl

@[simp] theorem State.setPump_seq_pumps (p : Pump) (r : PumpRec) :
    (s.setPump p r).seq.pumps = s.seq.pumps.set p r := rfl

/-! ### State.setRake -/

@[simp] theorem State.setRake_pending (x : Side) (v : RakeRec) :
    (s.setRake x v).pending = s.pending := rfl

@[simp] theorem State.setRake_chip (x : Side) (v : RakeRec) :
    (s.setRake x v).chip = s.chip := rfl

@[simp] theorem State.setRake_loop (x : Side) (v : RakeRec) :
    (s.setRake x v).loop = s.loop := rfl

@[simp] theorem State.setRake_transit (x : Side) (v : RakeRec) :
    (s.setRake x v).transit = s.transit := rfl

@[simp] theorem State.setRake_points (x : Side) (v : RakeRec) :
    (s.setRake x v).points = s.points := rfl

@[simp] theorem State.setRake_flow (x : Side) (v : RakeRec) :
    (s.setRake x v).flow = s.flow := rfl

@[simp] theorem State.setRake_arbiter (x : Side) (v : RakeRec) :
    (s.setRake x v).arbiter = s.arbiter := rfl

@[simp] theorem State.setRake_seq (x : Side) (v : RakeRec) :
    (s.setRake x v).seq = s.seq := rfl

@[simp] theorem State.setRake_spill (x : Side) (v : RakeRec) :
    (s.setRake x v).spill = s.spill := rfl

@[simp] theorem State.setRake_alarms (x : Side) (v : RakeRec) :
    (s.setRake x v).alarms = s.alarms := rfl

@[simp] theorem State.setRake_report (x : Side) (v : RakeRec) :
    (s.setRake x v).report = s.report := rfl

@[simp] theorem State.setRake_clock (x : Side) (v : RakeRec) :
    (s.setRake x v).clock = s.clock := rfl

@[simp] theorem State.setRake_handler (x : Side) (v : RakeRec) :
    (s.setRake x v).handler = s.handler := rfl

@[simp] theorem State.setRake_tables (x : Side) (v : RakeRec) :
    (s.setRake x v).tables = s.tables := rfl

@[simp] theorem State.setRake_screens_screens (x : Side) (v : RakeRec) :
    (s.setRake x v).screens.screens = s.screens.screens := rfl

@[simp] theorem State.setRake_screens_rakes (x : Side) (v : RakeRec) :
    (s.setRake x v).screens.rakes = s.screens.rakes.set x v := rfl

/-! ### State.setScreen -/

@[simp] theorem State.setScreen_pending (x : Side) (v : ScreenRec) :
    (s.setScreen x v).pending = s.pending := rfl

@[simp] theorem State.setScreen_chip (x : Side) (v : ScreenRec) :
    (s.setScreen x v).chip = s.chip := rfl

@[simp] theorem State.setScreen_loop (x : Side) (v : ScreenRec) :
    (s.setScreen x v).loop = s.loop := rfl

@[simp] theorem State.setScreen_transit (x : Side) (v : ScreenRec) :
    (s.setScreen x v).transit = s.transit := rfl

@[simp] theorem State.setScreen_points (x : Side) (v : ScreenRec) :
    (s.setScreen x v).points = s.points := rfl

@[simp] theorem State.setScreen_flow (x : Side) (v : ScreenRec) :
    (s.setScreen x v).flow = s.flow := rfl

@[simp] theorem State.setScreen_arbiter (x : Side) (v : ScreenRec) :
    (s.setScreen x v).arbiter = s.arbiter := rfl

@[simp] theorem State.setScreen_seq (x : Side) (v : ScreenRec) :
    (s.setScreen x v).seq = s.seq := rfl

@[simp] theorem State.setScreen_spill (x : Side) (v : ScreenRec) :
    (s.setScreen x v).spill = s.spill := rfl

@[simp] theorem State.setScreen_alarms (x : Side) (v : ScreenRec) :
    (s.setScreen x v).alarms = s.alarms := rfl

@[simp] theorem State.setScreen_report (x : Side) (v : ScreenRec) :
    (s.setScreen x v).report = s.report := rfl

@[simp] theorem State.setScreen_clock (x : Side) (v : ScreenRec) :
    (s.setScreen x v).clock = s.clock := rfl

@[simp] theorem State.setScreen_handler (x : Side) (v : ScreenRec) :
    (s.setScreen x v).handler = s.handler := rfl

@[simp] theorem State.setScreen_tables (x : Side) (v : ScreenRec) :
    (s.setScreen x v).tables = s.tables := rfl

@[simp] theorem State.setScreen_screens_rakes (x : Side) (v : ScreenRec) :
    (s.setScreen x v).screens.rakes = s.screens.rakes := rfl

@[simp] theorem State.setScreen_screens_screens (x : Side) (v : ScreenRec) :
    (s.setScreen x v).screens.screens = s.screens.screens.set x v := rfl

/-! ### State.setWeir -/

@[simp] theorem State.setWeir_pending (w : Weir) (v : WeirRec) :
    (s.setWeir w v).pending = s.pending := rfl

@[simp] theorem State.setWeir_chip (w : Weir) (v : WeirRec) :
    (s.setWeir w v).chip = s.chip := rfl

@[simp] theorem State.setWeir_loop (w : Weir) (v : WeirRec) :
    (s.setWeir w v).loop = s.loop := rfl

@[simp] theorem State.setWeir_transit (w : Weir) (v : WeirRec) :
    (s.setWeir w v).transit = s.transit := rfl

@[simp] theorem State.setWeir_points (w : Weir) (v : WeirRec) :
    (s.setWeir w v).points = s.points := rfl

@[simp] theorem State.setWeir_flow (w : Weir) (v : WeirRec) :
    (s.setWeir w v).flow = s.flow := rfl

@[simp] theorem State.setWeir_arbiter (w : Weir) (v : WeirRec) :
    (s.setWeir w v).arbiter = s.arbiter := rfl

@[simp] theorem State.setWeir_seq (w : Weir) (v : WeirRec) :
    (s.setWeir w v).seq = s.seq := rfl

@[simp] theorem State.setWeir_screens (w : Weir) (v : WeirRec) :
    (s.setWeir w v).screens = s.screens := rfl

@[simp] theorem State.setWeir_alarms (w : Weir) (v : WeirRec) :
    (s.setWeir w v).alarms = s.alarms := rfl

@[simp] theorem State.setWeir_report (w : Weir) (v : WeirRec) :
    (s.setWeir w v).report = s.report := rfl

@[simp] theorem State.setWeir_clock (w : Weir) (v : WeirRec) :
    (s.setWeir w v).clock = s.clock := rfl

@[simp] theorem State.setWeir_handler (w : Weir) (v : WeirRec) :
    (s.setWeir w v).handler = s.handler := rfl

@[simp] theorem State.setWeir_tables (w : Weir) (v : WeirRec) :
    (s.setWeir w v).tables = s.tables := rfl

@[simp] theorem State.setWeir_spill_log (w : Weir) (v : WeirRec) :
    (s.setWeir w v).spill.log = s.spill.log := rfl

@[simp] theorem State.setWeir_spill_nextNumber (w : Weir) (v : WeirRec) :
    (s.setWeir w v).spill.nextNumber = s.spill.nextNumber := rfl

@[simp] theorem State.setWeir_spill_lostCount (w : Weir) (v : WeirRec) :
    (s.setWeir w v).spill.lostCount = s.spill.lostCount := rfl

@[simp] theorem State.setWeir_spill_lossToFlag (w : Weir) (v : WeirRec) :
    (s.setWeir w v).spill.lossToFlag = s.spill.lossToFlag := rfl

@[simp] theorem State.setWeir_spill_collectionOwed (w : Weir) (v : WeirRec) :
    (s.setWeir w v).spill.collectionOwed = s.spill.collectionOwed := rfl

@[simp] theorem State.setWeir_spill_falseOnsets (w : Weir) (v : WeirRec) :
    (s.setWeir w v).spill.falseOnsets = s.spill.falseOnsets := rfl

@[simp] theorem State.setWeir_spill_weirs (w : Weir) (v : WeirRec) :
    (s.setWeir w v).spill.weirs = s.spill.weirs.set w v := rfl

/-! ### State.setPoint -/

@[simp] theorem State.setPoint_pending (n : Nat) (v : PointRec) :
    (s.setPoint n v).pending = s.pending := rfl

@[simp] theorem State.setPoint_chip (n : Nat) (v : PointRec) :
    (s.setPoint n v).chip = s.chip := rfl

@[simp] theorem State.setPoint_loop (n : Nat) (v : PointRec) :
    (s.setPoint n v).loop = s.loop := rfl

@[simp] theorem State.setPoint_transit (n : Nat) (v : PointRec) :
    (s.setPoint n v).transit = s.transit := rfl

@[simp] theorem State.setPoint_flow (n : Nat) (v : PointRec) :
    (s.setPoint n v).flow = s.flow := rfl

@[simp] theorem State.setPoint_arbiter (n : Nat) (v : PointRec) :
    (s.setPoint n v).arbiter = s.arbiter := rfl

@[simp] theorem State.setPoint_seq (n : Nat) (v : PointRec) :
    (s.setPoint n v).seq = s.seq := rfl

@[simp] theorem State.setPoint_screens (n : Nat) (v : PointRec) :
    (s.setPoint n v).screens = s.screens := rfl

@[simp] theorem State.setPoint_spill (n : Nat) (v : PointRec) :
    (s.setPoint n v).spill = s.spill := rfl

@[simp] theorem State.setPoint_alarms (n : Nat) (v : PointRec) :
    (s.setPoint n v).alarms = s.alarms := rfl

@[simp] theorem State.setPoint_report (n : Nat) (v : PointRec) :
    (s.setPoint n v).report = s.report := rfl

@[simp] theorem State.setPoint_clock (n : Nat) (v : PointRec) :
    (s.setPoint n v).clock = s.clock := rfl

@[simp] theorem State.setPoint_handler (n : Nat) (v : PointRec) :
    (s.setPoint n v).handler = s.handler := rfl

@[simp] theorem State.setPoint_tables (n : Nat) (v : PointRec) :
    (s.setPoint n v).tables = s.tables := rfl

@[simp] theorem State.setPoint_points_rejected (n : Nat) (v : PointRec) :
    (s.setPoint n v).points.rejected = s.points.rejected := rfl

@[simp] theorem State.setPoint_points_toUndefined (n : Nat) (v : PointRec) :
    (s.setPoint n v).points.toUndefined = s.points.toUndefined := rfl

@[simp] theorem State.setPoint_points_recs (n : Nat) (v : PointRec) :
    (s.setPoint n v).points.recs = s.points.recs.set n v := rfl

/-! ### State.setAlarm -/

@[simp] theorem State.setAlarm_pending (n : Nat) (v : AlarmEntry) :
    (s.setAlarm n v).pending = s.pending := rfl

@[simp] theorem State.setAlarm_chip (n : Nat) (v : AlarmEntry) :
    (s.setAlarm n v).chip = s.chip := rfl

@[simp] theorem State.setAlarm_loop (n : Nat) (v : AlarmEntry) :
    (s.setAlarm n v).loop = s.loop := rfl

@[simp] theorem State.setAlarm_transit (n : Nat) (v : AlarmEntry) :
    (s.setAlarm n v).transit = s.transit := rfl

@[simp] theorem State.setAlarm_points (n : Nat) (v : AlarmEntry) :
    (s.setAlarm n v).points = s.points := rfl

@[simp] theorem State.setAlarm_flow (n : Nat) (v : AlarmEntry) :
    (s.setAlarm n v).flow = s.flow := rfl

@[simp] theorem State.setAlarm_arbiter (n : Nat) (v : AlarmEntry) :
    (s.setAlarm n v).arbiter = s.arbiter := rfl

@[simp] theorem State.setAlarm_seq (n : Nat) (v : AlarmEntry) :
    (s.setAlarm n v).seq = s.seq := rfl

@[simp] theorem State.setAlarm_screens (n : Nat) (v : AlarmEntry) :
    (s.setAlarm n v).screens = s.screens := rfl

@[simp] theorem State.setAlarm_spill (n : Nat) (v : AlarmEntry) :
    (s.setAlarm n v).spill = s.spill := rfl

@[simp] theorem State.setAlarm_report (n : Nat) (v : AlarmEntry) :
    (s.setAlarm n v).report = s.report := rfl

@[simp] theorem State.setAlarm_clock (n : Nat) (v : AlarmEntry) :
    (s.setAlarm n v).clock = s.clock := rfl

@[simp] theorem State.setAlarm_handler (n : Nat) (v : AlarmEntry) :
    (s.setAlarm n v).handler = s.handler := rfl

@[simp] theorem State.setAlarm_tables (n : Nat) (v : AlarmEntry) :
    (s.setAlarm n v).tables = s.tables := rfl

@[simp] theorem State.setAlarm_alarms_silence (n : Nat) (v : AlarmEntry) :
    (s.setAlarm n v).alarms.silence = s.alarms.silence := rfl

@[simp] theorem State.setAlarm_alarms_posted (n : Nat) (v : AlarmEntry) :
    (s.setAlarm n v).alarms.posted = s.alarms.posted := rfl

@[simp] theorem State.setAlarm_alarms_confirmed (n : Nat) (v : AlarmEntry) :
    (s.setAlarm n v).alarms.confirmed = s.alarms.confirmed := rfl

@[simp] theorem State.setAlarm_alarms_entries (n : Nat) (v : AlarmEntry) :
    (s.setAlarm n v).alarms.entries = s.alarms.entries.set (n - 1) v := rfl

/-! ### State.countLine -/

@[simp] theorem State.countLine_pending (f : LineCounters → LineCounters) :
    (s.countLine f).pending = s.pending := rfl

@[simp] theorem State.countLine_chip (f : LineCounters → LineCounters) :
    (s.countLine f).chip = s.chip := rfl

@[simp] theorem State.countLine_transit (f : LineCounters → LineCounters) :
    (s.countLine f).transit = s.transit := rfl

@[simp] theorem State.countLine_points (f : LineCounters → LineCounters) :
    (s.countLine f).points = s.points := rfl

@[simp] theorem State.countLine_flow (f : LineCounters → LineCounters) :
    (s.countLine f).flow = s.flow := rfl

@[simp] theorem State.countLine_arbiter (f : LineCounters → LineCounters) :
    (s.countLine f).arbiter = s.arbiter := rfl

@[simp] theorem State.countLine_seq (f : LineCounters → LineCounters) :
    (s.countLine f).seq = s.seq := rfl

@[simp] theorem State.countLine_screens (f : LineCounters → LineCounters) :
    (s.countLine f).screens = s.screens := rfl

@[simp] theorem State.countLine_spill (f : LineCounters → LineCounters) :
    (s.countLine f).spill = s.spill := rfl

@[simp] theorem State.countLine_alarms (f : LineCounters → LineCounters) :
    (s.countLine f).alarms = s.alarms := rfl

@[simp] theorem State.countLine_report (f : LineCounters → LineCounters) :
    (s.countLine f).report = s.report := rfl

@[simp] theorem State.countLine_clock (f : LineCounters → LineCounters) :
    (s.countLine f).clock = s.clock := rfl

@[simp] theorem State.countLine_handler (f : LineCounters → LineCounters) :
    (s.countLine f).handler = s.handler := rfl

@[simp] theorem State.countLine_tables (f : LineCounters → LineCounters) :
    (s.countLine f).tables = s.tables := rfl

@[simp] theorem State.countLine_loop_assembler (f : LineCounters → LineCounters) :
    (s.countLine f).loop.assembler = s.loop.assembler := rfl

@[simp] theorem State.countLine_loop_deferred (f : LineCounters → LineCounters) :
    (s.countLine f).loop.deferred = s.loop.deferred := rfl

@[simp] theorem State.countLine_loop_gapTimer (f : LineCounters → LineCounters) :
    (s.countLine f).loop.gapTimer = s.loop.gapTimer := rfl

@[simp] theorem State.countLine_loop_handed (f : LineCounters → LineCounters) :
    (s.countLine f).loop.handed = s.loop.handed := rfl

@[simp] theorem State.countLine_loop_breakReset (f : LineCounters → LineCounters) :
    (s.countLine f).loop.breakReset = s.loop.breakReset := rfl

@[simp] theorem State.countLine_loop_tx (f : LineCounters → LineCounters) :
    (s.countLine f).loop.tx = s.loop.tx := rfl

@[simp] theorem State.countLine_loop_stallTimer (f : LineCounters → LineCounters) :
    (s.countLine f).loop.stallTimer = s.loop.stallTimer := rfl

@[simp] theorem State.countLine_loop_loopStall (f : LineCounters → LineCounters) :
    (s.countLine f).loop.loopStall = s.loop.loopStall := rfl

@[simp] theorem State.countLine_loop_holdOut (f : LineCounters → LineCounters) :
    (s.countLine f).loop.holdOut = s.loop.holdOut := rfl

@[simp] theorem State.countLine_loop_restrobe (f : LineCounters → LineCounters) :
    (s.countLine f).loop.restrobe = s.loop.restrobe := rfl

@[simp] theorem State.countLine_loop_healthTimer (f : LineCounters → LineCounters) :
    (s.countLine f).loop.healthTimer = s.loop.healthTimer := rfl

@[simp] theorem State.countLine_loop_line (f : LineCounters → LineCounters) :
    (s.countLine f).loop.line = f s.loop.line := rfl

/-! ### State.countTransit -/

@[simp] theorem State.countTransit_pending (f : TransitCounters → TransitCounters) :
    (s.countTransit f).pending = s.pending := rfl

@[simp] theorem State.countTransit_chip (f : TransitCounters → TransitCounters) :
    (s.countTransit f).chip = s.chip := rfl

@[simp] theorem State.countTransit_loop (f : TransitCounters → TransitCounters) :
    (s.countTransit f).loop = s.loop := rfl

@[simp] theorem State.countTransit_points (f : TransitCounters → TransitCounters) :
    (s.countTransit f).points = s.points := rfl

@[simp] theorem State.countTransit_flow (f : TransitCounters → TransitCounters) :
    (s.countTransit f).flow = s.flow := rfl

@[simp] theorem State.countTransit_arbiter (f : TransitCounters → TransitCounters) :
    (s.countTransit f).arbiter = s.arbiter := rfl

@[simp] theorem State.countTransit_seq (f : TransitCounters → TransitCounters) :
    (s.countTransit f).seq = s.seq := rfl

@[simp] theorem State.countTransit_screens (f : TransitCounters → TransitCounters) :
    (s.countTransit f).screens = s.screens := rfl

@[simp] theorem State.countTransit_spill (f : TransitCounters → TransitCounters) :
    (s.countTransit f).spill = s.spill := rfl

@[simp] theorem State.countTransit_alarms (f : TransitCounters → TransitCounters) :
    (s.countTransit f).alarms = s.alarms := rfl

@[simp] theorem State.countTransit_report (f : TransitCounters → TransitCounters) :
    (s.countTransit f).report = s.report := rfl

@[simp] theorem State.countTransit_clock (f : TransitCounters → TransitCounters) :
    (s.countTransit f).clock = s.clock := rfl

@[simp] theorem State.countTransit_handler (f : TransitCounters → TransitCounters) :
    (s.countTransit f).handler = s.handler := rfl

@[simp] theorem State.countTransit_tables (f : TransitCounters → TransitCounters) :
    (s.countTransit f).tables = s.tables := rfl

@[simp] theorem State.countTransit_transit_queue (f : TransitCounters → TransitCounters) :
    (s.countTransit f).transit.queue = s.transit.queue := rfl

@[simp] theorem State.countTransit_transit_actuator (f : TransitCounters → TransitCounters) :
    (s.countTransit f).transit.actuator = s.transit.actuator := rfl

@[simp] theorem State.countTransit_transit_notice (f : TransitCounters → TransitCounters) :
    (s.countTransit f).transit.notice = s.transit.notice := rfl

@[simp] theorem State.countTransit_transit_response (f : TransitCounters → TransitCounters) :
    (s.countTransit f).transit.response = s.transit.response := rfl

@[simp] theorem State.countTransit_transit_fairness (f : TransitCounters → TransitCounters) :
    (s.countTransit f).transit.fairness = s.transit.fairness := rfl

@[simp] theorem State.countTransit_transit_nextSeq (f : TransitCounters → TransitCounters) :
    (s.countTransit f).transit.nextSeq = s.transit.nextSeq := rfl

@[simp] theorem State.countTransit_transit_lap (f : TransitCounters → TransitCounters) :
    (s.countTransit f).transit.lap = s.transit.lap := rfl

@[simp] theorem State.countTransit_transit_gate (f : TransitCounters → TransitCounters) :
    (s.countTransit f).transit.gate = s.transit.gate := rfl

@[simp] theorem State.countTransit_transit_outbox (f : TransitCounters → TransitCounters) :
    (s.countTransit f).transit.outbox = s.transit.outbox := rfl

@[simp] theorem State.countTransit_transit_count (f : TransitCounters → TransitCounters) :
    (s.countTransit f).transit.count = f s.transit.count := rfl

/-! ### State.setAssembler -/

@[simp] theorem State.setAssembler_pending (a : Assembler) :
    (s.setAssembler a).pending = s.pending := rfl

@[simp] theorem State.setAssembler_chip (a : Assembler) :
    (s.setAssembler a).chip = s.chip := rfl

@[simp] theorem State.setAssembler_transit (a : Assembler) :
    (s.setAssembler a).transit = s.transit := rfl

@[simp] theorem State.setAssembler_points (a : Assembler) :
    (s.setAssembler a).points = s.points := rfl

@[simp] theorem State.setAssembler_flow (a : Assembler) :
    (s.setAssembler a).flow = s.flow := rfl

@[simp] theorem State.setAssembler_arbiter (a : Assembler) :
    (s.setAssembler a).arbiter = s.arbiter := rfl

@[simp] theorem State.setAssembler_seq (a : Assembler) :
    (s.setAssembler a).seq = s.seq := rfl

@[simp] theorem State.setAssembler_screens (a : Assembler) :
    (s.setAssembler a).screens = s.screens := rfl

@[simp] theorem State.setAssembler_spill (a : Assembler) :
    (s.setAssembler a).spill = s.spill := rfl

@[simp] theorem State.setAssembler_alarms (a : Assembler) :
    (s.setAssembler a).alarms = s.alarms := rfl

@[simp] theorem State.setAssembler_report (a : Assembler) :
    (s.setAssembler a).report = s.report := rfl

@[simp] theorem State.setAssembler_clock (a : Assembler) :
    (s.setAssembler a).clock = s.clock := rfl

@[simp] theorem State.setAssembler_handler (a : Assembler) :
    (s.setAssembler a).handler = s.handler := rfl

@[simp] theorem State.setAssembler_tables (a : Assembler) :
    (s.setAssembler a).tables = s.tables := rfl

@[simp] theorem State.setAssembler_loop_deferred (a : Assembler) :
    (s.setAssembler a).loop.deferred = s.loop.deferred := rfl

@[simp] theorem State.setAssembler_loop_gapTimer (a : Assembler) :
    (s.setAssembler a).loop.gapTimer = s.loop.gapTimer := rfl

@[simp] theorem State.setAssembler_loop_handed (a : Assembler) :
    (s.setAssembler a).loop.handed = s.loop.handed := rfl

@[simp] theorem State.setAssembler_loop_breakReset (a : Assembler) :
    (s.setAssembler a).loop.breakReset = s.loop.breakReset := rfl

@[simp] theorem State.setAssembler_loop_tx (a : Assembler) :
    (s.setAssembler a).loop.tx = s.loop.tx := rfl

@[simp] theorem State.setAssembler_loop_stallTimer (a : Assembler) :
    (s.setAssembler a).loop.stallTimer = s.loop.stallTimer := rfl

@[simp] theorem State.setAssembler_loop_loopStall (a : Assembler) :
    (s.setAssembler a).loop.loopStall = s.loop.loopStall := rfl

@[simp] theorem State.setAssembler_loop_holdOut (a : Assembler) :
    (s.setAssembler a).loop.holdOut = s.loop.holdOut := rfl

@[simp] theorem State.setAssembler_loop_restrobe (a : Assembler) :
    (s.setAssembler a).loop.restrobe = s.loop.restrobe := rfl

@[simp] theorem State.setAssembler_loop_healthTimer (a : Assembler) :
    (s.setAssembler a).loop.healthTimer = s.loop.healthTimer := rfl

@[simp] theorem State.setAssembler_loop_line (a : Assembler) :
    (s.setAssembler a).loop.line = s.loop.line := rfl

@[simp] theorem State.setAssembler_loop_assembler (a : Assembler) :
    (s.setAssembler a).loop.assembler = a := rfl

/-! ### setShadow -/

@[simp] theorem setShadow_pending (t : TableId) (x : Shadow) :
    (setShadow t x s).pending = s.pending := rfl

@[simp] theorem setShadow_chip (t : TableId) (x : Shadow) :
    (setShadow t x s).chip = s.chip := rfl

@[simp] theorem setShadow_loop (t : TableId) (x : Shadow) :
    (setShadow t x s).loop = s.loop := rfl

@[simp] theorem setShadow_transit (t : TableId) (x : Shadow) :
    (setShadow t x s).transit = s.transit := rfl

@[simp] theorem setShadow_points (t : TableId) (x : Shadow) :
    (setShadow t x s).points = s.points := rfl

@[simp] theorem setShadow_flow (t : TableId) (x : Shadow) :
    (setShadow t x s).flow = s.flow := rfl

@[simp] theorem setShadow_arbiter (t : TableId) (x : Shadow) :
    (setShadow t x s).arbiter = s.arbiter := rfl

@[simp] theorem setShadow_seq (t : TableId) (x : Shadow) :
    (setShadow t x s).seq = s.seq := rfl

@[simp] theorem setShadow_screens (t : TableId) (x : Shadow) :
    (setShadow t x s).screens = s.screens := rfl

@[simp] theorem setShadow_spill (t : TableId) (x : Shadow) :
    (setShadow t x s).spill = s.spill := rfl

@[simp] theorem setShadow_alarms (t : TableId) (x : Shadow) :
    (setShadow t x s).alarms = s.alarms := rfl

@[simp] theorem setShadow_report (t : TableId) (x : Shadow) :
    (setShadow t x s).report = s.report := rfl

@[simp] theorem setShadow_clock (t : TableId) (x : Shadow) :
    (setShadow t x s).clock = s.clock := rfl

@[simp] theorem setShadow_handler (t : TableId) (x : Shadow) :
    (setShadow t x s).handler = s.handler := rfl

@[simp] theorem setShadow_tables_active (t : TableId) (x : Shadow) :
    (setShadow t x s).tables.active = s.tables.active := rfl

@[simp] theorem setShadow_tables_outcomes (t : TableId) (x : Shadow) :
    (setShadow t x s).tables.outcomes = s.tables.outcomes := rfl

@[simp] theorem setShadow_tables_marks (t : TableId) (x : Shadow) :
    (setShadow t x s).tables.marks = s.tables.marks := rfl

@[simp] theorem setShadow_tables_stored (t : TableId) (x : Shadow) :
    (setShadow t x s).tables.stored = s.tables.stored := rfl

@[simp] theorem setShadow_tables_queue (t : TableId) (x : Shadow) :
    (setShadow t x s).tables.queue = s.tables.queue := rfl

@[simp] theorem setShadow_tables_writing (t : TableId) (x : Shadow) :
    (setShadow t x s).tables.writing = s.tables.writing := rfl

@[simp] theorem setShadow_tables_refused (t : TableId) (x : Shadow) :
    (setShadow t x s).tables.refused = s.tables.refused := rfl

@[simp] theorem setShadow_tables_writeFailures (t : TableId) (x : Shadow) :
    (setShadow t x s).tables.writeFailures = s.tables.writeFailures := rfl

@[simp] theorem setShadow_tables_mode (t : TableId) (x : Shadow) :
    (setShadow t x s).tables.mode = s.tables.mode := rfl

@[simp] theorem setShadow_tables_wanted (t : TableId) (x : Shadow) :
    (setShadow t x s).tables.wanted = s.tables.wanted := rfl

@[simp] theorem setShadow_tables_settling (t : TableId) (x : Shadow) :
    (setShadow t x s).tables.settling = s.tables.settling := rfl

@[simp] theorem setShadow_tables_shadows (t : TableId) (x : Shadow) :
    (setShadow t x s).tables.shadows = s.tables.shadows.set t x := rfl

/-! ### setOutcome -/

@[simp] theorem setOutcome_pending (t : TableId) (x : Activation) :
    (setOutcome t x s).pending = s.pending := rfl

@[simp] theorem setOutcome_chip (t : TableId) (x : Activation) :
    (setOutcome t x s).chip = s.chip := rfl

@[simp] theorem setOutcome_loop (t : TableId) (x : Activation) :
    (setOutcome t x s).loop = s.loop := rfl

@[simp] theorem setOutcome_transit (t : TableId) (x : Activation) :
    (setOutcome t x s).transit = s.transit := rfl

@[simp] theorem setOutcome_points (t : TableId) (x : Activation) :
    (setOutcome t x s).points = s.points := rfl

@[simp] theorem setOutcome_flow (t : TableId) (x : Activation) :
    (setOutcome t x s).flow = s.flow := rfl

@[simp] theorem setOutcome_arbiter (t : TableId) (x : Activation) :
    (setOutcome t x s).arbiter = s.arbiter := rfl

@[simp] theorem setOutcome_seq (t : TableId) (x : Activation) :
    (setOutcome t x s).seq = s.seq := rfl

@[simp] theorem setOutcome_screens (t : TableId) (x : Activation) :
    (setOutcome t x s).screens = s.screens := rfl

@[simp] theorem setOutcome_spill (t : TableId) (x : Activation) :
    (setOutcome t x s).spill = s.spill := rfl

@[simp] theorem setOutcome_alarms (t : TableId) (x : Activation) :
    (setOutcome t x s).alarms = s.alarms := rfl

@[simp] theorem setOutcome_report (t : TableId) (x : Activation) :
    (setOutcome t x s).report = s.report := rfl

@[simp] theorem setOutcome_clock (t : TableId) (x : Activation) :
    (setOutcome t x s).clock = s.clock := rfl

@[simp] theorem setOutcome_handler (t : TableId) (x : Activation) :
    (setOutcome t x s).handler = s.handler := rfl

@[simp] theorem setOutcome_tables_active (t : TableId) (x : Activation) :
    (setOutcome t x s).tables.active = s.tables.active := rfl

@[simp] theorem setOutcome_tables_shadows (t : TableId) (x : Activation) :
    (setOutcome t x s).tables.shadows = s.tables.shadows := rfl

@[simp] theorem setOutcome_tables_marks (t : TableId) (x : Activation) :
    (setOutcome t x s).tables.marks = s.tables.marks := rfl

@[simp] theorem setOutcome_tables_stored (t : TableId) (x : Activation) :
    (setOutcome t x s).tables.stored = s.tables.stored := rfl

@[simp] theorem setOutcome_tables_queue (t : TableId) (x : Activation) :
    (setOutcome t x s).tables.queue = s.tables.queue := rfl

@[simp] theorem setOutcome_tables_writing (t : TableId) (x : Activation) :
    (setOutcome t x s).tables.writing = s.tables.writing := rfl

@[simp] theorem setOutcome_tables_refused (t : TableId) (x : Activation) :
    (setOutcome t x s).tables.refused = s.tables.refused := rfl

@[simp] theorem setOutcome_tables_writeFailures (t : TableId) (x : Activation) :
    (setOutcome t x s).tables.writeFailures = s.tables.writeFailures := rfl

@[simp] theorem setOutcome_tables_mode (t : TableId) (x : Activation) :
    (setOutcome t x s).tables.mode = s.tables.mode := rfl

@[simp] theorem setOutcome_tables_wanted (t : TableId) (x : Activation) :
    (setOutcome t x s).tables.wanted = s.tables.wanted := rfl

@[simp] theorem setOutcome_tables_settling (t : TableId) (x : Activation) :
    (setOutcome t x s).tables.settling = s.tables.settling := rfl

@[simp] theorem setOutcome_tables_outcomes (t : TableId) (x : Activation) :
    (setOutcome t x s).tables.outcomes = s.tables.outcomes.set t x := rfl

/-! ### State.putTable -/

@[simp] theorem State.putTable_pending (image : List Byte) (d : TableData) :
    (s.putTable image d).pending = s.pending := rfl

@[simp] theorem State.putTable_chip (image : List Byte) (d : TableData) :
    (s.putTable image d).chip = s.chip := rfl

@[simp] theorem State.putTable_loop (image : List Byte) (d : TableData) :
    (s.putTable image d).loop = s.loop := rfl

@[simp] theorem State.putTable_transit (image : List Byte) (d : TableData) :
    (s.putTable image d).transit = s.transit := rfl

@[simp] theorem State.putTable_points (image : List Byte) (d : TableData) :
    (s.putTable image d).points = s.points := rfl

@[simp] theorem State.putTable_flow (image : List Byte) (d : TableData) :
    (s.putTable image d).flow = s.flow := rfl

@[simp] theorem State.putTable_arbiter (image : List Byte) (d : TableData) :
    (s.putTable image d).arbiter = s.arbiter := rfl

@[simp] theorem State.putTable_seq (image : List Byte) (d : TableData) :
    (s.putTable image d).seq = s.seq := rfl

@[simp] theorem State.putTable_screens (image : List Byte) (d : TableData) :
    (s.putTable image d).screens = s.screens := rfl

@[simp] theorem State.putTable_spill (image : List Byte) (d : TableData) :
    (s.putTable image d).spill = s.spill := rfl

@[simp] theorem State.putTable_alarms (image : List Byte) (d : TableData) :
    (s.putTable image d).alarms = s.alarms := rfl

@[simp] theorem State.putTable_report (image : List Byte) (d : TableData) :
    (s.putTable image d).report = s.report := rfl

@[simp] theorem State.putTable_clock (image : List Byte) (d : TableData) :
    (s.putTable image d).clock = s.clock := rfl

@[simp] theorem State.putTable_handler (image : List Byte) (d : TableData) :
    (s.putTable image d).handler = s.handler := rfl

@[simp] theorem State.putTable_tables_shadows (image : List Byte) (d : TableData) :
    (s.putTable image d).tables.shadows = s.tables.shadows := rfl

@[simp] theorem State.putTable_tables_outcomes (image : List Byte) (d : TableData) :
    (s.putTable image d).tables.outcomes = s.tables.outcomes := rfl

@[simp] theorem State.putTable_tables_marks (image : List Byte) (d : TableData) :
    (s.putTable image d).tables.marks = s.tables.marks := rfl

@[simp] theorem State.putTable_tables_stored (image : List Byte) (d : TableData) :
    (s.putTable image d).tables.stored = s.tables.stored := rfl

@[simp] theorem State.putTable_tables_queue (image : List Byte) (d : TableData) :
    (s.putTable image d).tables.queue = s.tables.queue := rfl

@[simp] theorem State.putTable_tables_writing (image : List Byte) (d : TableData) :
    (s.putTable image d).tables.writing = s.tables.writing := rfl

@[simp] theorem State.putTable_tables_refused (image : List Byte) (d : TableData) :
    (s.putTable image d).tables.refused = s.tables.refused := rfl

@[simp] theorem State.putTable_tables_writeFailures (image : List Byte) (d : TableData) :
    (s.putTable image d).tables.writeFailures = s.tables.writeFailures := rfl

@[simp] theorem State.putTable_tables_mode (image : List Byte) (d : TableData) :
    (s.putTable image d).tables.mode = s.tables.mode := rfl

@[simp] theorem State.putTable_tables_wanted (image : List Byte) (d : TableData) :
    (s.putTable image d).tables.wanted = s.tables.wanted := rfl

@[simp] theorem State.putTable_tables_settling (image : List Byte) (d : TableData) :
    (s.putTable image d).tables.settling = s.tables.settling := rfl

/-! ### Replacing one record of a collection -/

theorem Six.get_set {α : Type} (x : Six α) (p q : Pump) (v : α) :
    (x.set p v).get q = if q = p then v else x.get q := by
  cases p <;> cases q <;> rfl

theorem Two.get_set {α : Type} (x : Two α) (p q : Side) (v : α) :
    (x.set p v).get q = if q = p then v else x.get q := by
  cases p <;> cases q <;> rfl

theorem Weirs.get_set {α : Type} (x : Weirs α) (p q : Weir) (v : α) :
    (x.set p v).get q = if q = p then v else x.get q := by
  cases p <;> cases q <;> rfl

theorem PerTable.get_set {α : Type} (x : PerTable α) (p q : TableId) (v : α) :
    (x.set p v).get q = if q = p then v else x.get q := by
  cases p <;> cases q <;> rfl

/-- The record of a pump after one pump's record is replaced. -/
theorem State.pump_setPump (p q : Pump) (r : PumpRec) :
    (s.setPump p r).pump q = if q = p then r else s.pump q := Six.get_set _ _ _ _

@[simp] theorem State.pump_setPump_same (p : Pump) (r : PumpRec) : (s.setPump p r).pump p = r := by
  simp [State.pump_setPump]

/-- The record of a rake after one rake's record is replaced. -/
theorem State.rake_setRake (x y : Side) (v : RakeRec) :
    (s.setRake x v).rake y = if y = x then v else s.rake y := Two.get_set _ _ _ _

@[simp] theorem State.rake_setRake_same (x : Side) (v : RakeRec) : (s.setRake x v).rake x = v := by
  simp [State.rake_setRake]

/-- The record of a screen after one screen's record is replaced. -/
theorem State.screen_setScreen (x y : Side) (v : ScreenRec) :
    (s.setScreen x v).screen y = if y = x then v else s.screen y := Two.get_set _ _ _ _

/-- The record of a weir after one weir's record is replaced. -/
theorem State.weir_setWeir (x y : Weir) (v : WeirRec) :
    (s.setWeir x v).weir y = if y = x then v else s.weir y := Weirs.get_set _ _ _ _

/-- The shadow of a table after one table's shadow is replaced. -/
theorem shadow_setShadow (t u : TableId) (x : Shadow) :
    (setShadow t x s).tables.shadows.get u = if u = t then x else s.tables.shadows.get u :=
  PerTable.get_set _ _ _ _

@[simp] theorem State.pump_setRake (x : Side) (v : RakeRec) (q : Pump) :
    (s.setRake x v).pump q = s.pump q := rfl

@[simp] theorem State.rake_setPump (p : Pump) (r : PumpRec) (y : Side) :
    (s.setPump p r).rake y = s.rake y := rfl

@[simp] theorem State.alarm_setPump (p : Pump) (r : PumpRec) (n : Nat) :
    (s.setPump p r).alarm n = s.alarm n := rfl

@[simp] theorem State.alarm_setRake (x : Side) (v : RakeRec) (n : Nat) :
    (s.setRake x v).alarm n = s.alarm n := rfl

/-- The entry of an alarm number after one entry of the 73 is replaced. -/
theorem State.alarm_setAlarm (m n : Nat) (v : AlarmEntry) (hm : 1 ≤ m)
    (hlen : m ≤ s.alarms.entries.length) (hn : 1 ≤ n) :
    (s.setAlarm m v).alarm n = if n = m then v else s.alarm n := by
  unfold State.alarm State.setAlarm
  by_cases h : n = m
  · subst h
    have h1 : n - 1 < s.alarms.entries.length := by omega
    simp [List.getD, h1]
  · have h1 : m - 1 ≠ n - 1 := by omega
    simp [List.getD, List.getElem?_set_ne h1, h]

/-- The record of a point after one of the 48 is replaced. -/
theorem State.pointRec_setPoint (m n : Nat) (v : PointRec) (hm : m < s.points.recs.length) :
    (s.setPoint m v).pointRec n = if n = m then v else s.pointRec n := by
  unfold State.pointRec State.setPoint
  by_cases h : n = m
  · subst h; simp [List.getD, hm]
  · have h1 : m ≠ n := fun e => h e.symm
    simp [List.getD, List.getElem?_set_ne h1, h]

/-! ### A point's record graded and read -/

@[simp] theorem PointRec.accepted_grade (r : PointRec) (d : PointDef) (sub : Option PointRec) :
    (r.grade d sub).accepted = r.accepted := by
  unfold PointRec.grade; (repeat' split) <;> rfl

@[simp] theorem PointRec.age_grade (r : PointRec) (d : PointDef) (sub : Option PointRec) :
    (r.grade d sub).age = r.age := by
  unfold PointRec.grade; (repeat' split) <;> rfl

@[simp] theorem PointRec.forced_grade (r : PointRec) (d : PointDef) (sub : Option PointRec) :
    (r.grade d sub).forced = r.forced := by
  unfold PointRec.grade; (repeat' split) <;> rfl

/-- A record never sampled is at NONE with the value 0 while its age is within a limit (R47, R66). -/
theorem PointRec.grade_of_never_sampled (r : PointRec) (d : PointDef) (sub : Option PointRec)
    (hf : r.forced = false) (ha : r.accepted = none) (h : r.age ≤ d.stale ∨ r.age ≤ d.fail) :
    r.grade d sub = { r with quality := .none, value := 0 } := by
  by_cases hs : r.age ≤ d.stale
  · simp [PointRec.grade, hf, ha, hs]
  · simp [PointRec.grade, hf, ha, hs, h.resolve_left hs]

/-- What a weir's head is worked from: 0 at NONE, else the value presented (R66). -/
theorem PointRec.figure_eq (r : PointRec) :
    (r.quality = .none → r.figure = 0) ∧ (r.quality ≠ .none → r.figure = r.value) :=
  ⟨fun h => if_pos h, fun h => if_neg h⟩

end Sys2Proof.Machine
end

