-- ==== Sys2Proof/Laws/Frames.lean ====
section
/-! SUPPORT. What each shared operation leaves alone: one equation per operation and eraser
(`outsideAlarms`, `outsideGrants`, `outsideDrives`), which say once everything the operation can change. -/

namespace Sys2Proof.Laws

open Sys2Proof.Machine Sys2Proof.Safety

/-! ### Folds -/

/-- A fold of operations that leave a view alone leaves it alone. -/
theorem foldl_view {α β : Type} (E : State → β) (f : State → α → State)
    (h : ∀ s a, E (f s a) = E s) (l : List α) (s : State) : E (l.foldl f s) = E s := by
  induction l generalizing s with
  | nil => rfl
  | cons a l ih => rw [List.foldl_cons, ih, h]

/-- Work on each pump leaves alone what the work on one leaves alone. -/
theorem eachPump_view {β : Type} (E : State → β) (f : Pump → State → State)
    (h : ∀ p s, E (f p s) = E s) (s : State) : E (eachPump f s) = E s :=
  foldl_view E _ (fun s p => h p s) _ s

/-- Work on A and B leaves alone what the work on one leaves alone. -/
theorem eachSide_view {β : Type} (E : State → β) (f : Side → State → State)
    (h : ∀ r s, E (f r s) = E s) (s : State) : E (eachSide f s) = E s :=
  foldl_view E _ (fun s p => h p s) _ s

/-- Work on each weir leaves alone what the work on one leaves alone. -/
theorem eachWeir_view {β : Type} (E : State → β) (f : Weir → State → State)
    (h : ∀ w s, E (f w s) = E s) (s : State) : E (eachWeir f s) = E s :=
  foldl_view E _ (fun s p => h p s) _ s

/-! ### Alarms -/

@[simp] theorem outsideAlarms_setAlarm (n : Nat) (e : AlarmEntry) (s : State) :
    outsideAlarms (s.setAlarm n e) = outsideAlarms s := rfl

@[simp] theorem outsideAlarms_noteAlarm (n : Nat) (o : OwnFrame) (s : State) :
    outsideAlarms (noteAlarm n o s) = outsideAlarms s := rfl

@[simp] theorem outsideAlarms_noteSpill (w : Weir) (o : OwnFrame) (s : State) :
    outsideAlarms (noteSpill w o s) = outsideAlarms s := rfl

@[simp] theorem outsideAlarms_noteSummary (o : OwnFrame) (s : State) :
    outsideAlarms (noteSummary o s) = outsideAlarms s := rfl

@[simp] theorem outsideAlarms_noteRetried (o : OwnFrame) (s : State) :
    outsideAlarms (noteRetried o s) = outsideAlarms s := rfl

@[simp] theorem outsideAlarms_wakeHorn (n : Nat) (st : AlarmState) (s : State) :
    outsideAlarms (wakeHorn n st s) = outsideAlarms s := by
  unfold wakeHorn; split <;> rfl

@[simp] theorem outsideAlarms_notifyChange (n : Nat) (s : State) :
    outsideAlarms (notifyChange n s) = outsideAlarms s := by
  unfold notifyChange; split <;> rfl

/-- A change of an alarm entry's state touches the alarm list, the silence flag and the notices. -/
@[simp] theorem outsideAlarms_changeAlarm (n : Nat) (st : AlarmState) (s : State) :
    outsideAlarms (changeAlarm n st s) = outsideAlarms s := by simp [changeAlarm]

@[simp] theorem outsideAlarms_conditionAppears (n : Nat) (s : State) :
    outsideAlarms (conditionAppears n s) = outsideAlarms s := by
  unfold conditionAppears; split <;> simp

@[simp] theorem outsideAlarms_conditionClears (n : Nat) (s : State) :
    outsideAlarms (conditionClears n s) = outsideAlarms s := by
  unfold conditionClears; split <;> simp

@[simp] theorem outsideAlarms_followCondition (n : Nat) (b : Bool) (s : State) :
    outsideAlarms (followCondition n b s) = outsideAlarms s := by
  unfold followCondition; repeat' split
  all_goals simp

/-- A statement of a condition touches the alarm list, the silence flag and the notices. -/
@[simp] theorem outsideAlarms_stateCondition (n : Nat) (b : Bool) (s : State) :
    outsideAlarms (stateCondition n b s) = outsideAlarms s := by
  unfold stateCondition; split <;> simp

@[simp] theorem outsideAlarms_repeatAlarm (n : Nat) (s : State) :
    outsideAlarms (repeatAlarm n s) = outsideAlarms s := rfl

@[simp] theorem outsideAlarms_disableAlarm (n : Nat) (s : State) :
    outsideAlarms (disableAlarm n s) = outsideAlarms s := rfl

/-- The renotify timer of an entry under a new ALARM table is all of the alarm unit that it may touch (R159). -/
@[simp] theorem outsideAlarms_compareRenotify (interval n : Nat) (s : State) :
    outsideAlarms (compareRenotify interval n s) = outsideAlarms s := by
  unfold compareRenotify
  dsimp only
  split_ifs <;> simp

@[simp] theorem outsideAlarms_statePumpConditions (p : Pump) (s : State) :
    outsideAlarms (statePumpConditions p s) = outsideAlarms s := by
  simp [statePumpConditions]

@[simp] theorem outsideAlarms_stateRakeJammed (r : Side) (s : State) :
    outsideAlarms (stateRakeJammed r s) = outsideAlarms s := by simp [stateRakeJammed]

@[simp] theorem outsideAlarms_stateSupply (s : State) :
    outsideAlarms (stateSupply s) = outsideAlarms s := by simp [stateSupply]

@[simp] theorem outsideAlarms_stateLogLoss (s : State) :
    outsideAlarms (stateLogLoss s) = outsideAlarms s := by simp [stateLogLoss]

@[simp] theorem outsideAlarms_stateStoreFault (s : State) :
    outsideAlarms (stateStoreFault s) = outsideAlarms s := by simp [stateStoreFault]

@[simp] theorem outsideAlarms_stateSpill (w : Weir) (s : State) :
    outsideAlarms (stateSpill w s) = outsideAlarms s := by simp [stateSpill]

@[simp] theorem outsideAlarms_statePointFailed (n : Nat) (s : State) :
    outsideAlarms (statePointFailed n s) = outsideAlarms s := by simp [statePointFailed]

/-- Agreement outside the alarm unit is agreement outside the drives. -/
theorem outsideDrives_of_outsideAlarms {s t : State} (h : outsideAlarms t = outsideAlarms s) :
    outsideDrives t = outsideDrives s := by
  have h' : outsideDrives (outsideAlarms t) = outsideDrives (outsideAlarms s) := by rw [h]
  exact h'

/-- Agreement outside the grants is agreement outside the drives. -/
theorem outsideDrives_of_outsideGrants {s t : State} (h : outsideGrants t = outsideGrants s) :
    outsideDrives t = outsideDrives s := by
  have key : ∀ u : State, outsideDrives (outsideGrants u) = outsideDrives u := by
    intro u
    have h1 : unmarkedTx (unmarkedTx u.loop.tx) = unmarkedTx u.loop.tx := by
      cases u.loop.tx <;> rfl
    have h2 : (u.transit.lap.map unmarked).map unmarked = u.transit.lap.map unmarked := by
      simp [unmarked]
    simp only [outsideDrives, outsideGrants, h1, h2]
    rfl
  rw [← key t, ← key s, h]

/-! ### Commands and their class (R25, R26) -/

@[simp] theorem unmarkedTx_supersede (a : Actuator) (t : Tx) :
    unmarkedTx (t.supersede a) = unmarkedTx t := by cases t <;> rfl

@[simp] theorem unmarked_mark (c : Prop) [Decidable c] (e : LapEntry) :
    unmarked (if c then { e with superseded := true } else e) = unmarked e := by
  split <;> rfl

/-- Superseding touches marks alone. -/
@[simp] theorem outsideGrants_supersede (a : Actuator) (s : State) :
    outsideGrants (supersede a s) = outsideGrants s := by
  simp [supersede, outsideGrants]

@[simp] theorem outsideGrants_settleFairness (s : State) :
    outsideGrants (settleFairness s) = outsideGrants s := by
  unfold settleFairness; split <;> rfl

theorem outsideGrants_setActuator (q : List OwnFrame) (s : State) :
    outsideGrants { s with transit := { s.transit with actuator := q } } = outsideGrants s := rfl

/-- A posted command touches the ACTUATOR class and superseded marks. -/
@[simp] theorem outsideGrants_postCommand (a : Actuator) (code : CommandCode) (arg : Byte)
    (retry : Option Nat) (s : State) :
    outsideGrants (postCommand a code arg retry s) = outsideGrants s := by
  unfold postCommand
  split
  · rfl
  · rw [outsideGrants_supersede, outsideGrants_setActuator]

/-- A withdrawal touches the ACTUATOR class, superseded marks and the fairness counter. -/
@[simp] theorem outsideGrants_withdraw (a : Actuator) (s : State) :
    outsideGrants (withdraw a s) = outsideGrants s := by
  unfold withdraw
  rw [outsideGrants_settleFairness, outsideGrants_supersede, outsideGrants_setActuator]

theorem map_set_view {β : Type} (f : PumpRec → β) (x : Six PumpRec) (p : Pump) (r : PumpRec)
    (h : f r = f (x.get p)) : (x.set p r).map f = x.map f := by
  cases p <;> simp_all [Six.set, Six.map, Six.get]

/-- A pump's record changed within what the grants may change. -/
theorem outsideGrants_setPump (p : Pump) (r : PumpRec) (s : State)
    (h : keptByGrants r = keptByGrants (s.pump p)) :
    outsideGrants (s.setPump p r) = outsideGrants s := by
  have := map_set_view keptByGrants s.seq.pumps p r h
  simp only [outsideGrants, State.setPump, this]

/-- A rake's record changed within what the grants may change. -/
theorem outsideGrants_setRake (x : Side) (v : RakeRec) (s : State)
    (h : rakeKeptByGrants v = rakeKeptByGrants (s.rake x)) :
    outsideGrants (s.setRake x v) = outsideGrants s := by
  cases x <;> simp_all [outsideGrants, State.setRake, Two.set, State.rake, Two.get]

@[simp] theorem outsideGrants_postPump (p : Pump) (c : CommandCode) (s : State) :
    outsideGrants (postPump p c s) = outsideGrants s := by
  unfold postPump
  rw [outsideGrants_postCommand, outsideGrants_setPump]
  rfl

@[simp] theorem outsideGrants_postRake (x : Side) (c : CommandCode) (s : State) :
    outsideGrants (postRake x c s) = outsideGrants s := by
  unfold postRake
  rw [outsideGrants_postCommand, outsideGrants_setRake]
  rfl

/-! ### Moves of pumps -/

@[simp] theorem outsideGrants_startStagger (s : State) :
    outsideGrants (startStagger s) = outsideGrants s := rfl

@[simp] theorem outsideGrants_leaveRunOrder (p : Pump) (s : State) :
    outsideGrants (leaveRunOrder p s) = outsideGrants s := rfl

@[simp] theorem outsideGrants_joinRunOrder (p : Pump) (s : State) :
    outsideGrants (joinRunOrder p s) = outsideGrants s := rfl

@[simp] theorem outsideGrants_toDutyTail (p : Pump) (s : State) :
    outsideGrants (toDutyTail p s) = outsideGrants s := rfl

@[simp] theorem outsideGrants_releaseDrive (p : Pump) (s : State) :
    outsideGrants (releaseDrive p s) = outsideGrants s := by
  unfold releaseDrive; split <;> rfl

@[simp] theorem outsideGrants_protectTo (st : PumpState) (p : Pump) (s : State) :
    outsideGrants (protectTo st p s) = outsideGrants s := by
  simp only [protectTo, outsideGrants_postPump]
  rw [outsideGrants_setPump _ _ _ (by rfl), outsideGrants_releaseDrive]

@[simp] theorem outsideGrants_judgeMove (p : Pump) (s : State) :
    outsideGrants (judgeMove p s) = outsideGrants s := by
  simp only [judgeMove]
  repeat' split
  all_goals simp

@[simp] theorem outsideGrants_tripInhibited (p : Pump) (s : State) :
    outsideGrants (tripInhibited p s) = outsideGrants s := by
  unfold tripInhibited; split <;> simp

@[simp] theorem outsideGrants_enterRunning (p : Pump) (s : State) :
    outsideGrants (enterRunning p s) = outsideGrants s := by
  simp only [enterRunning, outsideGrants_startStagger, outsideGrants_joinRunOrder]
  rw [outsideGrants_setPump _ _ _ (by rfl)]

@[simp] theorem outsideGrants_startPump (p : Pump) (s : State) :
    outsideGrants (startPump p s) = outsideGrants s := by
  simp only [startPump]
  split <;> simp only [outsideGrants_enterRunning, outsideGrants_postPump] <;>
    rw [outsideGrants_setPump _ _ _ (by rfl)]

@[simp] theorem outsideGrants_pumpStopped (p : Pump) (s : State) :
    outsideGrants (pumpStopped p s) = outsideGrants s := by
  simp only [pumpStopped, outsideGrants_tripInhibited, outsideGrants_toDutyTail]
  rw [outsideGrants_setPump _ _ _ (by rfl)]

@[simp] theorem outsideGrants_enterStopping (p : Pump) (s : State) :
    outsideGrants (enterStopping p s) = outsideGrants s := by
  simp only [enterStopping]
  split <;> simp only [outsideGrants_pumpStopped, outsideGrants_postPump] <;>
    rw [outsideGrants_setPump _ _ _ (by rfl), outsideGrants_releaseDrive]

@[simp] theorem outsideGrants_pumpSupplyLost (p : Pump) (s : State) :
    outsideGrants (pumpSupplyLost p s) = outsideGrants s := by
  simp only [pumpSupplyLost]
  split <;> simp only [outsideGrants_tripInhibited, outsideGrants_postPump]
  all_goals rw [outsideGrants_setPump _ _ _ (by rfl), outsideGrants_releaseDrive]

@[simp] theorem outsideGrants_pumpLeavesAuto (p : Pump) (st : PumpState) (s : State) :
    outsideGrants (pumpLeavesAuto p st s) = outsideGrants s := by
  simp only [pumpLeavesAuto, outsideGrants_withdraw]
  rw [outsideGrants_setPump _ _ _ (by rfl), outsideGrants_releaseDrive]

@[simp] theorem outsideGrants_placePump (p : Pump) (s : State) :
    outsideGrants (placePump p s) = outsideGrants s := by
  simp only [placePump]
  repeat' split
  all_goals
    simp only [outsideGrants_postPump, outsideGrants_joinRunOrder]
    rw [outsideGrants_setPump _ _ _ (by rfl)]

/-- A change of a pump's effective mode is a move of the grants' kind. -/
@[simp] theorem outsideGrants_judgePumpMode (p : Pump) (s : State) :
    outsideGrants (judgePumpMode p s) = outsideGrants s := by
  simp only [judgePumpMode]
  split <;> (try simp only [outsideGrants_pumpLeavesAuto, outsideGrants_postPump,
    outsideGrants_withdraw, outsideGrants_placePump]) <;>
    (try rw [outsideGrants_setPump _ _ _ (by rfl)])

/-! ### Moves of rakes -/

@[simp] theorem outsideGrants_setPreempt (x : Side) (b : Bool) (s : State) :
    outsideGrants (setPreempt x b s) = outsideGrants s := rfl

@[simp] theorem outsideGrants_giveRequest (x : Side) (s : State) :
    outsideGrants (giveRequest x s) = outsideGrants s := by
  unfold giveRequest; split
  · rw [outsideGrants_setRake _ _ _ (by rfl)]
  · rfl

@[simp] theorem outsideGrants_judgeRequest (x : Side) (s : State) :
    outsideGrants (judgeRequest x s) = outsideGrants s := by
  unfold judgeRequest; split <;> simp

@[simp] theorem outsideGrants_rakeLeavesAuto (x : Side) (st : RakeState) (s : State) :
    outsideGrants (rakeLeavesAuto x st s) = outsideGrants s := by
  simp only [rakeLeavesAuto, outsideGrants_setPreempt, outsideGrants_withdraw]
  rw [outsideGrants_setRake _ _ _ (by rfl)]

@[simp] theorem outsideGrants_placeRake (x : Side) (s : State) :
    outsideGrants (placeRake x s) = outsideGrants s := by
  simp only [placeRake]
  split <;> simp only [outsideGrants_postRake, outsideGrants_judgeRequest] <;>
    rw [outsideGrants_setRake _ _ _ (by rfl)]

/-- A change of a rake's effective mode is a move of the grants' kind. -/
@[simp] theorem outsideGrants_judgeRakeMode (x : Side) (s : State) :
    outsideGrants (judgeRakeMode x s) = outsideGrants s := by
  simp only [judgeRakeMode]
  split <;> (try simp only [outsideGrants_rakeLeavesAuto, outsideGrants_postRake,
    outsideGrants_withdraw, outsideGrants_placeRake]) <;>
    (try rw [outsideGrants_setRake _ _ _ (by rfl)])

@[simp] theorem outsideGrants_judgeJamTimer (x : Side) (s : State) :
    outsideGrants (judgeJamTimer x s) = outsideGrants s := by
  simp only [judgeJamTimer]
  repeat' split
  all_goals first | rfl | (rw [outsideGrants_setRake _ _ _ (by rfl)])

@[simp] theorem outsideGrants_grantRake (x : Side) (s : State) :
    outsideGrants (grantRake x s) = outsideGrants s := by
  simp only [grantRake, outsideGrants_judgeJamTimer, outsideGrants_postRake,
    outsideGrants_setPreempt]
  rw [outsideGrants_setRake _ _ _ (by rfl)]

@[simp] theorem outsideGrants_shedRake (x : Side) (s : State) :
    outsideGrants (shedRake x s) = outsideGrants s := by
  simp only [shedRake]
  split
  · simp only [outsideGrants_postRake]
    rw [outsideGrants_setRake _ _ _ (by rfl)]
  · rfl

/-! ### Shedding and granting (R79 to R81) -/

@[simp] theorem outsideGrants_shedPump (p : Pump) (s : State) :
    outsideGrants (shedPump p s) = outsideGrants s := by
  simp only [shedPump]; split <;> simp

@[simp] theorem outsideGrants_shedDrive (d : Drive) (s : State) :
    outsideGrants (shedDrive d s) = outsideGrants s := by
  cases d <;> simp [shedDrive]

/-- A shedding check moves drives and posts commands, and nothing else. -/
@[simp] theorem outsideGrants_shedCheck (s : State) :
    outsideGrants (shedCheck s) = outsideGrants s := by
  apply foldl_view
  intro s d
  split <;> simp

@[simp] theorem outsideGrants_grantIfFree (x : Side) (s : State) :
    outsideGrants (grantIfFree x s) = outsideGrants s := by
  simp only [grantIfFree]; split <;> simp

@[simp] theorem outsideGrants_preempt (x : Side) (s : State) :
    outsideGrants (preempt x s) = outsideGrants s := by
  simp only [preempt]; repeat' split
  all_goals simp

@[simp] theorem outsideGrants_grantUrgent (x : Side) (s : State) :
    outsideGrants (grantUrgent x s) = outsideGrants s := by
  simp only [grantUrgent]; split <;> simp

@[simp] theorem outsideGrants_grantCandidate (p : Pump) (s : State) :
    outsideGrants (grantCandidate p s) = outsideGrants s := by
  simp only [grantCandidate]; repeat' split
  · simp
  · rw [outsideGrants_setPump _ _ _ (by rfl)]
  · rfl

@[simp] theorem outsideGrants_grantOther (x : Side) (s : State) :
    outsideGrants (grantOther x s) = outsideGrants s := by
  simp only [grantOther]; split <;> simp

/-- A grant pass moves drives and posts commands, and nothing else. -/
@[simp] theorem outsideGrants_grantPass (s : State) :
    outsideGrants (grantPass s) = outsideGrants s := by
  simp only [grantPass]
  rw [eachSide_view outsideGrants _ outsideGrants_grantOther,
    foldl_view outsideGrants _ (fun s p => outsideGrants_grantCandidate p s),
    eachSide_view outsideGrants _ outsideGrants_grantUrgent]

/-- The shedding check and the grant pass move drives and post commands, and nothing else. -/
@[simp] theorem outsideGrants_settleDrives (s : State) :
    outsideGrants (settleDrives s) = outsideGrants s := by
  simp [settleDrives]

end Sys2Proof.Laws
end

