-- ==== Sys2Proof/Laws/Events.lean ====
section
/-! SUPPORT. What judgements of drives, resolutions of lap entries and the end of an event leave alone:
one equation per shared operation under `outsideDrives`. -/

namespace Sys2Proof.Laws

open Sys2Proof.Machine Sys2Proof.Safety

/-! ### Records and the alarm unit -/

/-- A pump's record changed within what judging may change. -/
theorem outsideDrives_setPump (p : Pump) (r : PumpRec) (s : State)
    (h : keptByJudging r = keptByJudging (s.pump p)) :
    outsideDrives (s.setPump p r) = outsideDrives s := by
  have := map_set_view keptByJudging s.seq.pumps p r h
  simp only [outsideDrives, State.setPump, this]

/-- A rake's record changed within what judging may change. -/
theorem outsideDrives_setRake (x : Side) (v : RakeRec) (s : State)
    (h : rakeKeptByJudging v = rakeKeptByJudging (s.rake x)) :
    outsideDrives (s.setRake x v) = outsideDrives s := by
  cases x <;> simp_all [outsideDrives, State.setRake, Two.set, State.rake, Two.get]

@[simp] theorem outsideDrives_stateCondition (n : Nat) (b : Bool) (s : State) :
    outsideDrives (stateCondition n b s) = outsideDrives s :=
  outsideDrives_of_outsideAlarms (by simp)

@[simp] theorem outsideDrives_changeAlarm (n : Nat) (st : AlarmState) (s : State) :
    outsideDrives (changeAlarm n st s) = outsideDrives s :=
  outsideDrives_of_outsideAlarms (by simp)

@[simp] theorem outsideDrives_repeatAlarm (n : Nat) (s : State) :
    outsideDrives (repeatAlarm n s) = outsideDrives s :=
  outsideDrives_of_outsideAlarms (by simp)

@[simp] theorem outsideDrives_statePumpConditions (p : Pump) (s : State) :
    outsideDrives (statePumpConditions p s) = outsideDrives s :=
  outsideDrives_of_outsideAlarms (by simp)

@[simp] theorem outsideDrives_stateRakeJammed (r : Side) (s : State) :
    outsideDrives (stateRakeJammed r s) = outsideDrives s :=
  outsideDrives_of_outsideAlarms (by simp)

@[simp] theorem outsideDrives_stateSupply (s : State) :
    outsideDrives (stateSupply s) = outsideDrives s :=
  outsideDrives_of_outsideAlarms (by simp)

@[simp] theorem outsideDrives_stateLogLoss (s : State) :
    outsideDrives (stateLogLoss s) = outsideDrives s :=
  outsideDrives_of_outsideAlarms (by simp)

@[simp] theorem outsideDrives_stateStoreFault (s : State) :
    outsideDrives (stateStoreFault s) = outsideDrives s :=
  outsideDrives_of_outsideAlarms (by simp)

@[simp] theorem outsideDrives_stateSpill (w : Weir) (s : State) :
    outsideDrives (stateSpill w s) = outsideDrives s :=
  outsideDrives_of_outsideAlarms (by simp)

@[simp] theorem outsideDrives_statePointFailed (n : Nat) (s : State) :
    outsideDrives (statePointFailed n s) = outsideDrives s :=
  outsideDrives_of_outsideAlarms (by simp)

@[simp] theorem outsideDrives_noteSpill (w : Weir) (o : OwnFrame) (s : State) :
    outsideDrives (noteSpill w o s) = outsideDrives s := rfl

@[simp] theorem outsideDrives_noteRetried (o : OwnFrame) (s : State) :
    outsideDrives (noteRetried o s) = outsideDrives s := rfl

@[simp] theorem outsideDrives_noteSummary (o : OwnFrame) (s : State) :
    outsideDrives (noteSummary o s) = outsideDrives s := rfl

@[simp] theorem outsideDrives_ackEntry (n : Nat) (s : State) :
    outsideDrives (ackEntry n s) = outsideDrives s := by
  unfold ackEntry; split <;> simp

/-! ### Posting (R26, R27, R156) -/

@[simp] theorem outsideDrives_postCommand (a : Actuator) (code : CommandCode) (arg : Byte)
    (retry : Option Nat) (s : State) :
    outsideDrives (postCommand a code arg retry s) = outsideDrives s :=
  outsideDrives_of_outsideGrants (by simp)

@[simp] theorem outsideDrives_withdraw (a : Actuator) (s : State) :
    outsideDrives (withdraw a s) = outsideDrives s :=
  outsideDrives_of_outsideGrants (by simp)

@[simp] theorem outsideDrives_postPump (p : Pump) (c : CommandCode) (s : State) :
    outsideDrives (postPump p c s) = outsideDrives s :=
  outsideDrives_of_outsideGrants (by simp)

@[simp] theorem outsideDrives_postRake (r : Side) (c : CommandCode) (s : State) :
    outsideDrives (postRake r c s) = outsideDrives s :=
  outsideDrives_of_outsideGrants (by simp)

@[simp] theorem outsideDrives_postAnnunciate (m : AnnMode) (s : State) :
    outsideDrives (postAnnunciate m s) = outsideDrives s := by
  unfold postAnnunciate
  rw [outsideDrives_postCommand]
  rfl

@[simp] theorem outsideDrives_countLost (s : State) :
    outsideDrives (countLost s) = outsideDrives s := rfl

theorem outsideDrives_setNotice (q : List OwnFrame) (s : State) :
    outsideDrives { s with transit := { s.transit with notice := q } } = outsideDrives s := rfl

/-- A posted notice touches the NOTICE class and the notices lost. -/
@[simp] theorem outsideDrives_postNotice (o : OwnFrame) (s : State) :
    outsideDrives (postNotice o s) = outsideDrives s := by
  unfold postNotice
  repeat' split
  all_goals simp only [outsideDrives_countLost, outsideDrives_setNotice]

@[simp] theorem outsideDrives_flushNotices (s : State) :
    outsideDrives (flushNotices s) = outsideDrives s := by
  unfold flushNotices
  rw [foldl_view outsideDrives _ (fun s o => outsideDrives_postNotice o s)]
  rfl

@[simp] theorem outsideDrives_judgeAnnunciator (s : State) :
    outsideDrives (judgeAnnunciator s) = outsideDrives s := by
  unfold judgeAnnunciator; split <;> simp

/-- The end of an event at the alarm unit touches the annunciator, the ACTUATOR and NOTICE classes. -/
@[simp] theorem outsideDrives_finishAlarms (s : State) :
    outsideDrives (finishAlarms s) = outsideDrives s := by simp [finishAlarms]

/-! ### Pump protection -/

@[simp] theorem outsideDrives_judgeLatch (p : Pump) (s : State) :
    outsideDrives (judgeLatch p s) = outsideDrives s := by
  unfold judgeLatch; split
  · rw [outsideDrives_setPump _ _ _ (by rfl)]
  · rfl

@[simp] theorem outsideDrives_judgeMove (p : Pump) (s : State) :
    outsideDrives (judgeMove p s) = outsideDrives s :=
  outsideDrives_of_outsideGrants (by simp)

/-- A judgement of a pump touches its record, the orders, the alarm list and the commands posted. -/
@[simp] theorem outsideDrives_judgePump (p : Pump) (s : State) :
    outsideDrives (judgePump p s) = outsideDrives s := by simp [judgePump]

@[simp] theorem outsideDrives_judgePumpMode (p : Pump) (s : State) :
    outsideDrives (judgePumpMode p s) = outsideDrives s :=
  outsideDrives_of_outsideGrants (by simp)

@[simp] theorem outsideDrives_judgeSelector (p : Pump) (s : State) :
    outsideDrives (judgeSelector p s) = outsideDrives s := by
  simp only [judgeSelector, outsideDrives_judgePumpMode]
  rw [outsideDrives_setPump _ _ _ (by rfl)]

@[simp] theorem outsideDrives_judgeFault (p : Pump) (f : FaultSource) (s : State) :
    outsideDrives (judgeFault p f s) = outsideDrives s := by
  simp only [judgeFault, State.setSources]
  repeat' split
  all_goals
    first
    | rfl
    | (simp only [outsideDrives_judgePump, outsideDrives_statePumpConditions]
       rw [outsideDrives_setPump _ _ _ (by rfl)])

@[simp] theorem outsideDrives_judgeFaults (p : Pump) (s : State) :
    outsideDrives (judgeFaults p s) = outsideDrives s := by simp [judgeFaults]

@[simp] theorem outsideDrives_judgeOvercurrent (p : Pump) (s : State) :
    outsideDrives (judgeOvercurrent p s) = outsideDrives s := by
  simp only [judgeOvercurrent]
  repeat' split
  all_goals
    first
    | rfl
    | (try simp only [outsideDrives_statePumpConditions]
       rw [outsideDrives_setPump _ _ _ (by rfl)])

@[simp] theorem outsideDrives_setOvercurrent (p : Pump) (s : State) :
    outsideDrives (setOvercurrent p s) = outsideDrives s :=
  outsideDrives_setPump _ _ _ rfl

@[simp] theorem outsideDrives_overcurrentReached (p : Pump) (s : State) :
    outsideDrives (overcurrentReached p s) = outsideDrives s := by
  unfold overcurrentReached; split <;> simp

@[simp] theorem outsideDrives_startConfirmExpired (p : Pump) (s : State) :
    outsideDrives (startConfirmExpired p s) = outsideDrives s := by
  simp only [startConfirmExpired]
  split
  · simp only [outsideDrives_judgePump]
    rw [outsideDrives_setPump _ _ _ (by rfl)]
  · rfl

@[simp] theorem outsideDrives_stopConfirmExpired (p : Pump) (s : State) :
    outsideDrives (stopConfirmExpired p s) = outsideDrives s := by
  simp only [stopConfirmExpired]
  split
  · simp only [outsideDrives_judgePump]
    rw [outsideDrives_setPump _ _ _ (by rfl)]
  · rfl

@[simp] theorem outsideDrives_pumpCommandLost (p : Pump) (s : State) :
    outsideDrives (pumpCommandLost p s) = outsideDrives s := by
  simp only [pumpCommandLost, State.setSources]
  split
  · simp only [outsideDrives_judgePump]
    rw [outsideDrives_setPump _ _ _ (by rfl)]
  · rfl

@[simp] theorem outsideDrives_pumpCommandTaken (p : Pump) (c : CommandCode) (s : State) :
    outsideDrives (pumpCommandTaken p c s) = outsideDrives s := by
  simp only [pumpCommandTaken, outsideDrives_statePumpConditions]
  rw [outsideDrives_setPump _ _ _ (by rfl)]

@[simp] theorem outsideDrives_feedbackFell (p : Pump) (b : Bool) (s : State) :
    outsideDrives (feedbackFell p b s) = outsideDrives s := by
  unfold feedbackFell; split
  · rw [outsideDrives_setPump _ _ _ (by rfl)]
  · rfl

@[simp] theorem outsideDrives_feedbackMoves (p : Pump) (s : State) :
    outsideDrives (feedbackMoves p s) = outsideDrives s := by
  unfold feedbackMoves
  repeat' split
  all_goals first | rfl | exact outsideDrives_of_outsideGrants (by simp)

@[simp] theorem outsideDrives_feedbackReturned (p : Pump) (b : Bool) (s : State) :
    outsideDrives (feedbackReturned p b s) = outsideDrives s := by
  unfold feedbackReturned; split <;> simp

@[simp] theorem outsideDrives_feedbackChanged (p : Pump) (b : Bool) (s : State) :
    outsideDrives (feedbackChanged p b s) = outsideDrives s := by simp [feedbackChanged]

@[simp] theorem outsideDrives_releasePump (p : Pump) (s : State) :
    outsideDrives (releasePump p s) = outsideDrives s := by
  simp only [releasePump]
  repeat' split
  all_goals rw [outsideDrives_setPump _ _ _ (by rfl)]

@[simp] theorem outsideDrives_protectPump (p : Pump) (s : State) :
    outsideDrives (protectPump p s) = outsideDrives s := by
  simp only [protectPump]
  repeat' split
  all_goals
    first
    | rfl
    | (try simp only [outsideDrives_releasePump]
       rw [outsideDrives_judgePump, outsideDrives_setPump _ _ _ (by rfl)])

@[simp] theorem outsideDrives_clearLatch (p : Pump) (s : State) :
    outsideDrives (clearLatch p s) = outsideDrives s := by
  simp only [clearLatch]
  repeat' split
  all_goals
    (first
      | rw [outsideDrives_setPump _ _ _ (by rfl)]
      | (simp only [outsideDrives_releasePump])
      | skip)
    rw [outsideDrives_statePumpConditions, outsideDrives_setPump _ _ _ (by rfl)]

@[simp] theorem outsideDrives_resetPump (p : Pump) (s : State) :
    outsideDrives (resetPump p s).2 = outsideDrives s := by
  simp only [resetPump]
  repeat' split
  all_goals simp

/-! ### Rakes -/

@[simp] theorem outsideDrives_giveRequest (r : Side) (s : State) :
    outsideDrives (giveRequest r s) = outsideDrives s :=
  outsideDrives_of_outsideGrants (by simp)

@[simp] theorem outsideDrives_judgeRequest (r : Side) (s : State) :
    outsideDrives (judgeRequest r s) = outsideDrives s :=
  outsideDrives_of_outsideGrants (by simp)

@[simp] theorem outsideDrives_judgeRakeMode (r : Side) (s : State) :
    outsideDrives (judgeRakeMode r s) = outsideDrives s :=
  outsideDrives_of_outsideGrants (by simp)

@[simp] theorem outsideDrives_judgeJamTimer (r : Side) (s : State) :
    outsideDrives (judgeJamTimer r s) = outsideDrives s :=
  outsideDrives_of_outsideGrants (by simp)

@[simp] theorem outsideDrives_completeCycle (r : Side) (s : State) :
    outsideDrives (completeCycle r s) = outsideDrives s := by
  simp only [completeCycle, outsideDrives_judgeRequest, outsideDrives_postRake]
  rw [outsideDrives_setRake _ _ _ (by rfl)]

@[simp] theorem outsideDrives_judgePark (r : Side) (s : State) :
    outsideDrives (judgePark r s) = outsideDrives s := by
  simp only [judgePark]
  repeat' split
  all_goals
    first
    | rfl
    | simp only [outsideDrives_completeCycle]
    | rw [outsideDrives_setRake _ _ _ (by rfl)]

@[simp] theorem outsideDrives_suspectJam (r : Side) (c : JamCause) (s : State) :
    outsideDrives (suspectJam r c s) = outsideDrives s := by
  simp only [suspectJam, outsideDrives_postRake]
  rw [outsideDrives_setRake _ _ _ (by rfl)]

@[simp] theorem outsideDrives_enterJammed (r : Side) (c : JamCause) (s : State) :
    outsideDrives (enterJammed r c s) = outsideDrives s := by
  simp only [enterJammed, outsideDrives_stateRakeJammed, outsideDrives_postRake]
  rw [outsideDrives_setRake _ _ _ (by rfl)]

@[simp] theorem outsideDrives_travelExpired (r : Side) (s : State) :
    outsideDrives (travelExpired r s) = outsideDrives s := by
  unfold travelExpired; split <;> simp

@[simp] theorem outsideDrives_jamCurrentReached (r : Side) (s : State) :
    outsideDrives (jamCurrentReached r s) = outsideDrives s := by
  unfold jamCurrentReached; split <;> simp

@[simp] theorem outsideDrives_reverseExpired (r : Side) (s : State) :
    outsideDrives (reverseExpired r s) = outsideDrives s := by
  simp only [reverseExpired]
  repeat' split
  · simp only [outsideDrives_judgeJamTimer, outsideDrives_postRake]
    rw [outsideDrives_setRake _ _ _ (by rfl)]
  · simp
  · rfl

@[simp] theorem outsideDrives_shedRake (r : Side) (s : State) :
    outsideDrives (shedRake r s) = outsideDrives s :=
  outsideDrives_of_outsideGrants (by simp)

@[simp] theorem outsideDrives_rakeCommandTaken (r : Side) (c : CommandCode) (s : State) :
    outsideDrives (rakeCommandTaken r c s) = outsideDrives s :=
  outsideDrives_setRake _ _ _ rfl

@[simp] theorem outsideDrives_rakeCommandLost (r : Side) (s : State) :
    outsideDrives (rakeCommandLost r s) = outsideDrives s := by
  unfold rakeCommandLost; split
  · simp
  · rw [outsideDrives_setRake _ _ _ (by rfl)]

@[simp] theorem outsideDrives_clearJam (r : Side) (s : State) :
    outsideDrives (clearJam r s) = outsideDrives s := by
  unfold clearJam; split <;>
    simp only [outsideDrives_judgeRequest, outsideDrives_stateRakeJammed] <;>
    rw [outsideDrives_setRake _ _ _ (by rfl)]

@[simp] theorem outsideDrives_resetRake (r : Side) (s : State) :
    outsideDrives (resetRake r s) = outsideDrives s := by
  unfold resetRake; split <;> simp

@[simp] theorem outsideDrives_countInterval (r : Side) (s : State) :
    outsideDrives (countInterval r s) = outsideDrives s := by
  simp only [countInterval]
  repeat' split
  all_goals
    first
    | rfl
    | (try simp only [outsideDrives_giveRequest]
       rw [outsideDrives_setRake _ _ _ (by rfl)])

/-! ### The supply and the points' readers (R55, R74) -/

@[simp] theorem outsideDrives_pumpSupplyLost (p : Pump) (s : State) :
    outsideDrives (pumpSupplyLost p s) = outsideDrives s :=
  outsideDrives_of_outsideGrants (by simp)

@[simp] theorem outsideDrives_startPowerReturn (s : State) :
    outsideDrives (startPowerReturn s) = outsideDrives s := rfl

@[simp] theorem outsideDrives_stopPowerReturn (s : State) :
    outsideDrives (stopPowerReturn s) = outsideDrives s := rfl

@[simp] theorem outsideDrives_setArbiter (x : Arbiter) (s : State) :
    outsideDrives { s with arbiter := x } = outsideDrives s := rfl

@[simp] theorem outsideDrives_supplyLost (s : State) :
    outsideDrives (supplyLost s) = outsideDrives s := by
  simp only [supplyLost, outsideDrives_stopPowerReturn]
  rw [eachSide_view outsideDrives _ outsideDrives_shedRake,
    eachPump_view outsideDrives _ outsideDrives_pumpSupplyLost]

/-- A change of the supply state touches the drives, the arbiter, the alarm list and the commands. -/
@[simp] theorem outsideDrives_judgeSupply (s : State) :
    outsideDrives (judgeSupply s) = outsideDrives s := by
  simp only [judgeSupply]
  repeat' split
  all_goals simp

/-- Guarded work leaves alone what the work leaves alone. -/
theorem guarded_view {β : Type} (E : State → β) (c : State → Bool) (f : State → State)
    (h : ∀ s, E (f s) = E s) (s : State) : E (guarded c f s) = E s := by
  unfold guarded; split
  · exact h s
  · rfl

@[simp] theorem outsideDrives_pumpPointChanged (n : Nat) (old : PointRec) (p : Pump) (s : State) :
    outsideDrives (pumpPointChanged n old p s) = outsideDrives s := by
  simp only [pumpPointChanged]
  rw [guarded_view outsideDrives _ _ (outsideDrives_judgeFault p .f3),
    guarded_view outsideDrives _ _ (outsideDrives_judgeFault p .f2),
    guarded_view outsideDrives _ _ (outsideDrives_judgeFault p .f1),
    guarded_view outsideDrives _ _ (outsideDrives_judgeSelector p),
    guarded_view outsideDrives _ _ (outsideDrives_judgeOvercurrent p),
    guarded_view outsideDrives _ _ (outsideDrives_feedbackChanged p _)]

@[simp] theorem outsideDrives_rakePointChanged (n : Nat) (r : Side) (s : State) :
    outsideDrives (rakePointChanged n r s) = outsideDrives s := by
  simp only [rakePointChanged]
  rw [guarded_view outsideDrives _ _ (outsideDrives_judgeJamTimer r),
    guarded_view outsideDrives _ _ (outsideDrives_judgePark r)]

/-- The readers of a point, told of its change, touch drives, arbiter, alarm list and commands. -/
@[simp] theorem outsideDrives_pointChanged (n : Nat) (old : PointRec) (s : State) :
    outsideDrives (pointChanged n old s) = outsideDrives s := by
  simp only [pointChanged]
  split
  · rfl
  · rw [eachSide_view outsideDrives _ (outsideDrives_rakePointChanged n),
      eachPump_view outsideDrives _ (outsideDrives_pumpPointChanged n old),
      guarded_view outsideDrives _ _ outsideDrives_judgeSupply]

@[simp] theorem outsideDrives_changePoint (n : Nat) (r : PointRec) (s : State) :
    outsideDrives (changePoint n r s) = outsideDrives (s.setPoint n r) := by simp [changePoint]

/-! ### The end of an event (log 11) -/

@[simp] theorem outsideDrives_settleDrives (s : State) :
    outsideDrives (settleDrives s) = outsideDrives s :=
  outsideDrives_of_outsideGrants (by simp)

/-- What stands outside the drives fixes which tables wait for a method. -/
theorem awaits_of_outsideDrives {s t : State} (h : outsideDrives t = outsideDrives s) (m : Method) :
    t.awaits m = s.awaits m := by
  have h' : t.tables = s.tables := by simpa [outsideDrives] using congrArg State.tables h
  simp only [State.awaits, h']

/-- With no QUIET activation pending, the end of an event touches drives, commands and notices alone. -/
theorem outsideDrives_finishDrives (s : State) (h : s.awaits .quiet = false) :
    outsideDrives (finishDrives s) = outsideDrives s := by
  have h1 : (settleDrives s).awaits .quiet = false := by
    rw [awaits_of_outsideDrives (outsideDrives_settleDrives s), h]
  simp [finishDrives, activateQuiet, h1]

/-- With no QUIET activation pending, what `finishDrives` does. -/
theorem finishDrives_eq (s : State) (h : s.awaits .quiet = false) :
    finishDrives s = finishAlarms (settleDrives s) := by
  have h1 : (settleDrives s).awaits .quiet = false := by
    rw [awaits_of_outsideDrives (outsideDrives_settleDrives s), h]
  simp [finishDrives, activateQuiet, h1]

end Sys2Proof.Laws
end

