-- ==== Sys2Proof/Laws/Views.lean ====
section
/-! SUPPORT. What agreement under an eraser says of each part of the state, and what the shared operations
on commands leave: the bridge from the frame equations to the fields. -/

namespace Sys2Proof.Laws

open Sys2Proof.Machine Sys2Proof.Safety

variable {s t : State}

/-! ### Agreement outside the alarm unit -/

theorem seq_of_outsideAlarms (h : outsideAlarms t = outsideAlarms s) : t.seq = s.seq := by
  simpa [outsideAlarms] using congrArg State.seq h

theorem screens_of_outsideAlarms (h : outsideAlarms t = outsideAlarms s) : t.screens = s.screens := by
  simpa [outsideAlarms] using congrArg State.screens h

theorem arbiter_of_outsideAlarms (h : outsideAlarms t = outsideAlarms s) : t.arbiter = s.arbiter := by
  simpa [outsideAlarms] using congrArg State.arbiter h

theorem loop_of_outsideAlarms (h : outsideAlarms t = outsideAlarms s) : t.loop = s.loop := by
  simpa [outsideAlarms] using congrArg State.loop h

theorem actuator_of_outsideAlarms (h : outsideAlarms t = outsideAlarms s) :
    t.transit.actuator = s.transit.actuator := by
  simpa [outsideAlarms] using congrArg (fun u => u.transit.actuator) h

/-- A judgement of conditions leaves every pump's record. -/
theorem pump_of_outsideAlarms (h : outsideAlarms t = outsideAlarms s) (p : Pump) :
    t.pump p = s.pump p := by
  unfold State.pump; rw [seq_of_outsideAlarms h]

/-- A judgement of conditions leaves every rake's record. -/
theorem rake_of_outsideAlarms (h : outsideAlarms t = outsideAlarms s) (r : Side) :
    t.rake r = s.rake r := by
  unfold State.rake; rw [screens_of_outsideAlarms h]

@[simp] theorem pump_stateCondition (n : Nat) (b : Bool) (s : State) (p : Pump) :
    (stateCondition n b s).pump p = s.pump p := pump_of_outsideAlarms (by simp) p

@[simp] theorem rake_stateCondition (n : Nat) (b : Bool) (s : State) (r : Side) :
    (stateCondition n b s).rake r = s.rake r := rake_of_outsideAlarms (by simp) r

@[simp] theorem pump_statePumpConditions (q : Pump) (s : State) (p : Pump) :
    (statePumpConditions q s).pump p = s.pump p := pump_of_outsideAlarms (by simp) p

@[simp] theorem rake_statePumpConditions (q : Pump) (s : State) (r : Side) :
    (statePumpConditions q s).rake r = s.rake r := rake_of_outsideAlarms (by simp) r

@[simp] theorem pump_stateRakeJammed (x : Side) (s : State) (p : Pump) :
    (stateRakeJammed x s).pump p = s.pump p := pump_of_outsideAlarms (by simp) p

@[simp] theorem rake_stateRakeJammed (x : Side) (s : State) (r : Side) :
    (stateRakeJammed x s).rake r = s.rake r := rake_of_outsideAlarms (by simp) r

/-! ### Agreement outside the drives -/

theorem points_of_outsideDrives (h : outsideDrives t = outsideDrives s) : t.points = s.points := by
  simpa [outsideDrives] using congrArg State.points h

theorem flow_of_outsideDrives (h : outsideDrives t = outsideDrives s) : t.flow = s.flow := by
  simpa [outsideDrives] using congrArg State.flow h

theorem clock_of_outsideDrives (h : outsideDrives t = outsideDrives s) : t.clock = s.clock := by
  simpa [outsideDrives] using congrArg State.clock h

theorem chip_of_outsideDrives (h : outsideDrives t = outsideDrives s) : t.chip = s.chip := by
  simpa [outsideDrives] using congrArg State.chip h

theorem spill_of_outsideDrives (h : outsideDrives t = outsideDrives s) : t.spill = s.spill := by
  simpa [outsideDrives] using congrArg State.spill h

theorem report_of_outsideDrives (h : outsideDrives t = outsideDrives s) : t.report = s.report := by
  simpa [outsideDrives] using congrArg State.report h

theorem handler_of_outsideDrives (h : outsideDrives t = outsideDrives s) :
    t.handler = s.handler := by
  simpa [outsideDrives] using congrArg State.handler h

theorem tables_of_outsideDrives (h : outsideDrives t = outsideDrives s) : t.tables = s.tables := by
  simpa [outsideDrives] using congrArg State.tables h

theorem pending_of_outsideDrives (h : outsideDrives t = outsideDrives s) :
    t.pending = s.pending := by
  simpa [outsideDrives] using congrArg State.pending h

theorem queue_of_outsideDrives (h : outsideDrives t = outsideDrives s) :
    t.transit.queue = s.transit.queue := by
  simpa [outsideDrives] using congrArg (fun u => u.transit.queue) h

theorem response_of_outsideDrives (h : outsideDrives t = outsideDrives s) :
    t.transit.response = s.transit.response := by
  simpa [outsideDrives] using congrArg (fun u => u.transit.response) h

theorem gate_of_outsideDrives (h : outsideDrives t = outsideDrives s) :
    t.transit.gate = s.transit.gate := by
  simpa [outsideDrives] using congrArg (fun u => u.transit.gate) h

theorem lap_of_outsideDrives (h : outsideDrives t = outsideDrives s) :
    t.transit.lap.map unmarked = s.transit.lap.map unmarked := by
  simpa [outsideDrives] using congrArg (fun u => u.transit.lap) h

theorem screen_of_outsideDrives (h : outsideDrives t = outsideDrives s) (r : Side) :
    t.screen r = s.screen r := by
  have h' : t.screens.screens = s.screens.screens := by
    simpa [outsideDrives] using congrArg (fun u => u.screens.screens) h
  unfold State.screen; rw [h']

theorem bands_of_outsideDrives (h : outsideDrives t = outsideDrives s) :
    t.seq.engaged = s.seq.engaged ∧ t.seq.demand = s.seq.demand ∧
      t.seq.highLevel = s.seq.highLevel := by
  refine ⟨?_, ?_, ?_⟩
  · simpa [outsideDrives] using congrArg (fun u => u.seq.engaged) h
  · simpa [outsideDrives] using congrArg (fun u => u.seq.demand) h
  · simpa [outsideDrives] using congrArg (fun u => u.seq.highLevel) h

theorem mgmt_of_outsideDrives (h : outsideDrives t = outsideDrives s) (p : Pump) :
    (t.pump p).mgmt = (s.pump p).mgmt ∧ (t.pump p).runSeconds = (s.pump p).runSeconds := by
  have h' : t.seq.pumps.map keptByJudging = s.seq.pumps.map keptByJudging := by
    simpa [outsideDrives] using congrArg (fun u => u.seq.pumps) h
  have h2 := congrArg (fun x : Six PumpRec => x.get p) h'
  have h3 : ∀ x : Six PumpRec, (x.map keptByJudging).get p = keptByJudging (x.get p) := by
    intro x; cases p <;> rfl
  simp only [h3] at h2
  have := congrArg PumpRec.mgmt h2
  have h5 := congrArg PumpRec.runSeconds h2
  exact ⟨by simpa [keptByJudging, State.pump] using this,
    by simpa [keptByJudging, State.pump] using h5⟩

/-! ### Posting and withdrawing a command (R25, R26) -/

@[simp] theorem pump_postCommand (a : Actuator) (c : CommandCode) (g : Byte) (n : Option Nat)
    (s : State) (q : Pump) : (postCommand a c g n s).pump q = s.pump q := by
  unfold postCommand; split <;> rfl

@[simp] theorem rake_postCommand (a : Actuator) (c : CommandCode) (g : Byte) (n : Option Nat)
    (s : State) (q : Side) : (postCommand a c g n s).rake q = s.rake q := by
  unfold postCommand; split <;> rfl

@[simp] theorem run_postCommand (a : Actuator) (c : CommandCode) (g : Byte) (n : Option Nat)
    (s : State) : (postCommand a c g n s).seq = s.seq := by
  unfold postCommand; split <;> rfl

@[simp] theorem arbiter_postCommand (a : Actuator) (c : CommandCode) (g : Byte) (n : Option Nat)
    (s : State) : (postCommand a c g n s).arbiter = s.arbiter := by
  unfold postCommand; split <;> rfl

@[simp] theorem screens_postCommand (a : Actuator) (c : CommandCode) (g : Byte) (n : Option Nat)
    (s : State) : (postCommand a c g n s).screens = s.screens := by
  unfold postCommand; split <;> rfl

@[simp] theorem tables_postCommand (a : Actuator) (c : CommandCode) (g : Byte) (n : Option Nat)
    (s : State) : (postCommand a c g n s).tables = s.tables := by
  unfold postCommand; split <;> rfl

@[simp] theorem alarms_postCommand (a : Actuator) (c : CommandCode) (g : Byte) (n : Option Nat)
    (s : State) : (postCommand a c g n s).alarms = s.alarms := by
  unfold postCommand; split <;> rfl

@[simp] theorem pump_withdraw (a : Actuator) (s : State) (q : Pump) :
    (withdraw a s).pump q = s.pump q := by
  unfold withdraw settleFairness; split <;> rfl

@[simp] theorem rake_withdraw (a : Actuator) (s : State) (q : Side) :
    (withdraw a s).rake q = s.rake q := by
  unfold withdraw settleFairness; split <;> rfl

@[simp] theorem seq_withdraw (a : Actuator) (s : State) : (withdraw a s).seq = s.seq := by
  unfold withdraw settleFairness; split <;> rfl

/-- What STOP or RUN posted to a pump leaves of each pump's record. -/
theorem pump_postPump (p q : Pump) (c : CommandCode) (s : State) :
    (postPump p c s).pump q =
      if q = p then { s.pump p with command := c, confirmed := false } else s.pump q := by
  simp [postPump, State.pump_setPump]

@[simp] theorem rake_postPump (p : Pump) (c : CommandCode) (s : State) (r : Side) :
    (postPump p c s).rake r = s.rake r := by simp [postPump]

/-- What a command posted to a rake leaves of each rake's record. -/
theorem rake_postRake (x y : Side) (c : CommandCode) (s : State) :
    (postRake x c s).rake y =
      if y = x then { s.rake x with command := c, confirmed := false } else s.rake y := by
  simp [postRake, State.rake_setRake]

@[simp] theorem pump_postRake (x : Side) (c : CommandCode) (s : State) (p : Pump) :
    (postRake x c s).pump p = s.pump p := by simp [postRake]

/-- Replacing in place keeps the actuator of a command. -/
theorem isFor_recommand (o : OwnFrame) (a b : Actuator) (c : CommandCode) (g : Byte) (n : Nat) :
    (o.recommand a c g n).isFor b = decide (a = b) := rfl

/-- A posted command stands unsent in the ACTUATOR class, if its actuator has a gate entry (R25, R26). -/
theorem waits_postCommand (a : Actuator) (c : CommandCode) (g : Byte) (n : Option Nat) (s : State)
    (h : (s.gateEntry a).isSome = true) : Waits (postCommand a c g n s) a c := by
  obtain ⟨e, he⟩ := Option.isSome_iff_exists.mp h
  have hd : e.drive = a := by
    have := List.find?_some he
    simpa using this
  have key : ∃ o ∈ commandPosted e a c g n s.transit.actuator, ∃ arg, o.ref = .command a c arg := by
    unfold commandPosted
    split
    · rename_i hany
      obtain ⟨o, ho, hf⟩ := List.any_eq_true.mp hany
      exact ⟨_, List.mem_map.mpr ⟨o, ho, rfl⟩, g, by simp [hf, OwnFrame.recommand]⟩
    · exact ⟨commandFrame e c g (n.getD 0), by simp, g, by simp [commandFrame, hd]⟩
  obtain ⟨o, ho, arg, hr⟩ := key
  refine ⟨o, ?_, arg, hr⟩
  simpa [postCommand, he, supersede] using ho

/-- STOP or RUN posted to a pump stands posted. -/
theorem posted_postPump (p : Pump) (c : CommandCode) (s : State) :
    Posted (postPump p c s) (.pump p) c := by
  intro h
  have hg : (s.setPump p { s.pump p with command := c, confirmed := false }).gateEntry (.pump p) =
      (postPump p c s).gateEntry (.pump p) := by
    unfold postPump postCommand; split <;> simp_all [State.gateEntry, supersede]
  exact waits_postCommand _ _ _ _ _ (by rw [hg]; exact h)

/-- A command posted to a rake stands posted. -/
theorem posted_postRake (r : Side) (c : CommandCode) (s : State) :
    Posted (postRake r c s) (.rake r) c := by
  intro h
  have hg : (s.setRake r { s.rake r with command := c, confirmed := false }).gateEntry (.rake r) =
      (postRake r c s).gateEntry (.rake r) := by
    unfold postRake postCommand; split <;> simp_all [State.gateEntry, supersede]
  exact waits_postCommand _ _ _ _ _ (by rw [hg]; exact h)

/-- A withdrawal leaves no unsent command for the actuator (R26). -/
theorem none_withdraw (a : Actuator) (s : State) :
    (withdraw a s).transit.actuator.any (OwnFrame.isFor a) = false := by
  have h : (withdraw a s).transit.actuator =
      s.transit.actuator.filter fun o => !o.isFor a := by
    unfold withdraw settleFairness; split <;> rfl
  rw [h]
  simp

end Sys2Proof.Laws
end

