-- ==== Sys2Proof/Laws/Drives.lean ====
section
/-! SUPPORT. A move of one drive leaves the record of every other drive. -/

namespace Sys2Proof.Laws

open Sys2Proof.Machine Sys2Proof.Safety

/-! ### Orders and timers -/

@[simp] theorem pump_startStagger (s : State) (q : Pump) :
    (startStagger s).pump q = s.pump q := rfl

@[simp] theorem rake_startStagger (s : State) (r : Side) :
    (startStagger s).rake r = s.rake r := rfl

@[simp] theorem pump_startPowerReturn (s : State) (q : Pump) :
    (startPowerReturn s).pump q = s.pump q := rfl

@[simp] theorem rake_startPowerReturn (s : State) (r : Side) :
    (startPowerReturn s).rake r = s.rake r := rfl

@[simp] theorem pump_stopPowerReturn (s : State) (q : Pump) :
    (stopPowerReturn s).pump q = s.pump q := rfl

@[simp] theorem rake_stopPowerReturn (s : State) (r : Side) :
    (stopPowerReturn s).rake r = s.rake r := rfl

@[simp] theorem pump_leaveRunOrder (p : Pump) (s : State) (q : Pump) :
    (leaveRunOrder p s).pump q = s.pump q := rfl

@[simp] theorem rake_leaveRunOrder (p : Pump) (s : State) (r : Side) :
    (leaveRunOrder p s).rake r = s.rake r := rfl

@[simp] theorem pump_joinRunOrder (p : Pump) (s : State) (q : Pump) :
    (joinRunOrder p s).pump q = s.pump q := rfl

@[simp] theorem rake_joinRunOrder (p : Pump) (s : State) (r : Side) :
    (joinRunOrder p s).rake r = s.rake r := rfl

@[simp] theorem pump_toDutyTail (p : Pump) (s : State) (q : Pump) :
    (toDutyTail p s).pump q = s.pump q := rfl

@[simp] theorem rake_toDutyTail (p : Pump) (s : State) (r : Side) :
    (toDutyTail p s).rake r = s.rake r := rfl

@[simp] theorem pump_setPreempt (x : Side) (b : Bool) (s : State) (q : Pump) :
    (setPreempt x b s).pump q = s.pump q := rfl

@[simp] theorem rake_setPreempt (x : Side) (b : Bool) (s : State) (r : Side) :
    (setPreempt x b s).rake r = s.rake r := rfl

@[simp] theorem pump_releaseDrive (p : Pump) (s : State) (q : Pump) :
    (releaseDrive p s).pump q = s.pump q := by unfold releaseDrive; split <;> rfl

@[simp] theorem rake_releaseDrive (p : Pump) (s : State) (r : Side) :
    (releaseDrive p s).rake r = s.rake r := by unfold releaseDrive; split <;> rfl

/-- The record of another pump after one pump's record is replaced. -/
@[simp] theorem pump_setPump_other {p q : Pump} (h : q ≠ p) (r : PumpRec) (s : State) :
    (s.setPump p r).pump q = s.pump q := by simp [State.pump_setPump, h]

@[simp] theorem pump_postPump_other {p q : Pump} (h : q ≠ p) (c : CommandCode) (s : State) :
    (postPump p c s).pump q = s.pump q := by simp [pump_postPump, h]

@[simp] theorem rake_setRake_other {x y : Side} (h : y ≠ x) (v : RakeRec) (s : State) :
    (s.setRake x v).rake y = s.rake y := by simp [State.rake_setRake, h]

@[simp] theorem rake_postRake_other {x y : Side} (h : y ≠ x) (c : CommandCode) (s : State) :
    (postRake x c s).rake y = s.rake y := by simp [rake_postRake, h]

/-! ### Moves of a pump -/

@[simp] theorem pump_protectTo_other {p q : Pump} (h : q ≠ p) (st : PumpState) (s : State) :
    (protectTo st p s).pump q = s.pump q := by
  simp only [protectTo]
  simp [h]

@[simp] theorem rake_protectTo (p : Pump) (st : PumpState) (s : State) (r : Side) :
    (protectTo st p s).rake r = s.rake r := by
  simp only [protectTo]
  simp

@[simp] theorem pump_judgeLatch_other {p q : Pump} (h : q ≠ p) (s : State) :
    (judgeLatch p s).pump q = s.pump q := by
  simp only [judgeLatch]
  repeat' split
  all_goals simp [h]

@[simp] theorem rake_judgeLatch (p : Pump) (s : State) (r : Side) :
    (judgeLatch p s).rake r = s.rake r := by
  simp only [judgeLatch]
  repeat' split
  all_goals simp

@[simp] theorem pump_judgeMove_other {p q : Pump} (h : q ≠ p) (s : State) :
    (judgeMove p s).pump q = s.pump q := by
  simp only [judgeMove]
  repeat' split
  all_goals simp [h]

@[simp] theorem rake_judgeMove (p : Pump) (s : State) (r : Side) :
    (judgeMove p s).rake r = s.rake r := by
  simp only [judgeMove]
  repeat' split
  all_goals simp

@[simp] theorem pump_tripInhibited_other {p q : Pump} (h : q ≠ p) (s : State) :
    (tripInhibited p s).pump q = s.pump q := by
  unfold tripInhibited; split <;> simp [h]

@[simp] theorem rake_tripInhibited (p : Pump) (s : State) (r : Side) :
    (tripInhibited p s).rake r = s.rake r := by
  unfold tripInhibited; split <;> simp

@[simp] theorem pump_judgePump_other {p q : Pump} (h : q ≠ p) (s : State) :
    (judgePump p s).pump q = s.pump q := by
  simp only [judgePump]
  simp [h]

@[simp] theorem rake_judgePump (p : Pump) (s : State) (r : Side) :
    (judgePump p s).rake r = s.rake r := by
  simp only [judgePump]
  simp

@[simp] theorem pump_enterRunning_other {p q : Pump} (h : q ≠ p) (s : State) :
    (enterRunning p s).pump q = s.pump q := by
  simp only [enterRunning]
  simp [h]

@[simp] theorem rake_enterRunning (p : Pump) (s : State) (r : Side) :
    (enterRunning p s).rake r = s.rake r := by
  simp only [enterRunning]
  simp

@[simp] theorem pump_startPump_other {p q : Pump} (h : q ≠ p) (s : State) :
    (startPump p s).pump q = s.pump q := by
  simp only [startPump]
  repeat' split
  all_goals simp [h]

@[simp] theorem rake_startPump (p : Pump) (s : State) (r : Side) :
    (startPump p s).rake r = s.rake r := by
  simp only [startPump]
  repeat' split
  all_goals simp

@[simp] theorem pump_pumpStopped_other {p q : Pump} (h : q ≠ p) (s : State) :
    (pumpStopped p s).pump q = s.pump q := by
  simp only [pumpStopped]
  simp [h]

@[simp] theorem rake_pumpStopped (p : Pump) (s : State) (r : Side) :
    (pumpStopped p s).rake r = s.rake r := by
  simp only [pumpStopped]
  simp

@[simp] theorem pump_enterStopping_other {p q : Pump} (h : q ≠ p) (s : State) :
    (enterStopping p s).pump q = s.pump q := by
  simp only [enterStopping]
  repeat' split
  all_goals simp [h]

@[simp] theorem rake_enterStopping (p : Pump) (s : State) (r : Side) :
    (enterStopping p s).rake r = s.rake r := by
  simp only [enterStopping]
  repeat' split
  all_goals simp

@[simp] theorem pump_pumpSupplyLost_other {p q : Pump} (h : q ≠ p) (s : State) :
    (pumpSupplyLost p s).pump q = s.pump q := by
  simp only [pumpSupplyLost]
  repeat' split
  all_goals simp [h]

@[simp] theorem rake_pumpSupplyLost (p : Pump) (s : State) (r : Side) :
    (pumpSupplyLost p s).rake r = s.rake r := by
  simp only [pumpSupplyLost]
  repeat' split
  all_goals simp

@[simp] theorem pump_pumpLeavesAuto_other {p q : Pump} (h : q ≠ p) (st : PumpState) (s : State) :
    (pumpLeavesAuto p st s).pump q = s.pump q := by
  simp only [pumpLeavesAuto]
  simp [h]

@[simp] theorem rake_pumpLeavesAuto (p : Pump) (st : PumpState) (s : State) (r : Side) :
    (pumpLeavesAuto p st s).rake r = s.rake r := by
  simp only [pumpLeavesAuto]
  simp

@[simp] theorem pump_placePump_other {p q : Pump} (h : q ≠ p) (s : State) :
    (placePump p s).pump q = s.pump q := by
  simp only [placePump]
  repeat' split
  all_goals simp [h]

@[simp] theorem rake_placePump (p : Pump) (s : State) (r : Side) :
    (placePump p s).rake r = s.rake r := by
  simp only [placePump]
  repeat' split
  all_goals simp

@[simp] theorem pump_judgePumpMode_other {p q : Pump} (h : q ≠ p) (s : State) :
    (judgePumpMode p s).pump q = s.pump q := by
  simp only [judgePumpMode]
  repeat' split
  all_goals simp [h]

@[simp] theorem rake_judgePumpMode (p : Pump) (s : State) (r : Side) :
    (judgePumpMode p s).rake r = s.rake r := by
  simp only [judgePumpMode]
  repeat' split
  all_goals simp

@[simp] theorem pump_judgeSelector_other {p q : Pump} (h : q ≠ p) (s : State) :
    (judgeSelector p s).pump q = s.pump q := by
  simp only [judgeSelector]
  repeat' split
  all_goals simp [h]

@[simp] theorem rake_judgeSelector (p : Pump) (s : State) (r : Side) :
    (judgeSelector p s).rake r = s.rake r := by
  simp only [judgeSelector]
  repeat' split
  all_goals simp

@[simp] theorem pump_setSources_other {p q : Pump} (h : q ≠ p) (x : Sources) (s : State) :
    (s.setSources p x).pump q = s.pump q := by
  simp only [State.setSources]
  simp [h]

@[simp] theorem rake_setSources (p : Pump) (x : Sources) (s : State) (r : Side) :
    (s.setSources p x).rake r = s.rake r := by
  simp only [State.setSources]
  simp

@[simp] theorem pump_judgeFault_other {p q : Pump} (h : q ≠ p) (f : FaultSource) (s : State) :
    (judgeFault p f s).pump q = s.pump q := by
  simp only [judgeFault]
  repeat' split
  all_goals simp [h]

@[simp] theorem rake_judgeFault (p : Pump) (f : FaultSource) (s : State) (r : Side) :
    (judgeFault p f s).rake r = s.rake r := by
  simp only [judgeFault]
  repeat' split
  all_goals simp

@[simp] theorem pump_judgeFaults_other {p q : Pump} (h : q ≠ p) (s : State) :
    (judgeFaults p s).pump q = s.pump q := by
  simp only [judgeFaults]
  simp [h]

@[simp] theorem rake_judgeFaults (p : Pump) (s : State) (r : Side) :
    (judgeFaults p s).rake r = s.rake r := by
  simp only [judgeFaults]
  simp

@[simp] theorem pump_judgeOvercurrent_other {p q : Pump} (h : q ≠ p) (s : State) :
    (judgeOvercurrent p s).pump q = s.pump q := by
  simp only [judgeOvercurrent]
  repeat' split
  all_goals simp [h]

@[simp] theorem rake_judgeOvercurrent (p : Pump) (s : State) (r : Side) :
    (judgeOvercurrent p s).rake r = s.rake r := by
  simp only [judgeOvercurrent]
  repeat' split
  all_goals simp

@[simp] theorem pump_setOvercurrent_other {p q : Pump} (h : q ≠ p) (s : State) :
    (setOvercurrent p s).pump q = s.pump q := by
  simp only [setOvercurrent]
  simp [h]

@[simp] theorem rake_setOvercurrent (p : Pump) (s : State) (r : Side) :
    (setOvercurrent p s).rake r = s.rake r := by
  simp only [setOvercurrent]
  simp

@[simp] theorem pump_overcurrentReached_other {p q : Pump} (h : q ≠ p) (s : State) :
    (overcurrentReached p s).pump q = s.pump q := by
  simp only [overcurrentReached]
  repeat' split
  all_goals simp [h]

@[simp] theorem rake_overcurrentReached (p : Pump) (s : State) (r : Side) :
    (overcurrentReached p s).rake r = s.rake r := by
  simp only [overcurrentReached]
  repeat' split
  all_goals simp

@[simp] theorem pump_startConfirmExpired_other {p q : Pump} (h : q ≠ p) (s : State) :
    (startConfirmExpired p s).pump q = s.pump q := by
  simp only [startConfirmExpired]
  repeat' split
  all_goals simp [h]

@[simp] theorem rake_startConfirmExpired (p : Pump) (s : State) (r : Side) :
    (startConfirmExpired p s).rake r = s.rake r := by
  simp only [startConfirmExpired]
  repeat' split
  all_goals simp

@[simp] theorem pump_stopConfirmExpired_other {p q : Pump} (h : q ≠ p) (s : State) :
    (stopConfirmExpired p s).pump q = s.pump q := by
  simp only [stopConfirmExpired]
  repeat' split
  all_goals simp [h]

@[simp] theorem rake_stopConfirmExpired (p : Pump) (s : State) (r : Side) :
    (stopConfirmExpired p s).rake r = s.rake r := by
  simp only [stopConfirmExpired]
  repeat' split
  all_goals simp

@[simp] theorem pump_pumpCommandLost_other {p q : Pump} (h : q ≠ p) (s : State) :
    (pumpCommandLost p s).pump q = s.pump q := by
  simp only [pumpCommandLost]
  repeat' split
  all_goals simp [h]

@[simp] theorem rake_pumpCommandLost (p : Pump) (s : State) (r : Side) :
    (pumpCommandLost p s).rake r = s.rake r := by
  simp only [pumpCommandLost]
  repeat' split
  all_goals simp

@[simp] theorem pump_pumpCommandTaken_other {p q : Pump} (h : q ≠ p) (c : CommandCode) (s : State) :
    (pumpCommandTaken p c s).pump q = s.pump q := by
  simp only [pumpCommandTaken]
  simp [h]

@[simp] theorem rake_pumpCommandTaken (p : Pump) (c : CommandCode) (s : State) (r : Side) :
    (pumpCommandTaken p c s).rake r = s.rake r := by
  simp only [pumpCommandTaken]
  simp

@[simp] theorem pump_feedbackFell_other {p q : Pump} (h : q ≠ p) (b : Bool) (s : State) :
    (feedbackFell p b s).pump q = s.pump q := by
  simp only [feedbackFell]
  repeat' split
  all_goals simp [h]

@[simp] theorem rake_feedbackFell (p : Pump) (b : Bool) (s : State) (r : Side) :
    (feedbackFell p b s).rake r = s.rake r := by
  simp only [feedbackFell]
  repeat' split
  all_goals simp

@[simp] theorem pump_feedbackMoves_other {p q : Pump} (h : q ≠ p) (s : State) :
    (feedbackMoves p s).pump q = s.pump q := by
  simp only [feedbackMoves]
  repeat' split
  all_goals simp [h]

@[simp] theorem rake_feedbackMoves (p : Pump) (s : State) (r : Side) :
    (feedbackMoves p s).rake r = s.rake r := by
  simp only [feedbackMoves]
  repeat' split
  all_goals simp

@[simp] theorem pump_feedbackReturned_other {p q : Pump} (h : q ≠ p) (b : Bool) (s : State) :
    (feedbackReturned p b s).pump q = s.pump q := by
  simp only [feedbackReturned]
  repeat' split
  all_goals simp [h]

@[simp] theorem rake_feedbackReturned (p : Pump) (b : Bool) (s : State) (r : Side) :
    (feedbackReturned p b s).rake r = s.rake r := by
  simp only [feedbackReturned]
  repeat' split
  all_goals simp

@[simp] theorem pump_feedbackChanged_other {p q : Pump} (h : q ≠ p) (b : Bool) (s : State) :
    (feedbackChanged p b s).pump q = s.pump q := by
  simp only [feedbackChanged]
  simp [h]

@[simp] theorem rake_feedbackChanged (p : Pump) (b : Bool) (s : State) (r : Side) :
    (feedbackChanged p b s).rake r = s.rake r := by
  simp only [feedbackChanged]
  simp

@[simp] theorem pump_releasePump_other {p q : Pump} (h : q ≠ p) (s : State) :
    (releasePump p s).pump q = s.pump q := by
  simp only [releasePump]
  repeat' split
  all_goals simp [h]

@[simp] theorem rake_releasePump (p : Pump) (s : State) (r : Side) :
    (releasePump p s).rake r = s.rake r := by
  simp only [releasePump]
  repeat' split
  all_goals simp

@[simp] theorem pump_protectPump_other {p q : Pump} (h : q ≠ p) (s : State) :
    (protectPump p s).pump q = s.pump q := by
  simp only [protectPump]
  repeat' split
  all_goals simp [h]

@[simp] theorem rake_protectPump (p : Pump) (s : State) (r : Side) :
    (protectPump p s).rake r = s.rake r := by
  simp only [protectPump]
  repeat' split
  all_goals simp

@[simp] theorem pump_clearLatch_other {p q : Pump} (h : q ≠ p) (s : State) :
    (clearLatch p s).pump q = s.pump q := by
  simp only [clearLatch]
  repeat' split
  all_goals simp [h]

@[simp] theorem rake_clearLatch (p : Pump) (s : State) (r : Side) :
    (clearLatch p s).rake r = s.rake r := by
  simp only [clearLatch]
  repeat' split
  all_goals simp

/-! ### Moves of a rake -/

@[simp] theorem rake_giveRequest_other {x y : Side} (h : y ≠ x) (s : State) :
    (giveRequest x s).rake y = s.rake y := by
  simp only [giveRequest]
  repeat' split
  all_goals simp [h]

@[simp] theorem pump_giveRequest (x : Side) (s : State) (q : Pump) :
    (giveRequest x s).pump q = s.pump q := by
  simp only [giveRequest]
  repeat' split
  all_goals simp

@[simp] theorem rake_judgeRequest_other {x y : Side} (h : y ≠ x) (s : State) :
    (judgeRequest x s).rake y = s.rake y := by
  simp only [judgeRequest]
  repeat' split
  all_goals simp [h]

@[simp] theorem pump_judgeRequest (x : Side) (s : State) (q : Pump) :
    (judgeRequest x s).pump q = s.pump q := by
  simp only [judgeRequest]
  repeat' split
  all_goals simp

@[simp] theorem rake_rakeLeavesAuto_other {x y : Side} (h : y ≠ x) (st : RakeState) (s : State) :
    (rakeLeavesAuto x st s).rake y = s.rake y := by
  simp only [rakeLeavesAuto]
  simp [h]

@[simp] theorem pump_rakeLeavesAuto (x : Side) (st : RakeState) (s : State) (q : Pump) :
    (rakeLeavesAuto x st s).pump q = s.pump q := by
  simp only [rakeLeavesAuto]
  simp

@[simp] theorem rake_placeRake_other {x y : Side} (h : y ≠ x) (s : State) :
    (placeRake x s).rake y = s.rake y := by
  simp only [placeRake]
  repeat' split
  all_goals simp [h]

@[simp] theorem pump_placeRake (x : Side) (s : State) (q : Pump) :
    (placeRake x s).pump q = s.pump q := by
  simp only [placeRake]
  repeat' split
  all_goals simp

@[simp] theorem rake_judgeRakeMode_other {x y : Side} (h : y ≠ x) (s : State) :
    (judgeRakeMode x s).rake y = s.rake y := by
  simp only [judgeRakeMode]
  repeat' split
  all_goals simp [h]

@[simp] theorem pump_judgeRakeMode (x : Side) (s : State) (q : Pump) :
    (judgeRakeMode x s).pump q = s.pump q := by
  simp only [judgeRakeMode]
  repeat' split
  all_goals simp

@[simp] theorem rake_judgeJamTimer_other {x y : Side} (h : y ≠ x) (s : State) :
    (judgeJamTimer x s).rake y = s.rake y := by
  simp only [judgeJamTimer]
  repeat' split
  all_goals simp [h]

@[simp] theorem pump_judgeJamTimer (x : Side) (s : State) (q : Pump) :
    (judgeJamTimer x s).pump q = s.pump q := by
  simp only [judgeJamTimer]
  repeat' split
  all_goals simp

@[simp] theorem rake_grantRake_other {x y : Side} (h : y ≠ x) (s : State) :
    (grantRake x s).rake y = s.rake y := by
  simp only [grantRake]
  simp [h]

@[simp] theorem pump_grantRake (x : Side) (s : State) (q : Pump) :
    (grantRake x s).pump q = s.pump q := by
  simp only [grantRake]
  simp

@[simp] theorem rake_completeCycle_other {x y : Side} (h : y ≠ x) (s : State) :
    (completeCycle x s).rake y = s.rake y := by
  simp only [completeCycle]
  simp [h]

@[simp] theorem pump_completeCycle (x : Side) (s : State) (q : Pump) :
    (completeCycle x s).pump q = s.pump q := by
  simp only [completeCycle]
  simp

@[simp] theorem rake_judgePark_other {x y : Side} (h : y ≠ x) (s : State) :
    (judgePark x s).rake y = s.rake y := by
  simp only [judgePark]
  repeat' split
  all_goals simp [h]

@[simp] theorem pump_judgePark (x : Side) (s : State) (q : Pump) :
    (judgePark x s).pump q = s.pump q := by
  simp only [judgePark]
  repeat' split
  all_goals simp

@[simp] theorem rake_suspectJam_other {x y : Side} (h : y ≠ x) (c : JamCause) (s : State) :
    (suspectJam x c s).rake y = s.rake y := by
  simp only [suspectJam]
  simp [h]

@[simp] theorem pump_suspectJam (x : Side) (c : JamCause) (s : State) (q : Pump) :
    (suspectJam x c s).pump q = s.pump q := by
  simp only [suspectJam]
  simp

@[simp] theorem rake_enterJammed_other {x y : Side} (h : y ≠ x) (c : JamCause) (s : State) :
    (enterJammed x c s).rake y = s.rake y := by
  simp only [enterJammed]
  simp [h]

@[simp] theorem pump_enterJammed (x : Side) (c : JamCause) (s : State) (q : Pump) :
    (enterJammed x c s).pump q = s.pump q := by
  simp only [enterJammed]
  simp

@[simp] theorem rake_travelExpired_other {x y : Side} (h : y ≠ x) (s : State) :
    (travelExpired x s).rake y = s.rake y := by
  simp only [travelExpired]
  repeat' split
  all_goals simp [h]

@[simp] theorem pump_travelExpired (x : Side) (s : State) (q : Pump) :
    (travelExpired x s).pump q = s.pump q := by
  simp only [travelExpired]
  repeat' split
  all_goals simp

@[simp] theorem rake_jamCurrentReached_other {x y : Side} (h : y ≠ x) (s : State) :
    (jamCurrentReached x s).rake y = s.rake y := by
  simp only [jamCurrentReached]
  repeat' split
  all_goals simp [h]

@[simp] theorem pump_jamCurrentReached (x : Side) (s : State) (q : Pump) :
    (jamCurrentReached x s).pump q = s.pump q := by
  simp only [jamCurrentReached]
  repeat' split
  all_goals simp

@[simp] theorem rake_reverseExpired_other {x y : Side} (h : y ≠ x) (s : State) :
    (reverseExpired x s).rake y = s.rake y := by
  simp only [reverseExpired]
  repeat' split
  all_goals simp [h]

@[simp] theorem pump_reverseExpired (x : Side) (s : State) (q : Pump) :
    (reverseExpired x s).pump q = s.pump q := by
  simp only [reverseExpired]
  repeat' split
  all_goals simp

@[simp] theorem rake_shedRake_other {x y : Side} (h : y ≠ x) (s : State) :
    (shedRake x s).rake y = s.rake y := by
  simp only [shedRake]
  repeat' split
  all_goals simp [h]

@[simp] theorem pump_shedRake (x : Side) (s : State) (q : Pump) :
    (shedRake x s).pump q = s.pump q := by
  simp only [shedRake]
  repeat' split
  all_goals simp

@[simp] theorem rake_rakeCommandTaken_other {x y : Side} (h : y ≠ x) (c : CommandCode) (s : State) :
    (rakeCommandTaken x c s).rake y = s.rake y := by
  simp only [rakeCommandTaken]
  simp [h]

@[simp] theorem pump_rakeCommandTaken (x : Side) (c : CommandCode) (s : State) (q : Pump) :
    (rakeCommandTaken x c s).pump q = s.pump q := by
  simp only [rakeCommandTaken]
  simp

@[simp] theorem rake_rakeCommandLost_other {x y : Side} (h : y ≠ x) (s : State) :
    (rakeCommandLost x s).rake y = s.rake y := by
  simp only [rakeCommandLost]
  repeat' split
  all_goals simp [h]

@[simp] theorem pump_rakeCommandLost (x : Side) (s : State) (q : Pump) :
    (rakeCommandLost x s).pump q = s.pump q := by
  simp only [rakeCommandLost]
  repeat' split
  all_goals simp

@[simp] theorem rake_clearJam_other {x y : Side} (h : y ≠ x) (s : State) :
    (clearJam x s).rake y = s.rake y := by
  simp only [clearJam]
  repeat' split
  all_goals simp [h]

@[simp] theorem pump_clearJam (x : Side) (s : State) (q : Pump) :
    (clearJam x s).pump q = s.pump q := by
  simp only [clearJam]
  repeat' split
  all_goals simp

@[simp] theorem rake_resetRake_other {x y : Side} (h : y ≠ x) (s : State) :
    (resetRake x s).rake y = s.rake y := by
  simp only [resetRake]
  repeat' split
  all_goals simp [h]

@[simp] theorem pump_resetRake (x : Side) (s : State) (q : Pump) :
    (resetRake x s).pump q = s.pump q := by
  simp only [resetRake]
  repeat' split
  all_goals simp

@[simp] theorem rake_countInterval_other {x y : Side} (h : y ≠ x) (s : State) :
    (countInterval x s).rake y = s.rake y := by
  simp only [countInterval]
  repeat' split
  all_goals simp [h]

@[simp] theorem pump_countInterval (x : Side) (s : State) (q : Pump) :
    (countInterval x s).pump q = s.pump q := by
  simp only [countInterval]
  repeat' split
  all_goals simp

end Sys2Proof.Laws
end

