-- ==== Sys2Proof/Laws/Line.lean ====
section
/-! SUPPORT. The receiver's judgement, the gap timer's expiry, and what a judgement or a table's change may do to a
pump's latch cause and minimum timers and to an alarm's renotify timer: one lemma each. -/

namespace Sys2Proof.Laws

open Sys2Proof.Machine

/-- A character sent as R2 spells it is judged good by its receiver. -/
@[simp] theorem judgeChar_sentEnding (data : Byte) (marker : Bool) :
    judgeChar data (sentEnding data marker) = .good := by
  simp [judgeChar, sentEnding]

/-- A character is of twelve bit times (R2). -/
@[simp] theorem length_bitTimes (data : Byte) (e : CharEnding) : (bitTimes data e).length = 12 := by
  simp [bitTimes]

/-- A frame's characters on the line are those of the frame, each judged good (R2, R3). -/
theorem good_of_mem_line {f : Frame} {c : Byte × CharEnding} (h : c ∈ f.line) :
    judgeChar c.1 c.2 = .good := by
  unfold Frame.line at h
  split at h
  · simp at h
  · rcases List.mem_cons.mp h with rfl | h
    · simp
    · obtain ⟨d, _, rfl⟩ := List.mem_map.mp h
      simp

/-- The gap timer's expiry changes the loop port alone (R6). -/
theorem gapReached_eq (s : State) : gapReached s = { s with loop := (gapReached s).loop } := by
  unfold gapReached startHealth State.countLine State.setAssembler
  split <;> rfl

/-- The comparison with a new gap limit changes the loop port alone (R6). -/
theorem compareGap_eq (s : State) : compareGap s = { s with loop := (compareGap s).loop } := by
  unfold compareGap guarded
  split
  · exact gapReached_eq s
  · rfl

/-- A held latch keeps its cause, or takes a latching source for it (R116). -/
theorem causeAfter_cases (s : State) (p : Pump) (c : FaultSource) :
    s.causeAfter p c = c ∨ s.causeAfter p c ∈ s.latchingSources p := by
  unfold State.causeAfter
  split
  · exact .inl rfl
  · split
    · exact .inr (List.mem_of_find?_eq_some ‹_›)
    · split
      · exact .inl rfl
      · cases h : s.latchingSources p <;> simp

/-- A cause with the action STOP is never displaced (R116). -/
theorem causeAfter_of_stop {s : State} {p : Pump} {c : FaultSource} (h : s.sourceAction p c = some .stop) :
    s.causeAfter p c = c := by simp [State.causeAfter, h]

/-- A minimum timer over a change of its length goes on as it ran, or has elapsed (R94). -/
theorem lengthChanged_cases (s : State) (old new : Nat) (x : Option Nat) :
    s.lengthChanged old new x = x ∨ s.lengthChanged old new x = none := by
  unfold State.lengthChanged
  split <;> simp

/-- The comparison of the minimum timers leaves every other pump (R94). -/
theorem compareMinimums_pump_ne (old : State) {p q : Pump} (h : q ≠ p) (s : State) :
    (compareMinimums old p s).pump q = s.pump q := by
  cases p <;> cases q <;> first | rfl | exact absurd rfl h

/-- An ALARM activation that leaves the renotify interval as it was stops the timer of an entry or leaves it
running (R159). -/
theorem compareRenotify_sameInterval (n : Nat) (s : State) :
    compareRenotify (renotifyIn s.alarmTable) n s = s ∨
      compareRenotify (renotifyIn s.alarmTable) n s =
        s.setAlarm n { s.alarm n with renotify := none } := by
  unfold compareRenotify
  dsimp only
  split_ifs <;> simp_all

end Sys2Proof.Laws
end

