-- ==== Sys2Proof/Laws/Queues.lean ====
section
/-! SUPPORT. What the shared operations on the transit queue, the notices and the requests do: one equation
for each; and what becomes of a notice whose lap failed. -/

namespace Sys2Proof.Laws

open Sys2Proof.Machine Sys2Proof.Safety

variable {s : State}

/-! ### Hold Out and the transit queue (R13, R14, R24) -/

/-- A judgement of Hold Out changes the loop port alone. -/
theorem judgeHoldOut_frame (s : State) : { judgeHoldOut s with loop := s.loop } = s := by
  simp only [judgeHoldOut]
  cases h : s.loop.holdOut <;> simp only <;> split <;> rfl

@[simp] theorem transit_judgeHoldOut (s : State) : (judgeHoldOut s).transit = s.transit := by
  simp only [judgeHoldOut]
  cases h : s.loop.holdOut <;> simp only <;> split <;> rfl

/-- A completed frame is counted in the loop port alone. -/
theorem countCompleted_frame (s : State) : { countCompleted s with loop := s.loop } = s := by
  simp only [countCompleted]
  cases h : s.loop.holdOut <;> simp only
  split <;> rfl

@[simp] theorem transit_countCompleted (s : State) : (countCompleted s).transit = s.transit := by
  simp only [countCompleted]
  cases h : s.loop.holdOut <;> simp only
  split <;> rfl

/-- An admitted frame stands at the tail of the transit queue (R24). -/
theorem offer_admitted (f : Frame) (s : State) (h : fill s.transit.queue + f.length ≤ 384) :
    (offer f s).transit = { s.transit with queue := s.transit.queue ++ [f] } := by
  have h' : fill s.transit.queue + f.length ≤ Config.transitCapacity := h
  simp [offer, h']

/-- A frame for which there is no room is counted as transit overflow, and that is all (R24). -/
theorem offer_dropped (f : Frame) (s : State) (h : 384 < fill s.transit.queue + f.length) :
    offer f s =
      s.countTransit fun c => { c with overflow := inc16 c.overflow } := by
  have h' : ¬fill s.transit.queue + f.length ≤ Config.transitCapacity := by
    simp only [Config.transitCapacity]; omega
  simp [offer, h']

/-- A frame offered to the transit queue touches the loop port and the transit section alone. -/
theorem offer_frame (f : Frame) (s : State) :
    { offer f s with loop := s.loop, transit := s.transit } = s := by
  unfold offer
  split
  · have h := judgeHoldOut_frame
      { s with transit := { s.transit with queue := s.transit.queue ++ [f] } }
    exact congrArg (fun v : State => { v with transit := s.transit }) h
  · rfl

/-! ### Notices (R27) -/

/-- A notice meeting its class touches the class and the count of notices lost alone. -/
theorem postNotice_frame (o : OwnFrame) (s : State) :
    { postNotice o s with transit := { (postNotice o s).transit with
        notice := s.transit.notice
        count := { (postNotice o s).transit.count with
          noticesLost := s.transit.count.noticesLost } } } = s := by
  unfold postNotice
  by_cases h1 : s.noticeFull = true <;>
    by_cases h2 : s.transit.notice.any OwnFrame.isAlarm = true <;> simp only [h1, h2] <;> rfl

@[simp] theorem outbox_postNotice (o : OwnFrame) (s : State) :
    (postNotice o s).transit.outbox = s.transit.outbox := by
  unfold postNotice
  repeat' split
  all_goals rfl

/-- The class never exceeds its capacity by a notice that meets it (R27). -/
theorem length_postNotice (o : OwnFrame) (s : State)
    (h : s.transit.notice.length + s.loop.tx.sendingNotice.toNat ≤ 8) :
    (postNotice o s).transit.notice.length + (postNotice o s).loop.tx.sendingNotice.toNat ≤ 8 := by
  have hl : (postNotice o s).loop = s.loop := by
    unfold postNotice
    repeat' split
    all_goals rfl
  rw [hl]
  unfold postNotice
  split
  · split
    · rename_i hany
      obtain ⟨x, hx, hp⟩ := List.any_eq_true.mp hany
      have := List.length_eraseP_of_mem hx hp
      have hpos : 0 < s.transit.notice.length := List.length_pos_of_mem hx
      simp only [countLost, State.countTransit, List.length_append, List.length_singleton]
      omega
    · exact h
  · rename_i hfull
    have hroom : s.transit.notice.length + s.loop.tx.sendingNotice.toNat < 8 := by
      have h1 : ¬Config.noticeCapacity ≤ s.transit.notice.length + s.loop.tx.sendingNotice.toNat :=
        of_decide_eq_false (Bool.eq_false_iff.mpr hfull)
      simpa [Config.noticeCapacity] using h1
    simp only [List.length_append, List.length_singleton]
    omega

/-- With no notice waiting, the end of an event posts none. -/
theorem flushNotices_empty (s : State) (h : s.transit.outbox = Outbox.empty) : flushNotices s = s := by
  have ho : (Outbox.empty).ordered = [] := by decide
  simp only [flushNotices, h, ho, List.foldl_nil]
  rw [← h]

/-- The end of an event leaves no notice waiting (log 11). -/
@[simp] theorem outbox_flushNotices (s : State) :
    (flushNotices s).transit.outbox = Outbox.empty := by
  unfold flushNotices
  exact foldl_view (fun u : State => u.transit.outbox) _ (fun s o => outbox_postNotice o s) _ _

@[simp] theorem outbox_finishAlarms (s : State) :
    (finishAlarms s).transit.outbox = Outbox.empty := outbox_flushNotices _

/-! ### Requests (R21, R166) -/

/-- An answer without data that is neither DENIED nor MALFORMED is one response, and nothing else. -/
theorem respond_reply (src code tag : Byte) (a : Answer) (s : State)
    (h1 : a.status ≠ .denied) (h2 : a.status ≠ .malformed) :
    respond src code tag false a s =
      withReply s src code tag
        ([BitVec.ofNat 8 a.status.code, BitVec.ofNat 8 (16 * a.part + (a.parts - 1))] ++ a.data) := by
  unfold respond countStatus
  cases h : a.status <;> simp_all [Answer.payload, u8, withReply, reply]

/-- An answer MALFORMED is one response, counted. -/
theorem respond_malformed (src code tag : Byte) (s : State) :
    respond src code tag false (Answer.plain .malformed) s = withMalformed s src code tag := rfl

/-- A request taken is carried out and answered once, where its characters spell it. -/
theorem request_taken (src tag : Byte) (r : Request) (need : Permission)
    (hp : parseParams r.code r.params = some r) (hn : permissionOfCode r.code = some need)
    (h : Taken s src need) :
    request src tag r s =
      respond src r.code tag (s.startsRestart r) (carryOut r s).1 (carryOut r s).2 := by
  obtain ⟨held, h1, h2⟩ := h.listed
  simp [request, intake, h.on, h1, h.room, Request.payload, takeRequest, hn, judgeReadable, h2, hp]

/-! ### A notice whose lap failed (R34, R161) -/

/-- All that becomes of a notice not taken or lost: counted at retry 2; below it left alone if a SUMMARY, else posted
again. -/
theorem failedNotice_cases (type : NoticeType) (e : LapEntry) (s : State) :
    (2 ≤ e.own.retry ∧ failedNotice type e s =
      s.countTransit fun c => { c with undelivered := inc16 c.undelivered }) ∨
    (e.own.retry < 2 ∧ type = .summary ∧ failedNotice type e s = s) ∨
    (e.own.retry < 2 ∧ type ≠ .summary ∧ failedNotice type e s = repostNotice e s) := by
  by_cases h : 2 ≤ e.own.retry
  · exact .inl ⟨h, if_pos h⟩
  · cases type <;> simp [failedNotice, h] <;> omega

end Sys2Proof.Laws
end

