-- ==== Sys2Proof/Tests/Slice0.lean ====
section
/-! SUPPORT. Tests: the checks on ill-formed commands, the manual's worked examples, one command at a time on
a small station, and for each statement with premises a state and operands that meet them. -/

namespace Sys2Proof.Tests

open Sys2Proof.Machine Sys2Proof.Safety

/-! ### A small station

Pumps 1 and 2, rake A, weir 1; points 0 wet well, 1 supply, 2 and 3 feedback of pumps 1 and 2, 4 and 5 upstream
and downstream of screen A, 6 park of rake A, 7 and 8 high and low float, 9 current of pump 1, 10 weir 1, 11
river. -/

def noRole : Six (Option Nat) := ⟨none, none, none, none, none, none⟩

def roles : Roles :=
  { wetWell := some 0, river := some 11, highFloat := some 7, lowFloat := some 8, supply := some 1
    feedback := ⟨some 2, some 3, none, none, none, none⟩
    current := ⟨some 9, none, none, none, none, none⟩
    selector := noRole, f1 := noRole, f2 := noRole, f3 := noRole
    upstream := ⟨some 4, none⟩, downstream := ⟨some 5, none⟩, park := ⟨some 6, none⟩
    rakeCurrent := ⟨none, none⟩, weirLevel := ⟨some 10, none⟩ }

def stationTable : StationTable :=
  { gapLimit := 4, stallLimit := 10, upper := 256, lower := 128, restrobe := 4, lapTimeout := 1000
    gateway := 50
    actuators := [⟨20, 1, .pump .p1⟩, ⟨21, 1, .pump .p2⟩, ⟨22, 1, .rake .a⟩, ⟨23, 1, .annunciator⟩]
    installed := ⟨true, true, false, false, false, false⟩
    mainsSlots := 2, generatorSlots := 1, powerReturn := 30, roles }

/-- The curves are those of the manual's worked balance. -/
def storageTable : StorageTable :=
  { curve := [(0, 0), (1000, 40000), (2500, 160000), (4000, 340000)], k := 4, window := 10 }

def idleFault : FaultSetting := ⟨.activeHigh, ⟨.latch, .stop⟩⟩

def pumpEntry (p : Pump) : PumpEntry :=
  { pump := p, curve := [(2000, 420), (6000, 310), (9000, 0)], minRun := 120, minOff := 60
    startConfirm := 30, stopConfirm := 20, startLimit := 4
    f1 := idleFault, f2 := idleFault, f3 := idleFault, currentLimit := 850, currentDelay := 5
    overcurrent := ⟨.latch, .stop⟩, uncommanded := ⟨.hold, .alarmOnly⟩ }

def weirDef : WeirDef :=
  { crest := 3600, curve := [(0, 0), (50, 180), (150, 960), (300, 2700)], onsetConfirm := 3
    hysteresis := 20, endConfirm := 4, merge := 30 }

def screenDef : ScreenDef :=
  { rakeStart := 150, blinded := 400, clear := 250, interval := 0, travelLimit := 90, jamLimit := 120
    jamDelay := 3, reverseTime := 8, retryLimit := 1 }

def pointDef (n : Nat) (c : PointClass) : PointDef := ⟨n, c, 5, 20, none, true⟩

def plainTap (n : Nat) : Tap :=
  ⟨30, BitVec.ofNat 8 n, n, 1024, 0, -32768, 32767, .reject, .pass⟩

def tables : ActiveTables :=
  { station := some ⟨[], stationTable⟩
    access := some ⟨[], [⟨240, .configure⟩, ⟨32, .view⟩, ⟨33, .operate⟩]⟩
    tap := some ⟨[], [⟨30, 0, 0, 250, -200, -32768, 32767, .reject, .pass⟩, plainTap 1,
      ⟨30, 2, 2, 1024, 0, 0, 1, .reject, .sink⟩, plainTap 3, plainTap 4, plainTap 5, plainTap 6,
      plainTap 7, plainTap 8, ⟨30, 9, 9, 1024, 0, 0, 900, .clamp, .pass⟩, plainTap 10, plainTap 11]⟩
    point := some ⟨[], [pointDef 0 .level, pointDef 1 .select, pointDef 2 .state, pointDef 3 .state,
      { pointDef 4 .level with substitute := some 5 }, pointDef 5 .level, pointDef 6 .state,
      pointDef 7 .state, pointDef 8 .state, pointDef 9 .current, pointDef 10 .level,
      pointDef 11 .level]⟩
    storage := some ⟨[], storageTable⟩
    pump := some ⟨[], ⟨10, 4300, 2150, [pumpEntry .p1, pumpEntry .p2]⟩⟩
    band := some ⟨[], ⟨[⟨1800, 1200, 300, 1⟩, ⟨2400, 1500, 0, 2⟩], 1⟩⟩
    screen := some ⟨[], ⟨⟨some screenDef, none⟩, 1, 1⟩⟩
    weir := some ⟨[], ⟨some weirDef, none⟩⟩
    alarm := some ⟨[], ⟨List.replicate 18 2 ++ [1, 2, 1] ++ List.replicate 52 2, 2, 10, 15, 3500⟩⟩ }

def good (v : Int) : PointRec := ⟨v, some (v, .good), .good, 0, false⟩

def pointRecs : List PointRec :=
  [good 1871, good 1, good 0, good 0, good 2000, good 1900, good 1, good 0, good 0, good 10, good 3410,
    good 4300] ++ List.replicate 36 PointRec.start

/-- A pump in AUTO in a state, every source absent. -/
def pumpIn (st : PumpState) : PumpRec := { PumpRec.cold with state := st }

/-- Rake A in AUTO in a state. -/
def rakeIn (st : RakeState) : RakeRec := { RakeRec.cold with state := st }

/-- The station in AUTOMATIC, its installed drives idle, its slots free, every point good. -/
def station : State :=
  { State.reset with
    points := ⟨pointRecs, 0, 0⟩
    arbiter := { Arbiter.start with powerReturn := .expired }
    seq := { State.reset.seq with
      pumps := { State.reset.seq.pumps with p1 := pumpIn .idle, p2 := pumpIn .idle }
      duty := [.p1, .p2], engaged := [false, false] }
    screens := { State.reset.screens with rakes := ⟨rakeIn .idle, RakeRec.cold⟩ }
    spill := { Spill.cold with collectionOwed := false, lossToFlag := false }
    alarms := { Alarms.start (List.replicate 73 0) with posted := some .off }
    transit := { State.reset.transit with notice := [], gate :=
      [⟨20, 1, .pump .p1, 0⟩, ⟨21, 1, .pump .p2, 0⟩, ⟨22, 1, .rake .a, 0⟩, ⟨23, 1, .annunciator, 0⟩] }
    clock := ⟨4700, 1000, true⟩
    tables := { State.reset.tables with
      active := tables, marks := PerTable.all false, mode := .automatic } }

/-- The station with the drives of pumps 1 and 2 and rake A in given records. -/
def drives (a b : PumpRec) (r : RakeRec) : State :=
  { station with
    seq := { station.seq with
      pumps := { station.seq.pumps with p1 := a, p2 := b }
      run := (if a.state = .running then [.p1] else []) ++ if b.state = .running then [.p2] else [] }
    screens := { station.screens with rakes := { station.screens.rakes with a := r } } }

/-- The state a command answers with, where it answers one; else the state before it. -/
def after (s : State) (c : Instr) : State :=
  match exec c s with
  | .next t => t
  | _ => s

/-! ### The premises that many statements name, met by the station -/

theorem on_drives (a b : PumpRec) (r : RakeRec) : (drives a b r).on = true := rfl

theorem settled_drives (a b : PumpRec) (r : RakeRec) : Settled (drives a b r) := ⟨by rfl, rfl⟩

theorem shapes_drives (a b : PumpRec) (r : RakeRec) (ha : a.history.length ≤ 12)
    (hb : b.history.length ≤ 12) : Shapes (drives a b r) where
  alarms := by rfl
  points := by rfl
  numbers :=
    (⟨by decide, by decide⟩ : (station.pointDefs.map (·.number)).Nodup ∧
      ∀ d ∈ station.pointDefs, d.number < 48)
  ring := (by decide : station.flow.ring.length ≤ 60)
  history := by
    intro p
    cases p
    · exact ha
    · exact hb
    all_goals exact Nat.zero_le _
  bands := by rfl

theorem settled_station : Settled station := ⟨by rfl, rfl⟩

theorem shapes_station : Shapes station := shapes_drives (pumpIn .idle) (pumpIn .idle) (rakeIn .idle)
  (by decide) (by decide)

theorem runOrder_drives (a b : PumpRec) (r : RakeRec) : RunOrderTrue (drives a b r) := by
  constructor
  · by_cases ha : a.state = .running <;> by_cases hb : b.state = .running <;>
      simp [drives, ha, hb]
  · have others : ∀ q : Pump, q ≠ .p1 → q ≠ .p2 →
        ((drives a b r).pump q).state = .hand := by
      intro q h1 h2
      cases q
      all_goals first | exact absurd rfl h1 | exact absurd rfl h2 | rfl
    intro p
    have h1 : (drives a b r).pump .p1 = a := rfl
    have h2 : (drives a b r).pump .p2 = b := rfl
    by_cases ha : a.state = .running <;> by_cases hb : b.state = .running <;>
      cases p <;> simp_all [drives]

theorem modes_drives (a b : PumpRec) (r : RakeRec) (h : ¬(a.state = .starting ∧ b.state = .starting)) :
    ModesTrue (drives a b r) where
  settling := (by decide : station.tables.settling.isSome = true ↔ station.tables.mode = .settling)
  hand := fun h => absurd (show station.automatic = false from h) (by decide)
  starting := by
    intro p q hp hq
    cases p <;> cases q <;>
      first
      | rfl
      | exact absurd (show PumpState.hand = .starting from hp) (by decide)
      | exact absurd (show PumpState.hand = .starting from hq) (by decide)
      | exact (h (And.intro hp hq)).elim
      | exact (h (And.intro hq hp)).elim

theorem taken_station (need : Permission) : Taken station 240 need :=
  ⟨rfl, ⟨.configure, by rfl, by cases need <;> rfl⟩, by rfl⟩

/-! ### Ill-formed commands -/

def frameOf (n : Nat) (dest src : Byte) : Frame := ⟨dest, src, 4, 9, List.replicate n 0⟩

theorem test_frame_of_41_characters_is_refused :
    (Instr.frameReceived (frameOf 41 0 1)).wellFormed = false ∧
      (Instr.frameReceived (frameOf 40 0 1)).wellFormed = true := by decide +kernel

theorem test_frame_to_an_invalid_address_is_refused :
    (Instr.frameReceived (frameOf 0 248 1)).wellFormed = false := by decide +kernel

theorem test_frame_from_an_invalid_address_is_refused :
    (Instr.frameReceived (frameOf 0 1 255)).wellFormed = false := by decide +kernel

theorem test_request_from_an_invalid_address_is_refused :
    (Instr.silence 248 0).wellFormed = false ∧ (Instr.silence 247 0).wellFormed = true := by decide +kernel

theorem test_alarm_entry_outside_1_to_73_is_refused :
    (Instr.renotifyTimerExpiry 0).wellFormed = false ∧
      (Instr.renotifyTimerExpiry 74).wellFormed = false ∧
      (Instr.renotifyTimerExpiry 73).wellFormed = true := by decide +kernel

theorem test_segment_of_37_characters_is_refused :
    (Instr.tableSegment 240 0 1 0 (List.replicate 37 0)).wellFormed = false ∧
      (Instr.tableSegment 240 0 1 0 (List.replicate 36 0)).wellFormed = true := by decide +kernel

/-- The table of commands gives no row any bits. -/
theorem test_no_word_spells_a_command : decodeTableWord 8 0 = none := rfl

/-! ### The manual's worked examples -/

/-- R180: a table image of no characters has the check 65,535; one character 0, worked by hand, 0xE1F0. -/
theorem test_check_words : crc [] = 65535 ∧ crc [0] = 0xE1F0 := by decide

/-- R43's worked sample: raw 8,483 at gain 250 and offset −200 is 1,871 mm. -/
theorem test_worked_sample :
    (after { station with points := Points.start }
      (.frameReceived ⟨99, 30, 1, 0, [0, 0x21, 0x23]⟩)).pointRec 0 = good 1871 := by
  decide +kernel

/-- "A Worked Balance" of chapter 4: the filter, level, volume, head, pump flow and the weir's head. -/
def workedBalance : State :=
  after
    { drives (pumpIn .running) (pumpIn .idle) (rakeIn .idle) with
      points := ⟨pointRecs.set 2 (good 1), 0, 0⟩
      flow := { State.reset.flow with
        filter := some 29888
        ring := List.replicate 50 ⟨0, 0, 0⟩ ++ [⟨103920, 0, 0⟩] ++ List.replicate 9 ⟨0, 350, 0⟩ } }
    (.balanceUpdate ⟨true, true⟩)

theorem test_worked_balance_level :
    workedBalance.flow.filter = some 29900 ∧ workedBalance.flow.record.level = 1869 := by
  decide +kernel

theorem test_worked_balance_flow :
    workedBalance.flow.record.volume = some 109520 ∧
      workedBalance.flow.record.head = some ⟨4581, .river, .filtered⟩ ∧
      workedBalance.flow.record.total = 350 ∧
      (workedBalance.flow.record.weirs.get .w1).head = some (-190) := by decide +kernel

theorem test_worked_balance_inflow :
    (workedBalance.flow.record.qin, workedBalance.flow.record.qinQuality) = (910, .valid) ∧
      workedBalance.flow.ring.length = 60 := by decide +kernel

/-- "Recovery of the Wet-Well Level" of chapter 4: u2 to u4. -/
theorem test_inflow_after_recovery :
    inflow 10 [⟨120000, 350, 0⟩] = (0, .invalid) ∧
      inflow 10 [⟨120000, 350, 0⟩, ⟨120560, 350, 0⟩] = (910, .part) ∧
      inflow 10 [⟨120000, 350, 0⟩, ⟨120560, 350, 0⟩, ⟨121100, 350, 0⟩, ⟨122010, 0, 0⟩] =
        (903, .part) := by decide +kernel

/-- The example after R103: a start limit of 4 and the history 1,210, 2,050, 3,400, 4,505. -/
def started (now : Nat) : State :=
  { drives { pumpIn .idle with history := [1210, 2050, 3400, 4505] } (pumpIn .idle) (rakeIn .idle) with
    clock := ⟨now, 0, true⟩ }

theorem test_start_limit_example :
    (started 4700).eligible .p1 = false ∧ (started 4809).eligible .p1 = false ∧
      (started 4810).eligible .p1 = true := by decide +kernel

/-- "A Storm at Weir 1" of chapter 9: the updates from 10,000 to 10,002, then one of h = 112. -/
def storm (w : WeirRec) (log : List SpillRec) (now : Nat) (h : Int) : State :=
  judgeWeir .w1
    { station with
      clock := ⟨now, 0, true⟩
      flow := { station.flow with record := { station.flow.record with
        running := now, weirs := ⟨⟨some h, true, interp weirDef.curve h⟩, WeirFlow.absent⟩ } }
      spill := { station.spill with weirs := ⟨w, WeirRec.dry⟩, log, nextNumber := 41, lossToFlag := false } }

def record40 : SpillRec :=
  ⟨40, .w1, .collected, 9000, 9000, some ⟨9500, 9500, 500⟩, 10, 10,
    ⟨false, false, false, false, false, false, false, false⟩⟩

def onset2 : WeirRec := ⟨.onset, some ⟨10000, 10000, true⟩, 2, 151, 30, false, none, 0⟩

theorem test_storm_onset :
    (storm WeirRec.dry [record40] 10000 12).weir .w1 =
      ⟨.onset, some ⟨10000, 10000, true⟩, 1, 43, 12, false, none, 0⟩ := by decide +kernel

theorem test_storm_confirmed :
    ((storm onset2 [record40] 10002 60).weir .w1).state = .spilling ∧
      ((storm onset2 [record40] 10002 60).spill.log.drop 1).map
          (fun r => (r.number, r.volume, r.peak, r.flags.follows, r.startRunning)) =
        [(41, 409, 60, true, 10000)] ∧
      (storm onset2 [record40] 10002 60).spill.nextNumber = 42 := by decide +kernel

/-- "A High Level at Night" of chapter 10: HIGH_LEVEL at priority 1 sounds the horn, SILENCE takes it to
FLASH. -/
def night : State := finishAlarms (stateCondition 19 true station)

theorem test_high_level_sounds_the_horn :
    (night.alarm 19).state = .activeUnack ∧ night.alarms.posted = some .flashHorn ∧
      night.transit.notice.length = 1 := by decide +kernel

theorem test_silence_takes_the_horn_off :
    (after night (.silence 33 1)).alarms.posted = some .flash ∧
      (after night (.silence 33 1)).transit.notice.length = 1 := by decide +kernel

/-- A band whose stop level is not below its start level less its lead is out of ORDER, the bands counted
from 0 (R97, R184). -/
theorem test_band_out_of_order_is_rejected :
    (match readTable station.surroundings .band
        (u8 1 ++ s16 1800 ++ s16 1800 ++ u16 0 ++ u8 1 ++ u8 1) with
      | .error (r, i) => decide (r = .order ∧ i = 0)
      | .ok _ => false) = true := by decide +kernel

/-! ### Witnesses: the queue, the loop port and the transit section

Each theorem `witness_<Name>` shows that the premises of `Obligations.<Name>` are met together, clause by
clause. -/

theorem witness_StepRunsTheFront : station.pending = [] := rfl

theorem witness_StrapsAreReadAtStartsAlone :
    exec (.powerUp 0 1 true) State.reset = .next (after State.reset (.powerUp 0 1 true)) ∧
      [0, 1, 239, 240].map (fun a : Byte =>
        (after State.reset (.powerUp a 1 true)).chip.ownAddress.toNat) = [239, 1, 239, 239] :=
  ⟨rfl, by decide +kernel⟩

theorem witness_EveryGoodCommandIsAnswered :
    (Instr.frameReceived (frameOf 40 247 247)).wellFormed = true ∧
      (frameOf 41 0 0).good = false ∧ (frameOf 0 248 0).good = false := by decide

theorem witness_FrameIsAssembledFromItsCharacters :
    (frameOf 40 247 0).good = true ∧ (frameOf 0 0 247).good = true ∧ station.on = true ∧
      station.loop.assembler = .idle ∧ station.loop.deferred = false := by decide

/-- R2: the character 0x83 with marker 0 has three ones, so that its parity bit is 1. -/
theorem test_bit_times_of_a_character :
    bitTimes 0x83 (sentEnding 0x83 false) =
      [false, true, true, false, false, false, false, false, true, false, true, true] := by decide

/-- The station with its assembler in a state. -/
def asm (a : Assembler) : State := { station with loop := { station.loop with assembler := a } }

/-- The station with a judgement deferred in a frame (R2). -/
def deferring : State :=
  { station with loop := { station.loop with assembler := .inFrame [7], deferred := true, gapTimer := none } }

theorem witness_AssemblerActsByItsState :
    (asm .idle).on = true ∧ (asm .idle).loop.deferred = false ∧
      (asm (.inFrame [239, 1, 2])).loop.assembler = .inFrame [239, 1, 2] ∧
      [239, 1, 2].length < 4 ∧ [239, 1, 2, 3].length = 4 ∧ (asm .discard).loop.assembler = .discard ∧
      (asm .brk).loop.assembler = .brk ∧ (asm .discard).loop.gapTimer.isSome = true ∧
      deferring.loop.deferred = true ∧ deferring.loop.gapTimer = none ∧ deferring.on = true ∧
      [(9 : Byte), 0].length + 1 ≠ (2 : Byte).toNat + 2 ∧
      crc [239, 1, 2, 3, 0] ≠ join16 0 0 ∧
      crc [239, 1, 2, 3, 0] = join16 (hi16 (crc [239, 1, 2, 3, 0])) (lo16 (crc [239, 1, 2, 3, 0])) ∧
      ¬((239 : Byte).toNat < 248 ∧ (248 : Byte).toNat < 248) ∧
      (⟨true, false, true⟩ : CharEnding).parity ≠ parityBit 0 true ∧
      (asm (.inFrame [7])).loop.assembler ≠ .brk ∧ deferring.loop.assembler ≠ .brk ∧
      (after (after (asm (.inFrame [7])) (.characterError .parity)) .gapTimerExpiry).loop.line =
        (after (asm (.inFrame [7])) (.characterError .parity)).loop.line := by decide +kernel

/-- LEN 40 goes on, LEN 41 is a length error (R4). -/
theorem test_len_41_is_a_length_error :
    (after (asm (.inFrame [239, 1, 2, 3])) (.characterReceived 40 (sentEnding 40 false))).loop.assembler =
        .inFrame [239, 1, 2, 3, 40] ∧
      (after (asm (.inFrame [239, 1, 2, 3]))
        (.characterReceived 41 (sentEnding 41 false))).loop.assembler = .discard := by decide

/-- A character with its parity wrong is a parity error; with its stop bit at space judgement is deferred, the gap
timer stands still, and the return to mark makes a framing error (R2, R5). -/
theorem test_character_is_judged :
    (after (asm (.inFrame [7])) (.characterReceived 1 ⟨true, true, true⟩)).loop.line.parityErrors = 1 ∧
      (after (asm (.inFrame [7])) (.characterReceived 1 ⟨true, true, false⟩)).loop = deferring.loop ∧
      (after deferring .gapTimerExpiry).loop.assembler = .inFrame [7] ∧
      (after deferring (.characterError .framing)).loop.line.framingErrors = 1 := by decide

/-- A silence that exceeds a new gap limit ends the frame as the STATION table activates (R6): 4 character times
are 2.5 ms at 19,200 bit/s, and 1.25 ms at 38,400. -/
theorem test_gap_at_a_new_limit :
    let s := fun (ms : Nat) (rate : BitVec 2) => compareGap
      { asm (.inFrame [7]) with chip := { station.chip with millis := ms, rate } }
    (s 2 0).loop.assembler = .inFrame [7] ∧ (s 3 0).loop.assembler = .idle ∧
      (s 3 0).loop.line.gapAborts = 1 ∧ (s 2 1).loop.assembler = .idle := by decide

def stopP1 : OwnFrame := ⟨some 20, [1, 0, 0], .command (.pump .p1) .stop 0, 0⟩
def noticeOf (n : Nat) : OwnFrame := ⟨some 50, [1], .notice .alarm n, 0⟩
def responseTo (tag : Byte) : OwnFrame := ⟨some 240, [22, tag, 0, 0], .response tag false, 0⟩

/-- The station with the transmitter in a state. -/
def sending (x : Tx) : State :=
  { station with
    loop := { station.loop with tx := x }
    transit := { station.transit with queue := [frameOf 3 9 8, frameOf 4 9 8] } }

def sendingFrame (o : OwnFrame) (m : Bool) : State := sending (.own o (ownSent 239 o 5) m)

theorem witness_BreakCutsOffTheFrameBeingSent :
    (sending .idle).on = true ∧ (sending .idle).loop.assembler ≠ .brk ∧
      (sending (.transit (frameOf 3 9 8))).loop.tx = .transit (frameOf 3 9 8) ∧
      (sendingFrame stopP1 true).loop.tx = .own stopP1 (ownSent 239 stopP1 5) true ∧
      (sendingFrame (noticeOf 3) false).on = true ∧ (sendingFrame (responseTo 1) false).on = true := by
  decide

/-- The station in a break, with a shadow loading. -/
def inBreak (reset : Bool) : State :=
  { station with
    loop := { station.loop with assembler := .brk, tx := .breakHold, breakReset := reset }
    tables := { station.tables with
      shadows := station.tables.shadows.set .band (.loading [none, some [1]]) } }

theorem witness_LoopResetClearsTheTraffic :
    (inBreak true).on = true ∧ (inBreak true).loop.assembler = .brk ∧
      (inBreak true).loop.breakReset = true ∧ (inBreak false).loop.breakReset = false ∧
      (inBreak false).tables.shadows.get .band = .loading [none, some [1]] ∧
      ∀ l, (inBreak false).tables.shadows.get .weir ≠ .loading l :=
  ⟨by rfl, by rfl, by rfl, by rfl, by rfl, by intro l h; cases h⟩

theorem witness_BreakEndRefreshesTheOwned :
    (inBreak true).on = true ∧ (inBreak true).loop.assembler = .brk ∧
      (inBreak true).loop.breakReset = true ∧ (inBreak false).loop.breakReset = false ∧
      ((inBreak true).gateEntry (.pump .p1)).isSome = true ∧ (inBreak true).owned (.pump .p1) = true ∧
      ((inBreak true).gateEntry (.rake .a)).isSome = true ∧ (inBreak true).owned (.rake .a) = true ∧
      ((inBreak true).gateEntry .annunciator).isSome = true ∧
      (inBreak true).owned .annunciator = true ∧
      (drives (pumpIn .hand) (pumpIn .idle) (rakeIn .idle)).owned (.pump .p1) = false := by decide

/-- At the end of a long break each owned actuator has its command posted (R38). -/
theorem test_break_end_posts_four_commands :
    (after (inBreak true) .breakEnd).transit.actuator.length = 4 ∧
      (after (inBreak false) .breakEnd).transit.actuator.length = 0 := by decide +kernel

def stallRunning : State := { station with loop := { station.loop with stallTimer := some 0 } }

theorem witness_HoldLinesAndHealthFollowTheirRules :
    station.on = true ∧ Shapes station ∧ stallRunning.loop.stallTimer.isSome = true ∧
      stallRunning.loop.loopStall = false ∧ (stallRunning.alarm 23).condition = false ∧
      (stallRunning.alarm 23).state = .normal ∧ stallRunning.priority 23 ≠ 0 :=
  ⟨by rfl, shapes_station, by rfl, by rfl, by rfl, by rfl, by decide⟩

/-- The station with a frame waiting in each class. -/
def classesFull (q : List Frame) (fairness : Nat) (lap : List LapEntry) : State :=
  { station with transit := { station.transit with
      queue := q
      actuator := [stopP1]
      notice := [noticeOf 3]
      response := [responseTo 1]
      fairness, lap } }

def lapOf (o : OwnFrame) (seq : Byte) : LapEntry := ⟨o, ownSent 239 o seq, false, 0⟩

theorem classesTrue_classesFull (q : List Frame) (n : Nat) (l : List LapEntry) :
    ClassesTrue (classesFull q n l) where
  actuator := by intro o h; simp [classesFull] at h; subst h; exact ⟨_, _, _, rfl⟩
  notice := by intro o h; simp [classesFull] at h; subst h; exact ⟨_, _, rfl⟩
  response := by intro o h; simp [classesFull] at h; subst h; exact ⟨_, _, rfl⟩

theorem witness_TransmitterStartsTheOffer :
    ClassesTrue (classesFull [frameOf 3 9 8] 4 []) ∧
      (classesFull [frameOf 3 9 8] 4 []).on = true ∧
      (classesFull [frameOf 3 9 8] 4 []).loop.tx = .idle ∧
      (classesFull [frameOf 3 9 8] 4 []).chip.holdIn = false ∧
      (classesFull [frameOf 3 9 8] 4 []).loop.assembler ≠ .brk ∧
      (classesFull [frameOf 3 9 8] 4 []).transit.fairness = 4 ∧
      (classesFull [] 3 (List.replicate 16 (lapOf stopP1 1))).transit.lap.length = 16 ∧
      ¬((sending .breakHold).loop.tx = .idle) :=
  ⟨classesTrue_classesFull _ _ _, by rfl, by rfl, by rfl, by decide, by rfl, by rfl, by decide⟩

/-- At fairness 4 the candidate goes before the transit head; at 3 after it (R29, R30). -/
theorem test_fairness_of_four_gives_the_own_frame :
    (after (classesFull [frameOf 3 9 8] 4 []) .transmitStart).transit.actuator = [] ∧
      (after (classesFull [frameOf 3 9 8] 3 []) .transmitStart).loop.tx =
        .transit (frameOf 3 9 8) := by decide

theorem witness_FrameSentLeavesQueueOrMakesLapEntry :
    (sending (.transit (frameOf 3 9 8))).loop.tx = .transit (frameOf 3 9 8) ∧
      (sendingFrame (responseTo 1) false).on = true ∧ (sending .idle).loop.tx = .idle ∧
      (sending .breakHold).loop.tx = .breakHold := by decide

/-- The station with entries in the lap list. -/
def laps (l : List LapEntry) : State := { station with transit := { station.transit with lap := l } }

def returned (seq : Byte) : Frame := ⟨20, 239, 0x22, seq, [1, 0, 0]⟩

theorem witness_ReturnedFrameResolvesItsLapEntry :
    (laps [lapOf stopP1 5]).on = true ∧ Settled (laps [lapOf stopP1 5]) ∧ (returned 5).good = true ∧
      (returned 5).src = (laps [lapOf stopP1 5]).chip.ownAddress ∧
      (returned 5).takenMark = true ∧ (lapOf stopP1 5).frame.seq = (returned 5).seq ∧
      (laps [lapOf (noticeOf 3) 4, lapOf stopP1 5, lapOf stopP1 6]).transit.lap =
        [lapOf (noticeOf 3) 4] ++ lapOf stopP1 5 :: [lapOf stopP1 6] ∧
      (∀ x ∈ [lapOf (noticeOf 3) 4], x.frame.seq ≠ (returned 5).seq) ∧
      (∀ e' ∈ [lapOf stopP1 6], station.nowMs - e'.sentAt < station.lapTimeout) ∧
      (∀ x ∈ [lapOf (noticeOf 3) 4], isResponseEntry x = true ∨ isNoticeEntry x = true) ∧
      (∀ e ∈ (laps [lapOf stopP1 5]).transit.lap, e.frame.seq ≠ (returned 6).seq) ∧
      ({ returned 5 with kindFlags := 2 } : Frame).takenMark = false :=
  ⟨by rfl, ⟨by rfl, by rfl⟩, by decide, by decide, by decide, by decide, by rfl, by decide, by decide,
    by decide, by decide, by decide⟩

/-- "The Lap List Through a Busy Second": frame 20 returns taken; the notices 18 and 19, older, are lost and posted
again (R32, R34). -/
theorem test_overtaken_notices_are_posted_again :
    let s := laps [lapOf (noticeOf 3) 18, lapOf (noticeOf 4) 19, lapOf (responseTo 1) 20, lapOf stopP1 21]
    let t := after s (.frameReceived ⟨240, 239, 0x24, 20, [22, 1, 0, 0]⟩)
    (t.transit.count.retries, t.transit.notice.map (·.retry), t.transit.lap.map (·.frame.seq)) =
      (2, [1, 1], [21]) := by decide +kernel

/-- A SUMMARY lost, or returned without its taken mark, is not posted again; an ALARM notice is (R34, R161). -/
theorem test_lost_summary_is_not_posted_again :
    let summary : OwnFrame := { noticeOf 3 with ref := .notice .summary 0 }
    let outcome := fun (o : OwnFrame) (c : Instr) =>
      let t := (after (laps [lapOf o 5]) c).transit
      (t.notice, t.lap, t.count.retries, t.count.undelivered)
    outcome summary .lapTimeout = ([], [], 0, 0) ∧
      outcome summary (.frameReceived { returned 5 with kindFlags := 2 }) = ([], [], 0, 0) ∧
      (outcome (noticeOf 3) .lapTimeout).1.length = 1 := by decide +kernel

def runRakeA (retry : Nat) : OwnFrame := ⟨some 22, [1, 1, 0], .command (.rake .a) .run 0, retry⟩

/-- Eight notices, an ALARM notice among them or none. -/
def fullNotice (alarms : Bool) : List OwnFrame :=
  if alarms then List.replicate 8 (noticeOf 3)
  else List.replicate 8 { noticeOf 3 with ref := .notice .spillOpen 3 }

/-- The last loss of a rake's command, at work or not. -/
def rakeLoss (st : RakeState) : State :=
  { drives (pumpIn .idle) (pumpIn .idle) (rakeIn st) with
    transit := { station.transit with lap := [lapOf (runRakeA 2) 5] } }

theorem witness_LapTimeoutActsByClass :
    (laps [lapOf stopP1 5]).on = true ∧ Settled (laps [lapOf stopP1 5]) ∧
      (laps [lapOf stopP1 5]).transit.lap = lapOf stopP1 5 :: [] ∧
      Settled (laps [lapOf { stopP1 with retry := 2 } 5]) ∧ Settled (laps [lapOf (noticeOf 3) 5]) ∧
      Settled (laps [lapOf (responseTo 1) 5, lapOf stopP1 6]) ∧
      station.nowMs - (lapOf stopP1 6).sentAt < station.lapTimeout ∧
      station.noticeFull = false ∧ (station.gateEntry (.pump .p1)).isSome = true ∧
      station.installed .p1 = true ∧
      Settled (rakeLoss .raking) ∧ ((rakeLoss .raking).rake .a).state = .raking ∧
      Shapes (rakeLoss .reversing) ∧ ((rakeLoss .idle).rake .a).state ≠ .raking ∧
      (let full := fun b => { laps [lapOf (noticeOf 3) 5] with
        transit := { station.transit with lap := [lapOf (noticeOf 3) 5], notice := fullNotice b } }
      Settled (full true) ∧ (full true).noticeFull = true ∧ (full false).noticeFull = true ∧
        (full true).transit.notice.any OwnFrame.isAlarm = true ∧
        (full false).transit.notice.any OwnFrame.isAlarm = false) := by
  have h := shapes_drives (pumpIn .idle) (pumpIn .idle) (rakeIn .reversing) (by decide) (by decide)
  exact ⟨by rfl, ⟨by rfl, by rfl⟩, by rfl, ⟨by rfl, by rfl⟩, ⟨by rfl, by rfl⟩, ⟨by rfl, by rfl⟩,
    by decide, by decide, by decide, by decide, ⟨by rfl, by rfl⟩, by decide,
    ⟨h.alarms, h.points, h.numbers, h.ring, h.history, h.bands⟩, by decide, ⟨by rfl, by rfl⟩, by decide,
    by decide, by decide, by decide⟩

/-- The last loss of a raking rake's command jams it, its cause COMMAND_LOST; an idle rake is marked (R130, R132,
R35). -/
theorem test_rake_command_lost_for_the_last_time :
    let t := after (rakeLoss .raking) .lapTimeout
    ((t.rake .a).state, (t.rake .a).latch, ((after (rakeLoss .idle) .lapTimeout).rake .a).lost) =
      (.jammed, some .commandLost, true) := by decide +kernel

/-- A command lost is posted again with retry 1; lost at retry 2, it is given up and COMMAND_LOST appears
(R34, R35, R113). -/
theorem test_command_is_lost_after_two_retries :
    ((after (laps [lapOf stopP1 5]) .lapTimeout).transit.actuator.map (·.retry)) = [1] ∧
      ((after (laps [lapOf { stopP1 with retry := 2 } 5]) .lapTimeout).pump .p1).sources.commandLost =
        true := by decide +kernel

theorem foreign_station (f : Frame) (h : f.good = true) (hs : f.src ≠ 239) (hp : f.passMark = false) :
    Foreign station f := ⟨by rfl, h, hs, hp⟩

theorem witness_ForeignFrameIsForwardedOnce :
    Foreign station (frameOf 3 9 8) ∧ (frameOf 3 9 8).kind = some .response ∧
      ({ frameOf 3 9 8 with kindFlags := 0x14 } : Frame).passMark = true ∧ station.loop.handed = [] ∧
      (⟨239, 8, 2, 1, [1]⟩ : Frame).kind = some .command ∧
      (⟨20, 8, 3, 1, []⟩ : Frame).kind = some .manage ∧ (⟨20, 8, 6, 1, []⟩ : Frame).kind = some .time ∧
      (frameOf 3 9 8).kind ≠ none ∧ (⟨9, 8, 7, 1, []⟩ : Frame).kind = none :=
  ⟨foreign_station _ (by decide) (by decide) (by decide), by decide, by decide, by rfl, by decide,
    by decide, by decide, by decide, by decide⟩

/-- A frame that fits the transit queue exactly is forwarded; one character more is overflow (R24). -/
theorem test_transit_queue_admits_384_characters :
    (after { station with transit := { station.transit with
        queue := List.replicate 7 (frameOf 40 9 8) ++ [frameOf 33 9 8] } }
      (.frameReceived (frameOf 8 9 8))).transit.queue.length = 9 ∧
    (after { station with transit := { station.transit with
        queue := List.replicate 7 (frameOf 40 9 8) ++ [frameOf 34 9 8] } }
      (.frameReceived (frameOf 8 9 8))).transit.count.overflow = 1 := by decide +kernel

def commandTo (node : Byte) : Frame := ⟨node, 40, 2, 3, [1, 2, 0]⟩

theorem witness_CommandGateStopsForeignCommands :
    Foreign station (commandTo 20) ∧ Foreign station (commandTo 60) ∧
      (commandTo 20).kind = some .command ∧ (commandTo 20).dest ≠ station.chip.ownAddress ∧
      station.transit.gate.find? (fun e => decide (e.node = 20 ∧ e.channel = 1)) =
        some ⟨20, 1, .pump .p1, 0⟩ ∧
      station.owned (.pump .p1) = true ∧
      station.transit.gate.find? (fun e => decide (e.node = 60 ∧ e.channel = 1)) = none ∧
      fill station.transit.queue + (commandTo 60).length ≤ 384 :=
  ⟨foreign_station _ (by decide) (by decide) (by decide),
    foreign_station _ (by decide) (by decide) (by decide), by decide, by decide, by decide, by decide,
    by decide, by decide⟩

def timeFrom (src dest : Byte) (payload : List Byte) : Frame := ⟨dest, src, 6, 3, payload⟩

theorem witness_TimeFrameSetsTheClock :
    Foreign station (timeFrom 33 0 [0, 0, 1, 0]) ∧ Foreign station (timeFrom 33 239 [0, 0, 1]) ∧
      (timeFrom 33 0 [0, 0, 1, 0]).kind = some .time ∧ station.permission 33 = some .operate ∧
      station.permission 32 = some .view ∧ station.permission 31 = none :=
  ⟨foreign_station _ (by decide) (by decide) (by decide),
    foreign_station _ (by decide) (by decide) (by decide), by decide, by decide, by decide, by decide⟩

theorem test_time_frame_sets_the_clock :
    (after station (.frameReceived (timeFrom 33 0 [0, 0, 1, 0]))).clockTime = 256 ∧
      (after station (.frameReceived (timeFrom 32 0 [0, 0, 1, 0]))).clockTime = 5700 := by
  decide +kernel

/-! ### Witnesses: points, storage and sequencing -/

def sampleOf (channel : Byte) (hi lo : Byte) : Frame := ⟨99, 30, 1, 3, [channel, hi, lo]⟩

/-- Eight pairs, and a payload that is no whole number of pairs. -/
def samples : Frame := ⟨99, 30, 1, 3, List.replicate 24 0⟩
def oddSample : Frame := ⟨99, 30, 1, 3, List.replicate 25 0⟩

theorem witness_SampleIsTakenAndStrippedOrForwarded :
    Foreign station (sampleOf 0 0 9) ∧ Settled station ∧ Shapes station ∧
      (sampleOf 2 0 1).kind = some .sample ∧ station.tapOf 30 40 = none ∧
      (station.tapOf 30 2).map (fun t => (t.target, t.policy, t.windowMin, t.windowMax)) =
        some (2, .reject, 0, 1) ∧
      (station.pointDef 2).isSome = true ∧
      ((station.tapOf 30 9).bind fun t => t.sample (pointDef 9 .current) 901) =
        some (900, .clamped) ∧ station.pointDef 40 = none ∧
      Foreign station samples ∧ samples.kind = some .sample ∧ samples.payload.length % 3 = 0 ∧
      3 ≤ samples.payload.length ∧ samples.payload.length ≤ 24 ∧
      Foreign station oddSample ∧ ¬(oddSample.payload.length % 3 = 0) :=
  ⟨foreign_station _ (by decide) (by decide) (by decide), settled_station, shapes_station, by decide,
    by decide, by decide, by decide, by decide, by decide,
    foreign_station _ (by decide) (by decide) (by decide), by decide, by decide, by decide, by decide,
    foreign_station _ (by decide) (by decide) (by decide), by decide⟩

/-- A SAMPLE of no whole number of pairs is a content error, and is forwarded (R19). -/
theorem test_odd_sample_is_a_content_error :
    (after station (.frameReceived oddSample)).transit.count.contentErrors = 1 ∧
      (after station (.frameReceived oddSample)).transit.queue.length = 1 := by decide +kernel

/-- At a REJECT tap of window 0 to 1 the raw value 2 is rejected and 1 is accepted (R42). -/
theorem test_raw_value_outside_the_window_is_rejected :
    (after station (.frameReceived (sampleOf 2 0 2))).points.rejected = 1 ∧
      ((after station (.frameReceived (sampleOf 2 0 1))).pointRec 2).value = 1 := by decide +kernel

def widestTap : Tap := ⟨30, 1, 0, 32767, 32767, -32768, 32767, .clamp, .pass⟩

theorem witness_SampleIsScaledWindowedAndFitted :
    widestTap.scale 32767 = 1081279 ∧ (-32768 : Int) ≤ widestTap.gain ∧ widestTap.gain ≤ 32767 ∧
      ({ widestTap with gain := -32768 } : Tap).scale (-32768) = 1081343 ∧
      widestTap.windowMin ≤ widestTap.windowMax ∧
      (⟨30, 9, 9, 1024, 0, 0, 900, .clamp, .pass⟩ : Tap).sample (pointDef 9 .current) (-1) =
        some (0, .clamped) ∧
      PointClass.level.fit (-1001) = (-1000, true) ∧ PointClass.level.fit 15000 = (15000, false) ∧
      PointClass.select.fit 4 = (3, true) ∧ PointClass.current.fit 10001 = (10000, true) := by decide

/-- The station with the record of one point replaced. -/
def withPoint (n : Nat) (r : PointRec) : State :=
  { station with points := { station.points with recs := station.points.recs.set n r } }

theorem witness_PointsAgeAndAreGraded :
    station.on = true ∧ Settled station ∧ Shapes station ∧
      (∀ d ∈ station.pointDefs, ∀ u, d.substitute = some u → ∀ d', station.pointDef u = some d' →
        d'.substitute = none) ∧ station.pointDef 47 = none := by
  refine ⟨by rfl, settled_station, shapes_station, ?_, by decide⟩
  intro d hd u hu d' h
  simp [station, State.pointDefs, tables, pointDef] at hd
  rcases hd with rfl | rfl | rfl | rfl | rfl | rfl | rfl | rfl | rfl | rfl | rfl | rfl <;>
    simp at hu
  subst hu
  have : station.pointDef 5 = some (pointDef 5 .level) := by decide
  rw [this] at h
  cases h
  rfl

/-- At the stale limit of 5 the point is GOOD, past it STALE; past the fail limit of 20 it takes its substitute
(R47, R48). -/
theorem test_point_ages_to_its_substitute :
    ((after (withPoint 4 { good 2000 with age := 4 }) .pointSecondTimerExpiry).pointRec 4).quality =
        .good ∧
      ((after (withPoint 4 { good 2000 with age := 5 }) .pointSecondTimerExpiry).pointRec 4).quality =
        .stale ∧
      ((after (withPoint 4 { good 2000 with age := 20 }) .pointSecondTimerExpiry).pointRec 4).value =
        1900 := by decide +kernel

/-- A point never sampled that leaves SUBSTITUTED under raised limits is at NONE and holds 0 (R47, R66). -/
theorem test_point_at_none_holds_zero :
    (after (withPoint 4 ⟨1900, none, .substituted, 19, false⟩) .pointSecondTimerExpiry).pointRec 4 =
      ⟨0, none, .none, 20, false⟩ := by decide +kernel

theorem witness_ForceAndReleaseActAtOnce :
    Taken station 240 .operate ∧ Settled station ∧ Shapes station ∧ 47 < (48 : Byte).toNat ∧
      (47 : Byte).toNat ≤ 47 ∧ station.pointDef 47 = none ∧
      station.pointDef (4 : Byte).toNat = some { pointDef 4 .level with substitute := some 5 } ∧
      ({ pointDef 4 .level with substitute := some 5 } : PointDef).stale ≤ (pointDef 4 .level).fail :=
  ⟨taken_station _, settled_station, shapes_station, by decide, by decide, by decide, by decide,
    by decide⟩

/-- A point released past its fail limit takes its usable substitute; at the limit its own value, STALE (R50). -/
theorem test_released_point_is_graded_at_once :
    ((after (withPoint 4 ⟨7, some (2000, .good), .forced, 21, true⟩)
        (.releasePoint 240 1 4)).pointRec 4) = ⟨1900, some (2000, .good), .substituted, 21, false⟩ ∧
      ((after (withPoint 4 ⟨7, some (2000, .good), .forced, 20, true⟩)
        (.releasePoint 240 1 4)).pointRec 4) = ⟨2000, some (2000, .good), .stale, 20, false⟩ := by
  decide +kernel

theorem witness_CurvesAndInflowAreExact :
    weirDef.curve.Pairwise (fun a b => a.1 < b.1) ∧ weirDef.curve[1]? = some (50, 180) ∧
      weirDef.curve[1 + 1]? = some (150, 960) ∧
      min 10 ([⟨1, 0, 0⟩] : List RingEntry).length.pred = 0 ∧
      0 < min 1 (([⟨1, 0, 0⟩, ⟨2, 0, 0⟩] : List RingEntry).length - 1) := by decide

/-- The flows of "A Storm at Weir 1" (R60). -/
theorem test_storm_flows :
    [12, 30, 40, 60, 90, 112, 150, 0, 999].map (interp weirDef.curve) =
      [43, 108, 144, 258, 492, 663, 960, 0, 2700] := by decide

theorem witness_BalanceRecordIsFormed :
    station.on = true ∧ Settled station ∧ station.awaits .nextPeriod = false ∧
      station.usableValue (·.wetWell) = some 1871 ∧
      (withPoint 0 ⟨0, none, .none, 9, false⟩).usableValue (·.wetWell) = none ∧
      station.pumpTable.isSome = true ∧ State.reset.pumpTable = none :=
  ⟨by rfl, settled_station, by rfl, by decide, by decide, by decide, by decide⟩

/-- A weir whose level is at NONE has the head 0 less the crest, whatever figure stands there (R66). -/
theorem test_weir_with_its_level_at_none :
    (withPoint 10 ⟨3700, none, .none, 9, false⟩).weirAt .w1 = ⟨some (-3600), false, 0⟩ := by decide

theorem witness_DemandIsFormedFromTheRecord :
    station.on = true ∧ Settled station ∧ Shapes station ∧ station.awaits .nextPeriod = false ∧
      station.bands[1]? = some ⟨2400, 1500, 0, 2⟩ ∧ station.seq.engaged[1]? = some false ∧
      station.roleActive (·.lowFloat) = false ∧ (withPoint 8 (good 1)).roleActive (·.lowFloat) = true ∧
      (withPoint 7 (good 1)).roleActive (·.highFloat) = true :=
  ⟨by rfl, settled_station, shapes_station, by rfl, by rfl, by rfl, by decide, by decide, by decide⟩

/-- At 1,800 mm band 1 engages and one pump is wanted; at 1,799 none; both floats at once want none (R98 to
R100). -/
theorem test_demand_at_the_start_level :
    (after (withPoint 0 (good 1800)) (.balanceUpdate ⟨true, true⟩)).seq.demand.d = 1 ∧
      (after (withPoint 0 (good 1799)) (.balanceUpdate ⟨true, true⟩)).seq.demand.d = 0 ∧
      (after (withPoint 8 (good 1)) (.balanceUpdate ⟨true, true⟩)).seq.demand.reason = .lowFloat := by
  decide +kernel

theorem witness_DemandIsMetAsFarAsPumpsAllow :
    station.on = true ∧ station.awaits .nextPeriod = false ∧
    station.automatic = true ∧ station.seq.demand.d < { station with
        seq := { station.seq with demand := ⟨2, .bands, 2, none⟩ } }.seq.demand.d ∧
      (pumpIn .idle).state.mode = .auto ∧ (pumpIn .hand).state.mode ≠ .auto := by decide

/-! ### Witnesses: slots, starts, protection, screens -/

/-- The station with the drive arbiter in a state. -/
def slots (x : Arbiter) (a b : PumpRec) (r : RakeRec) : State := { drives a b r with arbiter := x }

theorem settled_slots (x : Arbiter) (a b : PumpRec) (r : RakeRec) : Settled (slots x a b r) :=
  ⟨by rfl, rfl⟩

theorem shapes_slots (x : Arbiter) (a b : PumpRec) (r : RakeRec) (ha : a.history.length ≤ 12)
    (hb : b.history.length ≤ 12) : Shapes (slots x a b r) := by
  have h := shapes_drives a b r ha hb
  exact ⟨h.alarms, h.points, h.numbers, h.ring, h.history, h.bands⟩

def staggering : Arbiter := ⟨.mains, some 0, .expired, ⟨false, false⟩⟩
def powerReturning : Arbiter := ⟨.mains, none, .running 0, ⟨false, false⟩⟩

/-- Rake A waits in urgent need, or not, with one pump at work in each slot (R81). -/
def rakeWaits (blinded : Bool) (b : PumpState) : State :=
  { slots staggering (pumpIn .running) (pumpIn b) (rakeIn .waitSlot) with
    screens := { station.screens with
      screens := ⟨⟨some 400, true, blinded⟩, ScreenRec.start⟩
      rakes := ⟨rakeIn .waitSlot, RakeRec.cold⟩ } }

theorem witness_SlotTimersLetTheNextDriveStart :
    (let s := slots staggering (pumpIn .idle) (pumpIn .startWait) (rakeIn .idle)
    let t := slots powerReturning (pumpIn .startWait) (pumpIn .idle) (rakeIn .idle)
    s.on = true ∧ Settled s ∧ Shapes s ∧ s.overOccupied = false ∧
      s.arbiter.stagger.isSome = true ∧ t.arbiter.powerReturn.isRunning = true ∧
      (∀ r, (s.rake r).state ≠ .waitSlot) ∧
      s.seq.duty = [.p1] ++ .p2 :: [] ∧ (s.pump .p1).state ≠ .startWait ∧
      (s.pump .p2).state = .startWait ∧ s.eligible .p2 = true ∧ 0 < s.freeSlots ∧
      s.automatic = true ∧ (∀ q, (s.pump q).state ≠ .starting) ∧ s.powerReturned = true ∧
      s.feedbackActive .p2 = false ∧ t.arbiter.stagger = none) ∧
    let s := rakeWaits true .running
    let u := { s with points := ⟨pointRecs.set 3 (good 1), 0, 0⟩ }
    s.on = true ∧ Settled s ∧ RunOrderTrue s ∧ s.overOccupied = false ∧ s.automatic = true ∧
      s.arbiter.stagger.isSome = true ∧ s.powerReturned = true ∧ (s.rake .a).state = .waitSlot ∧
      (∀ r, r ≠ .a → (s.rake r).state ≠ .waitSlot) ∧ (∀ p, (s.pump p).state ≠ .startWait) ∧
      s.freeSlots = 0 ∧ s.urgent .a = true ∧ s.arbiter.preempt.get .a = false ∧
      s.seq.run = [.p1] ++ [.p2] ∧ s.feedbackActive .p2 = false ∧ u.feedbackActive .p2 = true ∧
      (rakeWaits false .running).urgent .a = false ∧ 0 < (rakeWaits true .idle).freeSlots := by
  have h := runOrder_drives (pumpIn .running) (pumpIn .running) (rakeIn .waitSlot)
  refine ⟨⟨by rfl, settled_slots _ _ _ _, shapes_slots _ _ _ _ (by decide) (by decide), by decide,
    by decide, by decide, ?_, by decide, by decide, by decide, by decide, by decide, by decide, ?_,
    by decide, by decide, by decide⟩, by rfl, ⟨by rfl, by rfl⟩, ⟨h.1, h.2⟩, by decide, by decide,
    by decide, by decide, by decide, ?_, ?_, by decide, by decide, by decide, by rfl, by decide,
    by decide, by decide, by decide⟩
  · intro r; cases r <;> decide
  · intro q; cases q <;> decide
  · intro r hr; cases r
    · exact absurd rfl hr
    · decide
  · intro p; cases p <;> decide

/-- An urgent rake preempts the pump at the tail of the run order: it waits on the pump's feedback, or has the slot
at once (R81). -/
theorem test_urgent_rake_preempts :
    let s := rakeWaits true .running
    let t := after s .staggerTimerExpiry
    let u := after { s with points := ⟨pointRecs.set 3 (good 1), 0, 0⟩ } .staggerTimerExpiry
    ((t.pump .p2).state, (t.rake .a).state, t.seq.run) = (.idle, .raking, [.p1]) ∧
      ((u.pump .p2).state, (u.rake .a).state, u.arbiter.preempt.get .a) =
        (.stopping, .waitSlot, true) := by decide +kernel

/-- The stagger's expiry starts the waiting pump, its RUN posted and its start in the history (R77, R91). -/
theorem test_stagger_expiry_starts_the_waiting_pump :
    let t := after (slots staggering (pumpIn .idle) (pumpIn .startWait) (rakeIn .idle))
      .staggerTimerExpiry
    ((t.pump .p2).state, (t.pump .p2).history, t.transit.actuator.map (·.payload)) =
      (.starting, [4700], [[1, 1, 0]]) := by decide +kernel

def startingNow : PumpRec := { pumpIn .starting with startConfirm := some 0 }
def stoppingNow : PumpRec := { pumpIn .stopping with stopConfirm := some 0 }

theorem witness_ConfirmExpiriesTripThePump :
    let s := drives startingNow (pumpIn .idle) (rakeIn .idle)
    let t := { drives { stoppingNow with latch := some .uncommandedStop } (pumpIn .idle) (rakeIn .idle) with
      points := ⟨pointRecs.set 2 (good 1), 0, 0⟩ }
    Settled s ∧ Shapes s ∧
      s.on = true ∧ s.installed .p1 = true ∧ s.latchingSources .p1 = [] ∧
      (s.pump .p1).latch = none ∧ (s.pump .p1).state = .starting ∧
      (s.pump .p1).startConfirm.isSome = true ∧
      t.latchingSources .p1 = [] ∧ t.sourceAction .p1 .uncommandedStop ≠ some .stop ∧
      (t.pump .p1).latch = some .uncommandedStop ∧
      (t.pump .p1).stopConfirm.isSome = true ∧ t.feedbackActive .p1 = true :=
  ⟨settled_drives _ _ _, shapes_drives _ _ _ (by decide) (by decide), by decide⟩

theorem test_start_confirm_expiry_trips :
    ((after (drives startingNow (pumpIn .idle) (rakeIn .idle)) (.startConfirmExpiry .p1)).pump .p1).latch =
      some .failToStart ∧
    ((after (drives { startingNow with latch := some .uncommandedStop } (pumpIn .idle) (rakeIn .idle))
      (.startConfirmExpiry .p1)).pump .p1).state = .tripped := by decide +kernel

/-- A minimum off timer that has elapsed stays so at a longer length; one that runs is compared with it (R94). -/
theorem test_elapsed_minimum_timer_stays_elapsed :
    let old := fun (now : Nat) =>
      { drives { pumpIn .idle with minOff := some 0 } (pumpIn .idle) (rakeIn .idle) with
        chip := { station.chip with uptime := now } }
    let longer := fun (now : Nat) =>
      { old now with tables := { station.tables with active := { tables with
        pump := some ⟨[], ⟨10, 4300, 2150, [{ pumpEntry .p1 with minOff := 90 }, pumpEntry .p2]⟩⟩ } } }
    ((compareMinimums (old 60) .p1 (longer 60)).pump .p1).minOff = none ∧
      ((compareMinimums (old 59) .p1 (longer 59)).pump .p1).minOff = some 0 := by decide +kernel

def overRunning : PumpRec := { pumpIn .running with overTimer := some 0 }

theorem witness_ProtectionActsByClassAndAction :
    let s := drives overRunning (pumpIn .idle) (rakeIn .idle)
    s.on = true ∧ Settled s ∧ Shapes s ∧ NoLatchYet s .p1 ∧ (s.pump .p1).overTimer.isSome = true ∧
      (s.pump .p1).sources.overcurrent = false ∧
      s.sourceSetting .p1 .overcurrent = some ⟨.latch, .stop⟩ ∧
      (s.pump .p1).state.mode = .auto ∧ (s.pump .p1).state ≠ .tripped ∧
      (let u := drives { pumpIn .running with uncommanded := 2 } { pumpIn .held with sources :=
        { Sources.absent with commandLost := true } } (rakeIn .idle)
      (u.pump .p1).state = .running ∧ u.feedbackActive .p1 = false ∧ u.arbiter.supply ≠ .lost ∧
        NoLatchYet u .p1 ∧ u.sourceSetting .p1 .uncommandedStop = some ⟨.hold, .alarmOnly⟩ ∧
        u.holdStop .p1 = false ∧ u.holdStop .p2 = true ∧ u.installed .p3 = false) :=
  ⟨by rfl, settled_drives _ _ _, shapes_drives _ _ _ (by decide) (by decide),
    ⟨by rfl, by rfl, by decide⟩, by decide, by decide, by decide, by decide, by decide, by decide,
    by decide, by decide, ⟨by rfl, by rfl, by decide⟩, by decide, by decide, by decide, by decide⟩

/-- A pump HELD leaves it at the update that finds no HOLD source of action STOP: to IDLE (R118). -/
theorem test_held_pump_is_released :
    ((protectPump .p1 (drives (pumpIn .held) (pumpIn .idle) (rakeIn .idle))).pump .p1).state = .idle ∧
      ((protectPump .p1 (drives
        { pumpIn .held with sources := { Sources.absent with commandLost := true } }
        (pumpIn .idle) (rakeIn .idle))).pump .p1).state = .held := by
  decide +kernel

theorem test_overcurrent_trips :
    ((after (drives overRunning (pumpIn .idle) (rakeIn .idle)) (.overcurrentTimerExpiry .p1)).pump
      .p1).state = .tripped := by decide +kernel

/-- The station with its supply lost, its drives idle. -/
def supplyGone : State :=
  { slots ⟨.lost, none, .stopped, ⟨false, false⟩⟩ (pumpIn .idle) (pumpIn .idle) (rakeIn .idle) with
    points := ⟨pointRecs.set 1 (good 0), 0, 0⟩ }

theorem shapes_supplyGone : Shapes supplyGone :=
  ⟨by rfl, by rfl, ⟨by decide, by decide⟩, by decide, fun p => by cases p <;> decide, by rfl⟩

theorem witness_LossAndReturnOfSupply :
    let s := { drives (pumpIn .running) startingNow (rakeIn .raking) with
      points := ⟨pointRecs.set 1 (good 0), 0, 0⟩ }
    s.supplyReading = .lost ∧ s.arbiter.supply ≠ .lost ∧ RunOrderTrue s ∧ Shapes s ∧
      (s.pump .p1).state = .running ∧ (s.pump .p1).latch = none ∧ s.holdStop .p1 = false ∧
      (s.rake .a).state = .raking ∧
      (let u := drives (pumpIn .running) startingNow (rakeIn .raking)
      Foreign u (sampleOf 1 0 0) ∧ Settled u ∧ Shapes u ∧ RunOrderTrue u ∧
        u.tapOf 30 1 = some (plainTap 1) ∧ u.pointDef 1 = some (pointDef 1 .select) ∧
        (plainTap 1).sample (pointDef 1 .select) (join16 0 0).toInt = some (0, .good) ∧
        u.role (·.supply) = some 1 ∧ (u.pointRec 1).forced = false ∧ u.arbiter.supply ≠ .lost ∧
        (u.pointRec 1).value ≠ 0) ∧
      let v := { supplyGone with points := ⟨pointRecs, 0, 0⟩ }
      Foreign supplyGone (sampleOf 1 0 1) ∧ Settled supplyGone ∧ Shapes supplyGone ∧
        (plainTap 1).sample (pointDef 1 .select) (join16 0 1).toInt = some (1, .good) ∧
        (plainTap 1).sample (pointDef 1 .select) (join16 0 2).toInt = some (2, .good) ∧
        supplyGone.arbiter.supply = .lost ∧ (supplyGone.pointRec 1).value ≠ 1 ∧
        v.supplyReading ≠ .lost ∧ v.arbiter.supply = .lost ∧ Shapes v ∧
        v.station = some stationTable := by
  have h := runOrder_drives (pumpIn .running) startingNow (rakeIn .raking)
  exact ⟨by decide, by decide, ⟨h.1, h.2⟩,
    ⟨by rfl, by rfl, ⟨by decide, by decide⟩, by decide, fun p => by cases p <;> decide, by rfl⟩,
    by decide, by decide, by decide, by decide, ⟨⟨by rfl, by decide, by decide, by decide⟩,
    settled_drives _ _ _, shapes_drives _ _ _ (by decide) (by decide), h, by decide, by decide,
    by decide, by decide, by decide, by decide, by decide⟩, ⟨by rfl, by decide, by decide, by decide⟩,
    ⟨by rfl, by rfl⟩, shapes_supplyGone, by decide, by decide, by decide, by decide, by decide, by decide,
    ⟨by rfl, by rfl, ⟨by decide, by decide⟩, by decide, fun p => by cases p <;> decide, by rfl⟩, by rfl⟩

/-- The supply returns, and the power-return timer runs (R83). -/
theorem test_supply_returns :
    let t := after supplyGone (.frameReceived (sampleOf 1 0 2))
    (t.arbiter.supply, t.arbiter.powerReturn, t.capacity) = (.generator, .running 0, 1) := by
  decide +kernel

theorem test_supply_sample_takes_every_grant :
    let t := after (drives (pumpIn .running) startingNow (rakeIn .raking)) (.frameReceived (sampleOf 1 0 0))
    (t.arbiter.supply, t.grants, t.seq.run, (t.rake .a).state) = (.lost, 0, [], .waitSlot) := by
  decide +kernel

theorem witness_SheddingRestoresTheSlotLaw :
    let s := drives (pumpIn .running) startingNow (rakeIn .raking)
    let u := { slots staggering (pumpIn .running) (pumpIn .idle) (rakeIn .raking) with
      screens := { station.screens with
        screens := ⟨⟨some 400, true, true⟩, ScreenRec.start⟩, rakes := ⟨rakeIn .raking, RakeRec.cold⟩ } }
    RunOrderTrue s ∧ ¬SlotLaw s ∧ (s.rake .a).state.granted = true ∧ SlotLaw station ∧
      u.urgent .a = true := by
  refine ⟨runOrder_drives _ _ _, ?_, by decide, Or.inl (by decide), by decide⟩
  rintro (h | h) <;> revert h <;> decide

/-- Three grants stand over a capacity of 2: the rake, its request not urgent, is shed and waits (R80). -/
theorem test_rake_is_shed_before_the_pumps :
    let t := shedCheck (drives (pumpIn .running) startingNow (rakeIn .raking))
    ((t.rake .a).state, (t.pump .p1).state, (t.pump .p2).state) =
      (.waitSlot, .running, .starting) := by decide +kernel

def raking : RakeRec := { rakeIn .raking with travel := some 0, jam := some 0 }
def reversing (n : Nat) : RakeRec := { rakeIn .reversing with reverse := some 0, attempts := n }

theorem witness_JamIsSuspectedRetriedAndLatched :
    let s := drives (pumpIn .idle) (pumpIn .idle) raking
    let t := drives (pumpIn .idle) (pumpIn .idle) (reversing 1)
    s.on = true ∧ Settled s ∧ Shapes s ∧ SlotLaw s ∧ (s.rake .a).state = .raking ∧
      (s.rake .a).travel.isSome = true ∧ (s.rake .a).jam.isSome = true ∧
      Settled t ∧ Shapes t ∧ SlotLaw t ∧ (t.rake .a).reverse.isSome = true ∧
      t.screenDef .a = some screenDef ∧ screenDef.retryLimit ≤ (t.rake .a).attempts ∧
      (reversing 0).attempts < screenDef.retryLimit :=
  ⟨by rfl, settled_drives _ _ _, shapes_drives _ _ _ (by decide) (by decide), Or.inr (by decide),
    by decide, by decide, by decide, settled_drives _ _ _,
    shapes_drives _ _ _ (by decide) (by decide), Or.inr (by decide), by decide, by rfl, by decide,
    by decide⟩

theorem test_reverse_expiry_retries_then_jams :
    ((after (drives (pumpIn .idle) (pumpIn .idle) (reversing 0)) (.reverseTimerExpiry .a)).rake
        .a).state = .raking ∧
      ((after (drives (pumpIn .idle) (pumpIn .idle) (reversing 1)) (.reverseTimerExpiry .a)).rake
        .a).state = .jammed := by decide +kernel

theorem witness_ScreenIsJudgedByItsDifferential :
    station.screenDef .a = some screenDef ∧ Shapes station ∧
      (station.usableValue fun x => x.upstream.get .a) = some 2000 ∧
      (station.usableValue fun x => x.downstream.get .a) = some 1900 ∧
      (station.screen .a).blinded = false ∧ station.inService .a = true ∧
      (station.rake .a).state = .idle ∧ Side.b ≠ .a ∧
      ((withPoint 5 PointRec.start).usableValue fun x => x.downstream.get .a) = none ∧
      station.on = true ∧ Settled station ∧ station.awaits .nextPeriod = false ∧
      (rakeIn .jammed).state = .jammed ∧ (rakeIn .hand).state.mode ≠ .auto :=
  ⟨by rfl, shapes_station, by decide, by decide, by decide, by decide, by decide, by decide,
    by decide, by rfl, settled_station, by rfl, by rfl, by decide⟩

/-- A differential of 399 asks for raking; at 400 the screen is blinded; at 250 it is clear again (R123,
R127). -/
theorem test_screen_levels :
    ((judgeScreen .a (withPoint 4 (good 2299))).screen .a).blinded = false ∧
      ((judgeScreen .a (withPoint 4 (good 2299))).rake .a).state = .waitSlot ∧
      ((judgeScreen .a (withPoint 4 (good 2300))).screen .a).blinded = true ∧
      ((judgeScreen .a { withPoint 4 (good 2150) with screens := { station.screens with
        screens := ⟨⟨some 300, true, true⟩, ScreenRec.start⟩ } }).screen .a).blinded = false := by
  decide +kernel

/-- Rake A raking, the park point about to change: park seen or not, and a request called for or not (R128). -/
def parking (seen called : Bool) (park : Int) : State :=
  { drives (pumpIn .idle) (pumpIn .idle) { raking with parkSeen := seen, interval := 77 } with
    points := ⟨pointRecs.set 6 (good park), 0, 0⟩
    screens := { station.screens with
      screens := ⟨⟨some 200, called, false⟩, ScreenRec.start⟩
      rakes := ⟨{ raking with parkSeen := seen, interval := 77 }, RakeRec.cold⟩ } }

/-- The station with rake A's interval of one minute, and its count. -/
def counting (n : Nat) : State :=
  { drives (pumpIn .idle) (pumpIn .idle) { rakeIn .idle with interval := n } with
    tables := { station.tables with active := { tables with
      screen := some ⟨[], ⟨⟨some { screenDef with interval := 1 }, none⟩, 1, 1⟩⟩ } } }

theorem witness_RakeCycleEndsAtThePark :
    let s := parking true false 0
    Foreign s (sampleOf 6 0 1) ∧ Settled s ∧ Shapes s ∧ SlotLaw s ∧
      (sampleOf 6 0 1).kind = some .sample ∧ s.tapOf 30 6 = some (plainTap 6) ∧
      s.pointDef 6 = some (pointDef 6 .state) ∧
      (plainTap 6).sample (pointDef 6 .state) (join16 0 1).toInt = some (1, .good) ∧
      (plainTap 6).sample (pointDef 6 .state) (join16 0 0).toInt = some (0, .good) ∧ ParksOnly s 6 .a ∧
      (s.pointRec 6).forced = false ∧ (s.pointRec 6).value ≠ 1 ∧
      ((parking false false 1).pointRec 6).value ≠ 0 ∧ (s.rake .a).state = .raking ∧
      (s.rake .a).parkSeen = true ∧ s.rakeCalled .a = false ∧ (parking true true 0).rakeCalled .a = true ∧
      s.inService .a = true ∧ (reversing 0).state = .reversing ∧
      (counting 59).on = true ∧ Settled (counting 59) ∧ (counting 59).awaits .nextPeriod = false ∧
      (counting 59).screenDef .a = some { screenDef with interval := 1 } ∧
      (counting 59).inService .a = true ∧ ((counting 59).rake .a).state = .idle ∧
      60 * 1 ≤ ((counting 59).rake .a).interval + 1 ∧ ((counting 58).rake .a).interval + 1 < 60 * 1 ∧
      station.screenDef .a = some screenDef ∧ screenDef.interval = 0 := by
  have h := shapes_station
  have hp : ParksOnly (parking true false 0) 6 .a :=
    ⟨by decide, fun r => by cases r <;> decide, fun r => by cases r <;> decide, by decide,
      fun p => by cases p <;> decide⟩
  exact ⟨⟨by rfl, by decide, by decide, by decide⟩, ⟨by rfl, by rfl⟩,
    ⟨h.alarms, by rfl, h.numbers, h.ring, h.history, h.bands⟩, Or.inr (by decide), by decide, by decide,
    by decide, by decide, by decide, hp, by decide, by decide, by decide, by decide, by decide, by decide,
    by decide, by decide, by decide, by rfl, ⟨by rfl, by rfl⟩, by rfl, by rfl, by decide, by decide,
    by decide, by decide, by rfl, by rfl⟩

/-- Park seen and then reached ends the cycle, counted, with STOP posted, and the next request waits where it is
called for; the sixtieth idle second of a one-minute interval brings a request (R124, R127, R128). -/
theorem test_rake_cycle :
    let t := after (parking true false 0) (.frameReceived (sampleOf 6 0 1))
    ((t.rake .a).state, (t.rake .a).cycles, (t.rake .a).interval,
        t.transit.actuator.map (·.payload)) = (.idle, 1, 0, [[1, 0, 0]]) ∧
      ((after (parking true true 0) (.frameReceived (sampleOf 6 0 1))).rake .a).state = .raking ∧
      ((after (parking false false 1) (.frameReceived (sampleOf 6 0 0))).rake .a).parkSeen = true ∧
      ((after (counting 59) (.balanceUpdate ⟨true, true⟩)).rake .a).state = .raking ∧
      ((after (counting 58) (.balanceUpdate ⟨true, true⟩)).rake .a).interval = 59 := by decide +kernel

/-! ### Witnesses: spills, alarms, reports, entry to AUTOMATIC, the store, power -/

/-- The station with the standing record's weir 1 at a head, and the weir's record and log given. -/
def weirAt (x : WeirFlow) (w : WeirRec) (log : List SpillRec) : State :=
  { station with
    flow := { station.flow with record := { station.flow.record with
      weirs := ⟨x, WeirFlow.absent⟩ } }
    spill := { station.spill with weirs := ⟨w, WeirRec.dry⟩, log } }

/-- Weir 1 over its crest, its onset at the running seconds 10,000 about to be confirmed, and the log. -/
def confirming (log : List SpillRec) : State := weirAt ⟨some 60, true, 258⟩ onset2 log

/-- A full log of records of weir 2 in a state. -/
def fullLog (st : SpillState) : List SpillRec :=
  (List.range 32).map fun n => { record40 with number := 100 + n, weir := .w2, state := st }

/-- Weir 1 with an onset confirm of 1, over its crest from DRY. -/
def confirmingAtOnce : State :=
  { weirAt ⟨some 60, true, 258⟩ WeirRec.dry [] with
    tables := { station.tables with active := { tables with
      weir := some ⟨[], ⟨some { weirDef with onsetConfirm := 1 }, none⟩⟩ } } }

theorem witness_OnsetIsConfirmedOrFalse :
    let s := weirAt ⟨some 1, true, 3⟩ WeirRec.dry []
    let u := confirming [{ record40 with state := .closed }]
    let v := weirAt ⟨some 0, true, 0⟩ { onset2 with onsetCount := 1 } []
    Settled station ∧ Shapes (confirming (fullLog .closed)) ∧
      station.on = true ∧ station.awaits .nextPeriod = false ∧
      s.weirDef .w1 = some weirDef ∧ (s.weir .w1).state = .dry ∧ (0 : Int) < 1 ∧
      1 < weirDef.onsetConfirm ∧ (u.weir .w1).state = .onset ∧
      (u.weir .w1).onset = some ⟨10000, 10000, true⟩ ∧
      (u.weir .w1).onsetCount + 1 = weirDef.onsetConfirm ∧
      (u.spill.log.map (·.number)).Nodup ∧ (∀ r ∈ u.spill.log, r.weir = .w1 → r.state ≠ .opened) ∧
      (u.spill.log.reverse.find? fun r => decide (r.weir = .w1)) =
        some { record40 with state := .closed } ∧
      10000 - 9500 ≤ 60 * weirDef.merge ∧ ¬10000 - 8000 ≤ 60 * weirDef.merge ∧
      (confirming (fullLog .closed)).spill.log.length = 32 ∧
      ((confirming (fullLog .closed)).spill.log.map (·.number)).Nodup ∧
      (∀ r ∈ (confirming (fullLog .closed)).spill.log, r.state ≠ .collected) ∧
      (∃ r ∈ (confirming (fullLog .collected)).spill.log, r.state = .collected) ∧
      (confirmingAtOnce.weir .w1).state = .dry ∧
      (confirmingAtOnce.weirDef .w1).map (·.onsetConfirm) = some 1 ∧
      (v.weir .w1).onsetCount + 1 < weirDef.onsetConfirm ∧ Weir.w2 ≠ .w1 := by
  have h := shapes_station
  exact ⟨settled_station, ⟨h.alarms, h.points, h.numbers, h.ring, h.history, h.bands⟩, by decide⟩

/-- A CLOSED record within the merge interval is reopened, one of 2,000 s before is not; a full log of CLOSED records
loses its oldest and flags the new one; an onset confirm of 1 opens a record at once (R138, R143, R145). -/
theorem test_confirmations :
    let log := fun s : State => (judgeWeir .w1 s).spill.log.map fun r => (r.number, r.state, r.flags.merged)
    log (confirming [{ record40 with state := .closed }]) = [(40, .opened, true)] ∧
      log { confirming [{ record40 with state := .closed, ending := some ⟨8000, 8000, 5⟩ }] with
        clock := station.clock } = [(40, .closed, false), (1, .opened, false)] ∧
      (let t := judgeWeir .w1 (confirming (fullLog .closed))
      (t.spill.log.length, t.spill.log.head?.map (·.number), t.spill.log.getLast?.map (·.flags.logLoss),
        t.spill.lostCount) = (32, some 101, some true, 1)) ∧
      log confirmingAtOnce = [(1, .opened, false)] := by decide +kernel

def openRecord : SpillRec :=
  ⟨41, .w1, .opened, 10000, 10000, none, 60, 409, ⟨false, true, false, false, false, false, false, false⟩⟩

def receding (n : Nat) : WeirRec := ⟨.receding, none, 0, 0, 0, false, some ⟨10204, 10204⟩, n⟩

theorem witness_SpillRecordIsFilledAndClosed :
    let s := { withPoint 10 (good 3581) with
      spill := (weirAt WeirFlow.absent (receding 3) [record40, openRecord]).spill }
    let u := { withPoint 10 (good 3580) with spill := s.spill }
    let v := { withPoint 10 ⟨3700, some (3700, .good), .failed, 99, false⟩ with
      spill := { s.spill with weirs := ⟨{ WeirRec.dry with state := .spilling }, WeirRec.dry⟩ } }
    let e := { u with
      spill := v.spill
      tables := { station.tables with active := { tables with
        weir := some ⟨[], ⟨some { weirDef with endConfirm := 1 }, none⟩⟩ } } }
    Settled s ∧
      (∀ w', w' ≠ .w1 → (s.weir w').state = .dry ∧ ∀ h', (s.weirAt w').head = some h' → h' ≤ 0) ∧
      s.on = true ∧ s.awaits .nextPeriod = false ∧
      s.weirDef .w1 = some weirDef ∧ s.spill.log = [record40] ++ openRecord :: [] ∧
      openRecord.weir = .w1 ∧ openRecord.state = .opened ∧
      (∀ y ∈ [record40] ++ [], y.weir = .w1 → y.state ≠ .opened) ∧
      s.weirAt .w1 = ⟨some (-19), true, 0⟩ ∧
      u.weirAt .w1 = ⟨some (-20), true, 0⟩ ∧
      -weirDef.hysteresis < -19 ∧ (s.weir .w1).state = .receding ∧
      -20 ≤ -weirDef.hysteresis ∧ weirDef.endConfirm ≤ (u.weir .w1).endCount + 1 ∧
      1 < weirDef.endConfirm ∧ (receding 2).endCount + 1 < weirDef.endConfirm ∧
      (v.weirAt .w1).usable = false ∧ (v.weir .w1).state = .spilling ∧
      (e.weirDef .w1).map (·.endConfirm) = some 1 ∧ (e.weir .w1).state = .spilling ∧
      e.weirAt .w1 = ⟨some (-20), true, 0⟩ ∧ s.noticeFull = false ∧ e.noticeFull = false := by
  refine ⟨⟨by rfl, by rfl⟩, ?_, by decide⟩
  intro w' h
  cases w'
  · exact absurd rfl h
  · exact ⟨by rfl, by decide⟩

/-- The close posts SPILL_CLOSE, code 3, of record 41, before the ALARM notice of SPILL's clearing (R27, R147, R158). -/
theorem test_close_posts_spill_close :
    let s := { withPoint 10 (good 3580) with
      spill := (weirAt WeirFlow.absent (receding 3) [record40, openRecord]).spill
      alarms := (station.setAlarm 17 ⟨true, .activeAck, some 5, some 5, 1, none⟩).alarms }
    (after s (.balanceUpdate ⟨true, true⟩)).transit.notice.map (fun o => (o.ref, o.payload.take 3)) =
      [(.notice .spillClose 41, [3, 0, 41]), (.notice .alarm 17, [1, 17, 0])] := by decide +kernel

/-- At a level that is not usable the record is flagged LEVEL_DOUBT and takes the flow held (R142). -/
theorem test_level_in_doubt :
    (judgeWeir .w1 (weirAt ⟨some 100, false, 570⟩ { WeirRec.dry with state := .spilling }
      [record40, openRecord])).spill.log.map (fun r => (r.flags.levelDoubt, r.volume)) =
        [(false, 10), (true, 979)] := by decide +kernel

/-- The record closes at the fourth update at or below the hysteresis, with the candidate's end times: 204 s
("A Storm at Weir 1", 10,207). -/
theorem test_storm_closed :
    (judgeWeir .w1 (weirAt ⟨some (-27), true, 0⟩ (receding 3) [openRecord])).spill.log.map
        (fun r => (r.state, r.ending)) = [(.closed, some ⟨10204, 10204, 204⟩)] ∧
      ((judgeWeir .w1 (weirAt ⟨some (-19), true, 0⟩ (receding 3) [openRecord])).weir .w1).state =
        .spilling := by decide +kernel

theorem witness_CollectSpillActsOnTheRecordNamed :
    Taken station 240 .operate ∧ Shapes station ∧
      (weirAt WeirFlow.absent WeirRec.dry [record40]).spill.log.find?
        (fun r => decide (r.number = (40 : BitVec 16).toNat)) = some record40 ∧
      record40.state ≠ .opened ∧ openRecord.state = .opened ∧
      station.spill.log.find? (fun r => decide (r.number = (1 : BitVec 16).toNat)) = none :=
  ⟨taken_station _, shapes_station, by decide, by decide, by decide, by decide⟩

theorem test_collect_spill :
    (after (weirAt WeirFlow.absent WeirRec.dry [{ record40 with state := .closed }])
      (.collectSpill 240 9 40)).spill.log.map (·.state) = [.collected] ∧
      (after (weirAt WeirFlow.absent WeirRec.dry [openRecord])
        (.collectSpill 240 9 41)).transit.response.map (·.payload) = [[23, 9, 5, 0]] := by
  decide +kernel

/-- The station with an alarm entry's condition and state. -/
def alarmed (n : Nat) (present : Bool) (st : AlarmState) : State :=
  station.setAlarm n { station.alarm n with condition := present, state := st }

theorem witness_AlarmsFollowConditionsAndAcknowledgements :
    let raised := alarmed 23 true .activeUnack
    Taken station 33 .operate ∧ Shapes station ∧ 73 < (74 : Byte).toNat ∧ (73 : Byte).toNat ≤ 73 ∧
      1 ≤ (73 : Byte).toNat ∧ (night.alarm 19).state = .activeUnack ∧
      station.transit.outbox = Outbox.empty ∧ (station.alarm 73).condition ≠ true ∧
      station.priority 73 ≠ 0 ∧ (station.alarm 73).state = .normal ∧
      raised.on = true ∧ Shapes raised ∧ raised.transit.outbox = Outbox.empty ∧
      (raised.alarm 23).condition ≠ false ∧ raised.priority 23 = 2 ∧
      ({ station with loop := { station.loop with stallTimer := some 0 } } : State).loop.loopStall =
        false := by
  have h := shapes_station
  exact ⟨⟨by rfl, ⟨.operate, by rfl, by rfl⟩, by rfl⟩, h, by decide, by decide, by decide,
    by decide +kernel, by rfl, by decide, by decide, by decide, by rfl,
    ⟨by rfl, h.points, h.numbers, h.ring, h.history, h.bands⟩, by rfl, by decide, by decide, by decide⟩

/-- LOOP_STALL clears: ACTIVE_ACK becomes NORMAL, ACTIVE_UNACK becomes RETURNED_UNACK, with the notice (R154, R158). -/
theorem test_cleared_alarm :
    let clears := fun st =>
      let t := after (alarmed 23 true st) .holdInReleased
      ((t.alarm 23).state, t.transit.notice.map fun o => o.payload.take 5)
    clears .activeAck = (.normal, [[1, 23, 0, 2, 18]]) ∧
      clears .activeUnack = (.returnedUnack, [[1, 23, 3, 2, 18]]) := by decide +kernel

theorem test_acknowledged_alarm :
    ((after night (.ackAlarm 33 1 19)).alarm 19).state = .activeAck ∧
      (after night (.ackAlarm 33 1 19)).alarms.posted = some .steady := by decide +kernel

def timing : State :=
  { station.setAlarm 73 { station.alarm 73 with renotify := some 0 } with report := ⟨some 0⟩ }

theorem witness_TimersPostTheirNotices :
    let full := { timing with transit := { timing.transit with notice := fullNotice true } }
    let taken := { timing with transit := { timing.transit with notice := fullNotice false } }
    timing.on = true ∧ timing.transit.outbox = Outbox.empty ∧ timing.noticeFull = false ∧
      (timing.alarm 73).renotify.isSome = true ∧ timing.report.summaryTimer.isSome = true ∧
      full.on = true ∧ full.transit.outbox = Outbox.empty ∧ full.noticeFull = true ∧
      full.transit.notice.any OwnFrame.isAlarm = true ∧ taken.noticeFull = true ∧
      taken.transit.notice.any OwnFrame.isAlarm = false := by
  decide

/-- A SUMMARY meets a full class: the oldest ALARM notice goes, or it is lost itself; either is counted (R27). -/
theorem test_summary_meets_a_full_class :
    let meets := fun b => after
      { timing with transit := { timing.transit with notice := fullNotice b } } .summaryTimerExpiry
    ((meets true).transit.notice.map (·.payload.length), (meets true).transit.count.noticesLost) =
        ([1, 1, 1, 1, 1, 1, 1, 24], 1) ∧
      (meets false).transit.notice = fullNotice false ∧
      (meets false).transit.count.noticesLost = 1 := by decide +kernel

/-- The station settling, its drives in HAND. -/
def settlingStation : State :=
  { drives { pumpIn .hand with latch := some .f1 } (pumpIn .hand) (rakeIn .hand) with
    tables := { station.tables with mode := .settling, settling := some 0 } }

theorem witness_EveryDriveIsPlacedAtEntryToAutomatic :
    settlingStation.on = true ∧ Settled settlingStation ∧ ModesTrue settlingStation ∧
      RunOrderTrue settlingStation ∧ settlingStation.tables.settling.isSome = true ∧
      settlingStation.installed .p1 = true ∧ settlingStation.inService .a = true ∧
      settlingStation.loose ≤ settlingStation.capacity ∧ settlingStation.powerReturnTime ≠ 0 := by
  refine ⟨by rfl, ⟨by rfl, by rfl⟩, ⟨by decide, ?_, ?_⟩, ⟨by decide, ?_⟩, by rfl, by decide, by decide,
    by decide, by decide⟩
  · intro _
    exact ⟨fun p => by cases p <;> rfl, fun r => by cases r <;> rfl⟩
  · intro p q h _
    cases p <;> exact absurd h (by decide)
  · intro p
    cases p <;> decide

theorem test_entry_to_automatic :
    ((after settlingStation .settlingTimerExpiry).pump .p1).state = .tripped ∧
      ((after settlingStation .settlingTimerExpiry).pump .p2).state = .idle ∧
      (after settlingStation .settlingTimerExpiry).transit.actuator.length = 3 := by decide +kernel

def writingStation : State :=
  { station with tables := { station.tables with
      writing := some (.band, [1]), queue := [(.weir, [2])] } }

theorem witness_WriteCompletionJudgesTheImage :
    writingStation.on = true ∧ Shapes writingStation ∧
      writingStation.tables.writing = some (.band, [1]) ∧ station.tables.writing = none := by
  have h := shapes_station
  exact ⟨by rfl, ⟨h.alarms, h.points, h.numbers, h.ring, h.history, h.bands⟩, by rfl, by rfl⟩

def heldReset : State := { station with chip := { station.chip with resetLow := true } }

theorem witness_PowerAndResetHoldTheController :
    heldReset.chip.resetLow = true ∧ heldReset.on = false ∧ station.restartReady = false ∧
      ({ station with chip := { station.chip with mainPower := false } } : State).chip.mainPower =
        false ∧
      (Instr.silence 240 1).wellFormed = true := by decide

/-- Weir 1 spills with its record open, LOG_LOSS's retained marks set, alarm 17's count 3. -/
def spilling : State :=
  { weirAt WeirFlow.absent { WeirRec.dry with state := .spilling } [record40, openRecord] with
    chip := { station.chip with checkAgrees := true }
    alarms := (station.setAlarm 17 { station.alarm 17 with count := 3 }).alarms }

theorem witness_WarmStartKeepsTheRetainedFields :
    let s := { writingStation with chip := { station.chip with checkAgrees := true } }
    s.chip.resetLow = false ∧ s.chip.mainPower = true ∧ s.chip.checkAgrees = true ∧
      (∀ w, (s.weir w).state = .dry ∨ (s.weir w).state = .onset) ∧
      s.tables.writing = some (.band, [1]) ∧ station.tables.writing = none ∧
      s.seq.duty.Perm s.installedPumps ∧
      spilling.chip.resetLow = false ∧ spilling.chip.checkAgrees = true ∧
      spilling.alarms.entries.length = 73 ∧ (spilling.weir .w1).state = .spilling ∧
      openRecord.weir = .w1 ∧ openRecord.state = .opened :=
  ⟨by rfl, by rfl, by rfl, fun w => by cases w <;> decide, by rfl, by rfl, by decide, by rfl, by rfl,
    by decide, by decide, by rfl, by rfl⟩

/-- The station with a restart due: its response is gone and the store is at rest (R177). -/
def restarting : State :=
  { station with handler := { station.handler with restart := some ⟨4700, true⟩ } }

theorem test_restart_begins_when_its_response_is_gone :
    restarting.restartReady = true ∧
      (after restarting (.restartBegin 7 1)).chip.ownAddress = 7 ∧
      (after restarting (.restartBegin 7 1)).handler.restart = none := by decide +kernel

theorem witness_ColdStartSetsTheColdValues :
    let s := { restarting with chip := { station.chip with checkAgrees := false } }
    Shapes s ∧ s.chip.resetLow = false ∧ s.chip.checkAgrees = false ∧ s.chip.mainPower = true ∧
      s.on = true ∧ s.restartReady = true := by
  have h := shapes_station
  exact ⟨⟨h.alarms, h.points, h.numbers, h.ring, h.history, h.bands⟩, by rfl, by rfl, by rfl, by rfl,
    by decide⟩

/-! ### Witnesses: requests, tables, invariants -/

theorem witness_RequestIsAnsweredOnce :
    requestOf (.setDriveMode 33 1 1 0) = some (33, 1, .setDriveMode 1 0) ∧
      permissionOfCode (Request.setDriveMode 1 0).code = some .operate ∧ station.on = true ∧
      station.permission 31 = none ∧ station.permission 32 = some .view ∧
      Permission.view.covers .operate = false ∧ Permission.operate.covers .operate = true ∧
      station.responseFull = false ∧
      ({ station with transit := { station.transit with
        response := List.replicate 4 (responseTo 1) } } : State).responseFull = true ∧
      station.loop.handed = [] ∧ station.loop.holdOut = .released ∧ 33 ≠ station.chip.ownAddress ∧
      validAddress 33 = true ∧ validAddress station.chip.ownAddress = true ∧
      ((Request.setDriveMode 1 0).payload 1).length ≤ 40 := by decide

/-- A drive mode asked for by a source of permission VIEW is DENIED, counted, and changes no mode (R166). -/
theorem test_request_below_its_permission_is_denied :
    let t := after station (.setDriveMode 32 1 1 0)
    (t.transit.response.map (·.payload), t.handler.denied, (t.pump .p1).mgmt) =
      ([[16, 1, 1, 0]], 1, .auto) := by decide +kernel

theorem witness_RequestCharactersSpellTheRequest :
    (∀ table index data, Request.tableSegment 7 0 (List.replicate 32 0) = .tableSegment table index data →
      data.length ≤ 32) ∧
    (∀ i, partIndex (.readFlow (some 15)) = some i → i.toNat ≤ 15) ∧
    ∃ i, partIndex (.readFlow (some 16)) = some i ∧ 15 < i.toNat := by
  refine ⟨?_, ?_, 16, rfl, by decide⟩
  · intro _ _ _ h
    cases h
    decide
  · intro i h
    cases h
    decide

/-- The station with a given active ALARM image. -/
def storedAlarms (image : List Byte) : State :=
  { station with tables := { station.tables with active := { tables with
      alarm := tables.alarm.map fun x => { x with image := image } } } }

theorem witness_ReadsAnswerTheirImages :
    Taken station 240 .view ∧ Pump.p6.number = (6 : Byte).toNat ∧ 6 < (7 : Byte).toNat ∧
      tableOfCode 10 = some .alarm ∧ tableOfCode 11 = none ∧ 1 < (2 : Byte).toNat ∧
      (1 : Byte).toNat = 1 ∧ (0 : Byte).toNat = 0 ∧
      (storedAlarms (List.replicate 33 7)).activeImage .alarm = some (List.replicate 33 7) ∧
      State.reset.activeImage .alarm = none ∧ station.tables.shadows.get .alarm = .empty :=
  ⟨taken_station _, by decide, by decide, by decide, by decide, by decide, by decide, by decide, by rfl,
    by rfl, by rfl⟩

/-- A segment of one character, the count of two segments, and the check of the image behind its presence character;
the third segment is not there (R169, R183). -/
theorem test_read_table_segment :
    let reads := fun i =>
      (after (storedAlarms (List.replicate 32 0 ++ [7])) (.readTable 240 1 10 0 i none)).transit.response.map
        (·.payload.take 8)
    reads 1 = [[9, 1, 0, 0, 1, 7, 2, 1]] ∧ reads 2 = [[9, 1, 4, 0]] := by decide +kernel

/-- READ_SPILL's image is one part of 36 characters; a second part is MALFORMED (R183, R185). -/
theorem test_read_spill_is_one_part :
    let s := weirAt WeirFlow.absent WeirRec.dry [record40]
    (after s (.readSpill 240 1 1 0 none)).transit.response.map (·.payload.length) = [40] ∧
      (after s (.readSpill 240 1 1 0 (some 1))).transit.response.map (·.payload) =
        [[8, 1, 2, 0]] := by decide +kernel

/-- No record stands in the log: NOT_FOUND for part 15, MALFORMED for part 16 (R166, R183). -/
theorem test_part_index_is_judged_first :
    (after station (.readSpill 240 1 1 0 (some 15))).transit.response.map (·.payload) = [[8, 1, 4, 0]] ∧
      (after station (.readSpill 240 1 1 0 (some 16))).transit.response.map (·.payload) =
        [[8, 1, 2, 0]] := by decide +kernel

theorem witness_SetDriveModeJudgesTheEffectiveMode :
    Taken station 240 .operate ∧ Settled station ∧ 8 < (9 : Byte).toNat ∧ 2 < (3 : Byte).toNat ∧
      (1 : Byte).toNat = Pump.p1.number ∧ modeOfCode 2 = some .auto ∧
      station.installed .p3 = false ∧ station.installed .p1 = true ∧ RunOrderTrue station ∧
      station.inService .a = true ∧ station.inService .b = false ∧
      (station.rake .a).state.mode ≠ .hand ∧ (station.pump .p1).state.mode ≠ .hand :=
  ⟨taken_station _, settled_station, by decide, by decide, by decide, by decide, by decide, by decide,
    runOrder_drives _ _ _, by decide, by decide, by decide, by decide⟩

/-- A rake set to HAND has its waiting command withdrawn; pump 1's stays (R126). -/
theorem test_rake_in_hand_has_no_command_waiting :
    let rakeStop : OwnFrame := ⟨some 22, [1, 0], .command (.rake .a) .stop 0, 0⟩
    (after { station with transit := { station.transit with actuator := [rakeStop, stopP1] } }
      (.setDriveMode 240 1 7 1)).transit.actuator = [stopP1] := by decide +kernel

theorem test_drive_modes :
    ((after station (.setDriveMode 240 1 1 0)).pump .p1).state = .off ∧
      ((after station (.setDriveMode 240 1 7 1)).rake .a).state = .hand := by decide +kernel

theorem witness_ResetDriveAndRakeNowMoveTheirDrives :
    let s := drives { pumpIn .tripped with latch := some .f1 } (pumpIn .idle)
      { rakeIn .jammed with latch := some .travel }
    let u := drives
      { pumpIn .tripped with latch := some .f1, sources := { Sources.absent with f1 := true } }
      { pumpIn .off with sources := { Sources.absent with commandLost := true } } (rakeIn .idle)
    Settled s ∧ Shapes s ∧ Taken station 240 .operate ∧ s.installed .p1 = true ∧
      (s.pump .p1).latch.isSome = true ∧ (∀ f ∈ s.latchingSources .p1, f = .failToStart) ∧
      (s.pump .p1).state = .tripped ∧ (s.rake .a).latch.isSome = true ∧
      (s.rake .a).state = .jammed ∧ s.rakeCalled .a = false ∧
      (∃ f ∈ u.latchingSources .p1, f ≠ .failToStart) ∧ (u.pump .p2).latch = none ∧
      (u.pump .p2).sources.commandLost = true ∧ (u.pump .p2).state = .off ∧
      (u.rake .a).state = .idle ∧ u.powerReturned = true ∧ u.overOccupied = false ∧
      0 < u.freeSlots ∧ u.grants = 0 ∧ station.inService .b = false :=
  ⟨settled_drives _ _ _, shapes_drives _ _ _ (by decide) (by decide), taken_station _, by decide,
    by decide, by decide, by decide, by decide, by decide, by decide, ⟨.f1, by decide, by decide⟩,
    by decide, by decide, by decide, by decide, by decide, by decide, by decide, by decide, by decide⟩

theorem test_rake_now_starts_the_rake :
    ((after station (.rakeNow 240 1 7)).rake .a).state = .raking ∧
      (after station (.rakeNow 240 1 8)).transit.response.map (·.payload) = [[18, 1, 4, 0]] := by
  decide +kernel

def loadingStation (l : List (Option (List Byte))) : State :=
  { station with tables := { station.tables with
      shadows := station.tables.shadows.set .access (.loading l) } }

theorem witness_ShadowIsLoadedSegmentBySegment :
    Taken station 240 .configure ∧ tableOfCode 0 = none ∧ tableOfCode 2 = some .access ∧
      1 ≤ (64 : Byte).toNat ∧ (64 : Byte).toNat ≤ 64 ∧ 32 < (List.replicate 33 (0 : Byte)).length ∧
      (loadingStation [none]).tables.shadows.get .access = .loading [none] ∧
      ∀ l, station.tables.shadows.get .access ≠ .loading l :=
  ⟨taken_station _, by decide, by decide, by decide, by decide, by decide, by rfl,
    by intro l h; cases h⟩

def accessImage : List Byte := [1, 247, 2]

/-- The station with a table's shadow given. -/
def shadowed (t : TableId) (x : Shadow) (s : State) : State :=
  { s with tables := { s.tables with shadows := s.tables.shadows.set t x } }

/-- A SCREEN image that defines no screen. -/
def screenImage : List Byte := [0, 1, 1]

theorem witness_CommitIsJudgedAndActivated :
    Taken station 240 .configure ∧ Settled (loadingStation [some accessImage]) ∧
      methodOfCode 0 = some .immediate ∧ methodOfCode 3 = none ∧
      (loadingStation [none]).tables.shadows.get .access = .loading [none] ∧
      [some accessImage] = [accessImage].map some ∧
      crc [accessImage].flatten = crc accessImage ∧ crc [accessImage].flatten ≠ 0 ∧
      (∃ d, readTable station.surroundings .access accessImage = .ok d) ∧
      (∃ e, readTable station.surroundings .access [1, 247] = .error e) ∧
      (let s := shadowed .screen (.waiting [screenImage] .nextPeriod) station
      s.on = true ∧ Settled s ∧ s.tables.shadows.get .screen = .waiting [screenImage] .nextPeriod ∧
        (∀ y gs', y ≠ .screen → s.tables.shadows.get y ≠ .waiting gs' .nextPeriod)) ∧
      (∃ d, readTable station.surroundings .screen screenImage = .ok d) ∧
      methodOfCode 2 = some .quiet ∧ station.overOccupied = false ∧ station.quiet = true ∧
      (∀ p, (station.pump p).state ≠ .startWait) ∧ (∀ r, (station.rake r).state ≠ .waitSlot) ∧
      (drives startingNow (pumpIn .idle) (rakeIn .idle)).overOccupied = false ∧
      RunOrderTrue (drives startingNow (pumpIn .idle) (rakeIn .idle)) ∧
      ((drives startingNow (pumpIn .idle) (rakeIn .idle)).pump .p1).state = .starting :=
  ⟨taken_station _, ⟨by rfl, by rfl⟩, by decide, by decide, by rfl, by rfl, by rfl, by decide +kernel,
    ⟨.access [⟨247, .configure⟩], by rfl⟩, ⟨(.size, 0), by rfl⟩,
    ⟨by rfl, ⟨by rfl, by rfl⟩, by rfl, fun y _ h => by
      cases y <;> first | exact absurd rfl h | (intro e; cases e)⟩,
    ⟨.screen ⟨⟨none, none⟩, 1, 1⟩, by rfl⟩, by decide, by decide, by decide,
    fun p => by cases p <;> decide, fun r => by cases r <;> decide, by decide, runOrder_drives _ _ _,
    by decide⟩

/-- A SCREEN table that waits for NEXT_PERIOD is activated at the balance update; committed with QUIET it waits
while a pump is STARTING (R172). -/
theorem test_waiting_table_is_activated :
    (after (shadowed .screen (.waiting [screenImage] .nextPeriod) station)
      (.balanceUpdate ⟨true, true⟩)).activeImage .screen = some screenImage ∧
    (after (shadowed .screen (.loading [some screenImage]) station)
      (.tableCommit 240 1 8 2 (crc screenImage))).activeImage .screen = some screenImage ∧
    (after (shadowed .screen (.loading [some screenImage]) (drives startingNow (pumpIn .idle) (rakeIn .idle)))
      (.tableCommit 240 1 8 2 (crc screenImage))).transit.response.map (·.payload) =
        [[34, 1, 0, 0, 0]] := by decide +kernel

/-- An ACCESS table activates in the event of its commit; with another check it is REJECTED with CHECK (R170). -/
theorem test_access_table_activates_at_its_commit :
    (after (loadingStation [some accessImage]) (.tableCommit 240 1 2 0 (crc accessImage))).permission
        247 = some .configure ∧
      (after (loadingStation [some accessImage]) (.tableCommit 240 1 2 0 0)).transit.response.map
        (·.payload) = [[34, 1, 6, 0, 6, 0, 0]] := by decide +kernel

def standbyStation : State :=
  { drives (pumpIn .hand) (pumpIn .hand) (rakeIn .hand) with
    tables := { station.tables with mode := .standby } }

/-- A table's image in its shadow, whole, and the COMMIT that passes. -/
theorem commits_shadowed (x : TableId) (image : List Byte) (s : State) (hs : Taken s 240 .configure)
    (hn : tableOfCode (BitVec.ofNat 8 x.code) = some x) (hx : x = .station → s.tables.mode = .standby)
    (hr : (match readTable s.surroundings x image with
      | .ok _ => true
      | .error _ => false) = true) :
    ∃ d, Commits (shadowed x (.loading [some image]) s) 240 (BitVec.ofNat 8 x.code) 0 (crc image) x
      [image] d := by
  cases h : readTable s.surroundings x image with
  | error e => simp [h] at hr
  | ok d =>
    have hv : readTable s.surroundings x [image].flatten = .ok d := by simpa using h
    exact ⟨d, ⟨hs.on, hs.listed, hs.room⟩, ⟨hn, rfl⟩, by cases x <;> rfl, by simp, hv, hx⟩

/-- Images by their layouts (R184): 12 points of the station's classes, then point 12; no curve but two breakpoints. -/
def pointImage : List Byte :=
  u8 12 ++ ([0, 3, 2, 2, 0, 0, 2, 2, 2, 1, 0, 0].zipIdx.flatMap fun x =>
    u8 x.2 ++ u8 x.1 ++ u16 5 ++ u16 20 ++ [0, 0, 1])
def storageImage : List Byte := u8 2 ++ s16 0 ++ u32 0 ++ s16 1000 ++ u32 40000 ++ [4, 10]
def bandImage : List Byte := u8 1 ++ s16 1870 ++ s16 1000 ++ u16 0 ++ [1, 1]
def weirImage : List Byte :=
  [1, 1] ++ s16 3600 ++ [2] ++ u16 0 ++ u16 0 ++ u16 50 ++ u16 180 ++ [3, 20] ++ u16 4 ++ u16 30
def alarmImage (renotify : Byte) : List Byte := List.replicate 73 1 ++ [1, renotify, 15] ++ s16 3500
def pumpImage (startConfirm : Byte) : List Byte :=
  [10] ++ s16 4300 ++ u16 2150 ++ [2] ++ [1, 2].flatMap fun n : Byte =>
    [n, 2] ++ u16 0 ++ u16 400 ++ u16 9000 ++ u16 0 ++ u16 120 ++ u16 60 ++ [startConfirm, 20, 4] ++
      [0, 0, 0, 0, 0, 0, 0, 0, 0] ++ u16 850 ++ [5] ++ [0, 0, 1, 2]
def screenAImage (travel : Nat) : List Byte :=
  [1, 0] ++ u16 150 ++ u16 400 ++ u16 250 ++ u16 0 ++ u16 travel ++ u16 120 ++ [3, 8, 1, 1, 1]

/-- A STATION image whose roles are the station's, and whose gate list lacks the annunciator. -/
def stationImage : List Byte :=
  [4, 10] ++ u16 256 ++ u16 128 ++ [4] ++ u16 1000 ++ [50, 3, 20, 1, 1, 21, 1, 2, 22, 1, 7, 3, 2, 1] ++
    u16 30 ++ roles.list.flatMap fun u => match u.point with
      | none => [0, 0]
      | some n => [1, BitVec.ofNat 8 n]

/-- The station with an open record of weir 1, its point 12 defined, and its HIGH_LEVEL condition present. -/
def busyStation : State :=
  { weirAt ⟨some 12, true, 43⟩ (receding 1) [record40, openRecord] with
    tables := { station.tables with active := { tables with
      point := some ⟨[], station.pointDefs ++ [pointDef 12 .level]⟩ } }
    alarms := night.alarms }

theorem settled_shadowed (x : TableId) (l : List (Option (List Byte))) (s : State) (h : Settled s)
    (hw : s.tables.shadows = PerTable.all .empty) : Settled (shadowed x (.loading l) s) := by
  refine ⟨?_, h.outbox⟩
  show (shadowed x (.loading l) s).awaits .quiet = false
  simp only [State.awaits, shadowed, hw]
  cases x <;> rfl

theorem witness_ActivationReachesTheBlocks :
    (∀ x ∈ [(TableId.access, accessImage), (.tap, [0]), (.storage, storageImage), (.point, pointImage),
        (.band, bandImage), (.weir, weirImage), (.weir, [0]), (.alarm, alarmImage 10), (.alarm, alarmImage 5),
        (.alarm, alarmImage 0)],
      let s := shadowed x.1 (.loading [some x.2]) (if x.1 = .tap then standbyStation else busyStation)
      Settled s ∧ Shapes s ∧
        ∃ d, Commits s 240 (BitVec.ofNat 8 x.1.code) 0 (crc x.2) x.1 [x.2] d) ∧
      (busyStation.weir .w1).state = .receding ∧ openRecord.state = .opened ∧
      (busyStation.pointDef 12).isSome = true ∧ busyStation.pointDef 13 = none ∧
      (busyStation.alarm 19).state = .activeUnack ∧ busyStation.priority 19 = 1 := by
  have h := shapes_station
  have hd := shapes_drives (pumpIn .hand) (pumpIn .hand) (rakeIn .hand) (by decide) (by decide)
  have ht : Taken busyStation 240 .configure := ⟨rfl, ⟨.configure, by rfl, by rfl⟩, by rfl⟩
  have ht' : Taken standbyStation 240 .configure := ⟨rfl, ⟨.configure, by rfl, by rfl⟩, by rfl⟩
  have hb : Shapes busyStation :=
    ⟨by decide +kernel, h.points, ⟨by decide, by decide⟩, h.ring, h.history, h.bands⟩
  have all : ∀ (x : TableId) (image : List Byte), x ≠ .station → x ≠ .tap →
      tableOfCode (BitVec.ofNat 8 x.code) = some x →
      (match readTable busyStation.surroundings x image with
        | .ok _ => true
        | .error _ => false) = true →
      let s := shadowed x (.loading [some image]) (if x = .tap then standbyStation else busyStation)
      Settled s ∧ Shapes s ∧
        ∃ d, Commits s 240 (BitVec.ofNat 8 x.code) 0 (crc image) x [image] d := by
    intro x image hx hy hn hr
    simp only [hy, if_false]
    exact ⟨settled_shadowed _ _ _ ⟨by rfl, by rfl⟩ rfl,
      ⟨hb.alarms, hb.points, hb.numbers, hb.ring, hb.history, hb.bands⟩,
      commits_shadowed x image busyStation ht hn (fun e => absurd e hx) hr⟩
  refine ⟨?_, by decide, by decide, by decide, by decide, by decide +kernel, by decide⟩
  intro x hx
  simp only [List.mem_cons, List.not_mem_nil, or_false] at hx
  rcases hx with rfl | rfl | rfl | rfl | rfl | rfl | rfl | rfl | rfl | rfl
  · exact all _ _ (by decide) (by decide) (by decide) (by decide +kernel)
  · exact ⟨settled_shadowed _ _ _ ⟨by rfl, by rfl⟩ rfl,
      ⟨hd.alarms, hd.points, hd.numbers, hd.ring, hd.history, hd.bands⟩,
      commits_shadowed .tap [0] standbyStation ht' (by decide) (fun e => by cases e) (by decide +kernel)⟩
  all_goals exact all _ _ (by decide) (by decide) (by decide) (by decide +kernel)

/-- Each table reaches its block: the ring emptied, a point removed afresh, the bands engaged, the open record
closed at its end candidate with its table, an alarm's renotify timer kept by an activation that leaves the interval
as it was (R53, R69, R102, R151, R159). -/
theorem test_activations :
    let timed := fun n : Nat => { night with
      chip := { station.chip with uptime := 600 }
      alarms := (night.setAlarm 19 { night.alarm 19 with renotify := some n }).alarms }
    (activateImage .storage storageImage
      { busyStation with flow := { station.flow with ring := [⟨1, 2, 3⟩] } }).flow.ring = [] ∧
    (let t := activateImage .point pointImage
      { busyStation with points := ⟨pointRecs.set 12 (good 5), 0, 0⟩ }
    (t.pointRec 12, t.pointRec 0) = (PointRec.start, good 1871)) ∧
    (activateImage .band bandImage { station with flow := { station.flow with record :=
      { station.flow.record with basis := .filtered, level := 1870 } } }).seq.engaged = [true] ∧
    ((activateImage .weir [0] busyStation).spill.log.map fun r => (r.state, r.flags.tableChanged)) =
      [(.collected, false), (.closed, true)] ∧
    ((activateImage .weir weirImage busyStation).spill.log.map fun r => (r.state, r.flags.tableChanged)) =
      [(.collected, false), (.opened, true)] ∧
    ((activateImage .alarm (alarmImage 10) (timed 0)).alarm 19).renotify = some 0 ∧
    ((activateImage .alarm (alarmImage 5) (timed 0)).alarm 19).renotify = some 600 ∧
    ((activateImage .alarm (alarmImage 5) (timed 301)).alarm 19).renotify = some 301 := by decide +kernel

/-- A pump in STARTING, the seconds since the last start given, its minimum off timer begun then too. -/
def startingFor (n : Nat) : State :=
  { drives (pumpIn .idle) { startingNow with minOff := some 0 } (rakeIn .idle) with
    chip := { station.chip with uptime := n } }

/-- Rake A raking for a number of seconds. -/
def rakingFor (n : Nat) : State :=
  { drives (pumpIn .idle) (pumpIn .idle) raking with chip := { station.chip with uptime := n } }

theorem commits_onStation (x : TableId) (image : List Byte) (s : State) (hx : x ≠ .station)
    (hs : s.tables = station.tables) (ho : s.on = true) (hr : s.transit = station.transit)
    (hl : s.loop = station.loop) (hp : Shapes s) (hn : tableOfCode (BitVec.ofNat 8 x.code) = some x)
    (hv : (match readTable station.surroundings x image with
      | .ok _ => true
      | .error _ => false) = true) :
    let u := shadowed x (.loading [some image]) s
    Settled u ∧ Shapes u ∧ ∃ d, Commits u 240 (BitVec.ofNat 8 x.code) 0 (crc image) x [image] d := by
  have ht : Taken s 240 .configure := by
    refine ⟨ho, ⟨.configure, ?_, rfl⟩, ?_⟩
    · unfold State.permission State.accessList; rw [hs]; rfl
    · unfold State.responseFull; rw [hr, hl]; rfl
  have he : s.surroundings = station.surroundings := by
    unfold State.surroundings State.station State.pastStandby; rw [hs]
  refine ⟨settled_shadowed _ _ _ ⟨?_, by rw [hr]; rfl⟩ (by rw [hs]; rfl),
    ⟨hp.alarms, hp.points, hp.numbers, hp.ring, hp.history, hp.bands⟩,
    commits_shadowed x image s ht hn (fun e => absurd e hx) (by rw [he]; exact hv)⟩
  unfold State.awaits; rw [hs]; rfl

theorem witness_ActivationReachesTheDrives :
    (let s := shadowed .station (.loading [some stationImage]) standbyStation
    Settled s ∧ Shapes s ∧ SlotLaw s ∧ HandOutsideAutomatic s ∧
      ∃ d, Commits s 240 1 0 (crc stationImage) .station [stationImage] d) ∧
    (∀ image ∈ [screenImage, screenAImage 90], ∀ n,
      let s := shadowed .screen (.loading [some image]) (rakingFor n)
      Settled s ∧ Shapes s ∧ SlotLaw s ∧
        ∃ d, Commits s 240 (BitVec.ofNat 8 TableId.screen.code) 0 (crc image) .screen [image] d) ∧
    (∀ n, let s := shadowed .pump (.loading [some (pumpImage 40)]) (startingFor n)
      Settled s ∧ Shapes s ∧ SlotLaw s ∧ ∃ d, Commits s 240 (BitVec.ofNat 8 TableId.pump.code) 0
        (crc (pumpImage 40)) .pump [pumpImage 40] d) ∧
    (let s := rakingFor 90
    s.automatic = true ∧ s.inService .a = true ∧ (s.rake .a).mgmt = .auto ∧
      (s.rake .a).state = .raking ∧ (s.rake .a).travel = some 0 ∧ 90 ≤ s.now - 0) ∧
    let s := startingFor 40
    (∀ r, (s.rake r).state ≠ .waitSlot) ∧ s.installed .p2 = true ∧
      (s.pump .p2).sources = Sources.absent ∧ (s.pump .p2).latch = none ∧
      (s.role fun y => y.f1.get .p2) = none ∧ (s.role fun y => y.current.get .p2) = none ∧
      (s.pump .p2).state = .starting ∧ (s.pump .p2).startConfirm = some 0 ∧
      40 ≤ s.now - 0 ∧ (startingFor 39).now - 0 < 40 := by
  have hd := shapes_drives (pumpIn .hand) (pumpIn .hand) (rakeIn .hand) (by decide) (by decide)
  have hk := shapes_drives (pumpIn .idle) (pumpIn .idle) raking (by decide) (by decide)
  have hp := shapes_drives (pumpIn .idle) { startingNow with minOff := some 0 } (rakeIn .idle)
    (by decide) (by decide)
  have ht : Taken standbyStation 240 .configure := ⟨rfl, ⟨.configure, by rfl, by rfl⟩, by rfl⟩
  refine ⟨⟨settled_shadowed _ _ _ ⟨by rfl, by rfl⟩ rfl,
      ⟨hd.alarms, hd.points, hd.numbers, hd.ring, hd.history, hd.bands⟩, Or.inl (by decide),
      fun _ => ⟨fun p => by cases p <;> rfl, fun r => by cases r <;> rfl⟩,
      commits_shadowed .station stationImage standbyStation ht (by decide) (fun _ => rfl)
        (by decide +kernel)⟩, ?_, ?_, by decide, fun r => by cases r <;> decide, by decide, by decide,
    by decide, by decide, by decide, by decide, by decide, by decide, by decide⟩
  · intro image hi n
    have hv : (match readTable station.surroundings .screen image with
        | .ok _ => true
        | .error _ => false) = true := by
      simp only [List.mem_cons, List.not_mem_nil, or_false] at hi
      rcases hi with rfl | rfl <;> decide +kernel
    have h := commits_onStation .screen image (rakingFor n) (by decide) rfl rfl rfl rfl
      ⟨hk.alarms, hk.points, hk.numbers, hk.ring, hk.history, hk.bands⟩ (by decide) hv
    have hl : (rakingFor 0).grants + (rakingFor 0).loose ≤ (rakingFor 0).capacity := by decide
    exact ⟨h.1, h.2.1, Or.inr hl, h.2.2⟩
  · intro n
    have h := commits_onStation .pump (pumpImage 40) (startingFor n) (by decide) rfl rfl rfl rfl
      ⟨hp.alarms, hp.points, hp.numbers, hp.ring, hp.history, hp.bands⟩ (by decide) (by decide +kernel)
    have hl : (startingFor 0).grants + (startingFor 0).loose ≤ (startingFor 0).capacity := by decide
    exact ⟨h.1, h.2.1, Or.inr hl, h.2.2⟩

/-- A confirm timer that reaches its new length trips its pump, one second below it runs on; a screen removed leaves
its rake in HAND; an actuator that left the gate list has no command (R36, R94, R134). -/
theorem test_activations_at_the_drives :
    ((activateImage .pump (pumpImage 40) (startingFor 40)).pump .p2).latch = some .failToStart ∧
      ((activateImage .pump (pumpImage 40) (startingFor 39)).pump .p2).state = .starting ∧
      ((activateImage .screen screenImage (rakingFor 0)).rake .a).state = .hand ∧
      ((activateImage .screen (screenAImage 90) (rakingFor 90)).rake .a).state = .reversing ∧
      ((activateImage .screen (screenAImage 90) (rakingFor 89)).rake .a).state = .raking ∧
      (activateImage .station stationImage standbyStation).transit.gate.map (·.drive) =
        [.pump .p1, .pump .p2, .rake .a] := by decide +kernel

/-- A warm start with the STATION and WEIR tables in the store keeps weir 1 SPILLING, SPILL counted once more; with a
blank store its record is closed and SPILL not raised (R152, R164). -/
theorem test_warm_start_while_spilling :
    let kept := after { spilling with tables := { station.tables with
      stored := (station.tables.stored.set .station (.intact stationImage)).set .weir
        (.intact weirImage) } } (.powerUp 1 0 true)
    let gone := after spilling (.powerUp 1 0 true)
    ((kept.weir .w1).state, (kept.alarm 17).count, kept.spill.log.map (·.state)) =
        (.spilling, 4, [.collected, .opened]) ∧
      (kept.alarm 17).condition = true ∧
      ((gone.weir .w1).state, (gone.alarm 17).condition, gone.spill.log.map (·.state)) =
        (.dry, false, [.collected, .closed]) := by decide +kernel

/-- The station in STANDBY with given active tables. -/
def standbyWith (active : ActiveTables) : State :=
  { standbyStation with tables := { standbyStation.tables with active := active } }

/-- Band 2 asks for three pumps of the two installed. -/
def greedyBands : State :=
  standbyWith { tables with band := some ⟨[], ⟨[⟨1800, 1200, 300, 2⟩, ⟨2400, 1500, 0, 3⟩], 1⟩⟩ }

/-- The PUMP table has no entry of pump 2. -/
def entryMissing : State :=
  standbyWith { tables with pump := some ⟨[], ⟨10, 4300, 2150, [pumpEntry .p1]⟩⟩ }

theorem witness_StationModeIsSetOrRejected :
    Taken station 240 .configure ∧ Settled station ∧ 2 ≤ (2 : Byte).toNat ∧
      standbyStation.tables.mode = .standby ∧ (standbyWith { tables with band := none }).tableActive .band =
        false ∧
      (∀ x ∈ [TableId.station, .tap, .point, .storage, .pump, .band],
        standbyStation.tableActive x = true ∧ greedyBands.tableActive x = true ∧
          entryMissing.tableActive x = true) ∧
      (∀ u ∈ (stationTable.roles).list, ∀ n, u.point = some n →
        (standbyStation.pointDef n).map (·.cls) = some u.cls ∧
          standbyStation.taps.any (fun x => x.target = n) = true) ∧
      (∀ p, standbyStation.installed p = true → (standbyStation.pumpEntry p).isSome = true) ∧
      entryMissing.installed .p2 = true ∧ entryMissing.pumpEntry .p2 = none ∧
      (pumps.filter fun p => greedyBands.installed p).length = 2 ∧
      greedyBands.bands = [⟨1800, 1200, 300, 2⟩] ++ ⟨2400, 1500, 0, 3⟩ :: [] ∧
      station.tables.mode ≠ .standby ∧ RunOrderTrue station := by
  refine ⟨taken_station _, settled_station, by decide, by decide, by decide, by decide, ?_, ?_, by decide,
    by decide, by decide, by decide, by decide, runOrder_drives _ _ _⟩
  · have h : (stationTable.roles.list.all fun u => match u.point with
        | none => true
        | some n => decide ((standbyStation.pointDef n).map (·.cls) = some u.cls) &&
            standbyStation.taps.any fun x => x.target = n) = true := by decide +kernel
    intro u hu n hn
    have := List.all_eq_true.mp h u hu
    simpa [hn] using this
  · intro p
    cases p <;> decide

/-- The mandatory check's answers: BAND missing by its code, the river's point (role 1) undefined, pump 2 without an
entry, band 2 above the installed count (R174; indices from 0, log 15). -/
theorem test_mandatory_check :
    let answers := fun s => (after s (.setStationMode 240 1 1)).transit.response.map (·.payload)
    let noRiver := standbyWith { tables with
      point := tables.point.map fun x => { x with data := x.data.filter fun d => d.number ≠ 11 } }
    answers (standbyWith { tables with band := none }) = [[36, 1, 6, 0, 4, 0, 7]] ∧
      answers noRiver = [[36, 1, 6, 0, 4, 0, 1]] ∧ answers entryMissing = [[36, 1, 6, 0, 4, 0, 1]] ∧
      answers greedyBands = [[36, 1, 6, 0, 4, 0, 1]] ∧ answers standbyStation = [[36, 1, 0, 0]] := by
  decide +kernel

theorem witness_CountersAreClearedAndRestartIsMarked :
    Taken station 240 .configure ∧ station.handler.restart = none ∧
      restarting.handler.restart = some ⟨4700, true⟩ := ⟨taken_station _, by rfl, by rfl⟩

theorem witness_StepRecordsEachStartWithinTheLimit :
    (∃ t, step { drives (pumpIn .startWait) (pumpIn .idle) (rakeIn .idle) with
        arbiter := staggering, pending := [.staggerTimerExpiry] } = .next t ∧
      t.tables.active.pump =
        (drives (pumpIn .startWait) (pumpIn .idle) (rakeIn .idle)).tables.active.pump ∧
      (t.pump .p1).state = .starting) ∧
    Starts (.powerUp 1 0 false) State.reset false ∧
    (drives (pumpIn .startWait) (pumpIn .idle) (rakeIn .idle)).eligible .p1 = true :=
  ⟨⟨_, rfl, by decide +kernel, by decide +kernel⟩, ⟨1, 0, Or.inl ⟨false, rfl, rfl, rfl⟩⟩, by decide⟩

theorem queuesTrue_classesFull : QueuesTrue (classesFull [frameOf 3 9 8] 3 []) where
  capacity := ⟨by decide, by decide, by decide, by decide, by decide⟩
  head := by intro f h; cases h
  classes := classesTrue_classesFull _ _ _
  breakHold := by unfold HoldsBreak; decide
  outbox := by rfl

theorem witness_EveryStepKeepsTheQueuesTrue :
    QueuesTrue (classesFull [frameOf 3 9 8] 3 []) ∧
      ∃ t, step (classesFull [frameOf 3 9 8] 3 []) = .next t := ⟨queuesTrue_classesFull, _, rfl⟩

theorem witness_EveryStepKeepsTheSlotLaw :
    SlotLaw (drives (pumpIn .running) (pumpIn .idle) (rakeIn .raking)) ∧
      RunOrderTrue (drives (pumpIn .running) (pumpIn .idle) (rakeIn .raking)) ∧
      ∃ t, step (drives (pumpIn .running) (pumpIn .idle) (rakeIn .raking)) = .next t :=
  ⟨Or.inr (by decide), runOrder_drives _ _ _, _, rfl⟩

theorem witness_EveryStepKeepsTheSpillLogTrue :
    SpillLogTrue { weirAt WeirFlow.absent (receding 1) [record40, openRecord] with
      spill := { Spill.cold with
        weirs := ⟨receding 1, WeirRec.dry⟩, log := [record40, openRecord], nextNumber := 42 } } :=
  ⟨by decide, by decide, by decide, by decide, fun w => by cases w <;> decide⟩

theorem witness_EveryStepKeepsTheModesTrue :
    ModesTrue (drives startingNow (pumpIn .running) (rakeIn .raking)) ∧
      ∃ t, step (drives startingNow (pumpIn .running) (rakeIn .raking)) = .next t :=
  ⟨modes_drives _ _ _ (by decide), _, rfl⟩

theorem witness_EveryStepKeepsTheShapes :
    Shapes station ∧ ∃ t, step station = .next t := ⟨shapes_station, _, rfl⟩

end Sys2Proof.Tests
end

section
/-! SUPPORT. The invariant of the loop port and the transit section as it holds inside an event, and the work of
an event as a relation: what every shared operation keeps of the queue of commands, the chip, the RESPONSE class,
the frame being sent and the length of the alarm list, and that it keeps that invariant. -/

namespace Sys2Proof.Proofs

open Sys2Proof.Machine Sys2Proof.Safety Sys2Proof.Laws

/-! ### The line's invariant inside an event -/

/-- An own frame of the ACTUATOR class (R25). -/
def IsCommand (o : OwnFrame) : Prop := ∃ a code arg, o.ref = .command a code arg

/-- An own frame of the NOTICE class (R25). -/
def IsNotice (o : OwnFrame) : Prop := ∃ t n, o.ref = .notice t n

/-- An own frame of the RESPONSE class (R25). -/
def IsResponse (o : OwnFrame) : Prop := ∃ tag b, o.ref = .response tag b

/-- The notices held until the end of the event, in no order. -/
def heldBack (b : Outbox) : List OwnFrame :=
  b.retried ++ b.spill.map (·.2) ++ b.alarm.map (·.2) ++ b.summary

/-- `QueuesTrue` of a loop port and a transit section, but that notices may still wait for the end of the event. -/
structure LineTrue (l : LoopPort) (x : Transit) : Prop where
  queue : fill x.queue ≤ 384
  lap : x.lap.length + (sendingOwn l.tx).toNat ≤ 16
  noticeRoom : x.notice.length + l.tx.sendingNotice.toNat ≤ 8
  responseRoom : x.response.length + l.tx.sendingResponse.toNat ≤ 4
  fairness : x.fairness ≤ 4
  head : ∀ f, l.tx = .transit f → x.queue.head? = some f
  actuator : ∀ o ∈ x.actuator, IsCommand o
  notice : ∀ o ∈ x.notice, IsNotice o
  response : ∀ o ∈ x.response, IsResponse o
  breakHold : l.tx = .breakHold ↔ l.assembler = .brk
  held : ∀ o ∈ heldBack x.outbox, IsNotice o

/-- Between events the invariant is `QueuesTrue`. -/
theorem queuesTrue_iff {s : State} :
    QueuesTrue s ↔ LineTrue s.loop s.transit ∧ s.transit.outbox = Outbox.empty := by
  constructor
  · rintro ⟨⟨hq, hl, hn, hr, hf⟩, hh, ⟨ca, cn, cr⟩, hb, ho⟩
    refine ⟨⟨hq, hl, hn, hr, hf, hh, ca, cn, cr, hb, ?_⟩, ho⟩
    rw [show s.transit.outbox = Outbox.empty from ho]
    simp [heldBack, Outbox.empty]
  · rintro ⟨h, ho⟩
    exact ⟨⟨h.queue, h.lap, h.noticeRoom, h.responseRoom, h.fairness⟩, h.head,
      ⟨h.actuator, h.notice, h.response⟩, h.breakHold, ho⟩

/-! ### What the superseded mark does not change -/

theorem sendingOwn_unmarkedTx (t : Tx) : sendingOwn (unmarkedTx t) = sendingOwn t := by cases t <;> rfl

theorem sendingNotice_unmarkedTx (t : Tx) : (unmarkedTx t).sendingNotice = t.sendingNotice := by
  cases t <;> rfl

theorem sendingResponse_unmarkedTx (t : Tx) : (unmarkedTx t).sendingResponse = t.sendingResponse := by
  cases t <;> rfl

theorem unmarkedTx_eq_transit (t : Tx) (f : Frame) : unmarkedTx t = .transit f ↔ t = .transit f := by
  cases t <;> simp [unmarkedTx]

theorem unmarkedTx_eq_breakHold (t : Tx) : unmarkedTx t = .breakHold ↔ t = .breakHold := by
  cases t <;> simp [unmarkedTx]

variable {l l' : LoopPort} {x : Transit}

/-- The invariant reads of the loop port the frame being sent, without its mark, and whether Loop In is in break. -/
theorem LineTrue.of_loop (h : LineTrue l x) (htx : unmarkedTx l'.tx = unmarkedTx l.tx)
    (hbrk : l'.assembler = .brk ↔ l.assembler = .brk) : LineTrue l' x := by
  have own : sendingOwn l'.tx = sendingOwn l.tx := by
    rw [← sendingOwn_unmarkedTx, htx, sendingOwn_unmarkedTx]
  have ntc : l'.tx.sendingNotice = l.tx.sendingNotice := by
    rw [← sendingNotice_unmarkedTx, htx, sendingNotice_unmarkedTx]
  have rsp : l'.tx.sendingResponse = l.tx.sendingResponse := by
    rw [← sendingResponse_unmarkedTx, htx, sendingResponse_unmarkedTx]
  have trn : ∀ f, l'.tx = .transit f ↔ l.tx = .transit f := fun f => by
    rw [← unmarkedTx_eq_transit, htx, unmarkedTx_eq_transit]
  have brk : l'.tx = .breakHold ↔ l.tx = .breakHold := by
    rw [← unmarkedTx_eq_breakHold, htx, unmarkedTx_eq_breakHold]
  exact ⟨h.queue, own ▸ h.lap, ntc ▸ h.noticeRoom, rsp ▸ h.responseRoom, h.fairness,
    fun f hf => h.head f ((trn f).mp hf), h.actuator, h.notice, h.response,
    brk.trans (h.breakHold.trans hbrk.symm), h.held⟩

/-- Marks on lap entries do not matter to the invariant. -/
theorem LineTrue.of_lap (h : LineTrue l x) {lap : List LapEntry} (hl : lap.length ≤ x.lap.length) :
    LineTrue l { x with lap := lap } :=
  { h with lap := le_trans (Nat.add_le_add_right hl _) h.lap }

theorem LineTrue.of_outbox (h : LineTrue l x) {b : Outbox} (hb : ∀ o ∈ heldBack b, IsNotice o) :
    LineTrue l { x with outbox := b } := { h with held := hb }

/-! ### The work of an event -/

/-- `t` comes of work on `s` within one event that is no start and no event of the line: judging drives, points,
tables or alarms, posting commands and notices, resolving lap entries, forwarding. -/
structure Worked (s t : State) : Prop where
  pending : t.pending = s.pending
  chip : t.chip = s.chip
  response : t.transit.response = s.transit.response
  tx : unmarkedTx t.loop.tx = unmarkedTx s.loop.tx
  entries : t.alarms.entries.length = s.alarms.entries.length
  line : LineTrue s.loop s.transit → LineTrue t.loop t.transit

variable {s t u : State}

@[simp] theorem Worked.refl (s : State) : Worked s s := ⟨rfl, rfl, rfl, rfl, rfl, id⟩

theorem Worked.trans (h : Worked s t) (h' : Worked t u) : Worked s u :=
  ⟨h'.pending.trans h.pending, h'.chip.trans h.chip, h'.response.trans h.response, h'.tx.trans h.tx,
    h'.entries.trans h.entries, h'.line ∘ h.line⟩

/-- Work that leaves the loop port, the transit section and the chip alone. -/
theorem Worked.of_line_eq (h : Worked s t) (hp : u.pending = t.pending) (hc : u.chip = t.chip)
    (hl : u.loop = t.loop) (hx : u.transit = t.transit)
    (ha : u.alarms.entries.length = t.alarms.entries.length) : Worked s u :=
  h.trans ⟨hp, hc, by rw [hx], by rw [hl], ha, by rw [hl, hx]; exact id⟩

/-- Work on the loop port that leaves the frame being sent and a break standing. -/
theorem Worked.of_loop (h : Worked s t) (l : LoopPort) (htx : l.tx = t.loop.tx)
    (hb : l.assembler = .brk ↔ t.loop.assembler = .brk) : Worked s { t with loop := l } :=
  h.trans ⟨rfl, rfl, rfl, by rw [htx], rfl, fun ht => ht.of_loop (by rw [htx]) hb⟩

/-- Work on the transit section that leaves the RESPONSE class. -/
theorem Worked.of_transit (h : Worked s t) (x : Transit) (hr : x.response = t.transit.response)
    (hx : LineTrue t.loop t.transit → LineTrue t.loop x) : Worked s { t with transit := x } :=
  h.trans ⟨rfl, rfl, hr, rfl, rfl, hx⟩

@[simp] theorem worked_ite {c : Prop} [Decidable c] :
    Worked s (if c then t else u) ↔ (c → Worked s t) ∧ (¬c → Worked s u) := by
  split <;> simp_all

section Records
variable (h : Worked s t)
include h

@[simp] theorem worked_setPoints (x : Points) : Worked s { t with points := x } :=
  h.of_line_eq rfl rfl rfl rfl rfl

@[simp] theorem worked_setFlow (x : Flow) : Worked s { t with flow := x } :=
  h.of_line_eq rfl rfl rfl rfl rfl

@[simp] theorem worked_setArbiter (x : Arbiter) : Worked s { t with arbiter := x } :=
  h.of_line_eq rfl rfl rfl rfl rfl

@[simp] theorem worked_setSeq (x : Sequencer) : Worked s { t with seq := x } :=
  h.of_line_eq rfl rfl rfl rfl rfl

@[simp] theorem worked_setScreens (x : Screens) : Worked s { t with screens := x } :=
  h.of_line_eq rfl rfl rfl rfl rfl

@[simp] theorem worked_setSpill (x : Spill) : Worked s { t with spill := x } :=
  h.of_line_eq rfl rfl rfl rfl rfl

@[simp] theorem worked_setReport (x : Report) : Worked s { t with report := x } :=
  h.of_line_eq rfl rfl rfl rfl rfl

@[simp] theorem worked_setClock (x : Clock) : Worked s { t with clock := x } :=
  h.of_line_eq rfl rfl rfl rfl rfl

@[simp] theorem worked_setHandler (x : Handler) : Worked s { t with handler := x } :=
  h.of_line_eq rfl rfl rfl rfl rfl

@[simp] theorem worked_setTables (x : Tables) : Worked s { t with tables := x } :=
  h.of_line_eq rfl rfl rfl rfl rfl

@[simp] theorem worked_setSilence (b : Bool) :
    Worked s { t with alarms := { t.alarms with silence := b } } := h.of_line_eq rfl rfl rfl rfl rfl

@[simp] theorem worked_setConfirmed (b : Bool) :
    Worked s { t with alarms := { t.alarms with confirmed := b } } := h.of_line_eq rfl rfl rfl rfl rfl

@[simp] theorem worked_setPosted (m : Option AnnMode) (b : Bool) :
    Worked s { t with alarms := { t.alarms with posted := m, confirmed := b } } :=
  h.of_line_eq rfl rfl rfl rfl rfl

@[simp] theorem worked_setPump (p : Pump) (r : PumpRec) : Worked s (t.setPump p r) := worked_setSeq h _

@[simp] theorem worked_setRake (r : Side) (v : RakeRec) : Worked s (t.setRake r v) := worked_setScreens h _

@[simp] theorem worked_setScreen (r : Side) (v : ScreenRec) : Worked s (t.setScreen r v) :=
  worked_setScreens h _

@[simp] theorem worked_setWeir (w : Weir) (v : WeirRec) : Worked s (t.setWeir w v) := worked_setSpill h _

@[simp] theorem worked_setPoint (n : Nat) (v : PointRec) : Worked s (t.setPoint n v) := worked_setPoints h _

@[simp] theorem worked_setAlarm (n : Nat) (e : AlarmEntry) : Worked s (t.setAlarm n e) :=
  h.of_line_eq rfl rfl rfl rfl (by simp)

@[simp] theorem worked_setSources (p : Pump) (x : Sources) : Worked s (t.setSources p x) :=
  worked_setPump h _ _

@[simp] theorem worked_setShadow (i : TableId) (x : Shadow) : Worked s (setShadow i x t) := worked_setTables h _

@[simp] theorem worked_setOutcome (i : TableId) (x : Activation) : Worked s (setOutcome i x t) :=
  worked_setTables h _

@[simp] theorem worked_putTable (image : List Byte) (d : TableData) : Worked s (t.putTable image d) :=
  worked_setTables h _

@[simp] theorem worked_countTransit (f : TransitCounters → TransitCounters) :
    Worked s (t.countTransit f) := h.of_transit _ rfl fun hl => { hl with }

@[simp] theorem worked_countLine (f : LineCounters → LineCounters) : Worked s (t.countLine f) :=
  h.of_loop _ rfl Iff.rfl

end Records

/-! ### Folds -/

theorem worked_foldl {α : Type} (f : State → α → State) (hf : ∀ u a, Worked s u → Worked s (f u a))
    (h : Worked s t) (as : List α) : Worked s (as.foldl f t) := by
  induction as generalizing t with
  | nil => exact h
  | cons a as ih => exact ih (hf t a h)

theorem worked_eachPump {f : Pump → State → State} (hf : ∀ p u, Worked s u → Worked s (f p u))
    (h : Worked s t) : Worked s (eachPump f t) := worked_foldl _ (fun u p => hf p u) h _

theorem worked_eachSide {f : Side → State → State} (hf : ∀ r u, Worked s u → Worked s (f r u))
    (h : Worked s t) : Worked s (eachSide f t) := worked_foldl _ (fun u r => hf r u) h _

theorem worked_eachWeir {f : Weir → State → State} (hf : ∀ w u, Worked s u → Worked s (f w u))
    (h : Worked s t) : Worked s (eachWeir f t) := worked_foldl _ (fun u w => hf w u) h _

theorem worked_guarded {c : State → Bool} {f : State → State} (hf : ∀ u, Worked s u → Worked s (f u))
    (h : Worked s t) : Worked s (guarded c f t) := by
  unfold guarded; split
  · exact hf t h
  · exact h

end Sys2Proof.Proofs
end

section
/-! SUPPORT. Posting commands and notices is work of an event (R25 to R28, R156, R161). -/

namespace Sys2Proof.Proofs

open Sys2Proof.Machine Sys2Proof.Safety Sys2Proof.Laws

variable {s t : State}

/-! ### Commands and their class (R25, R26) -/

theorem isCommand_recommand (o : OwnFrame) (a : Actuator) (c : CommandCode) (g : Byte) (n : Nat) :
    IsCommand (o.recommand a c g n) := ⟨a, c, g, rfl⟩

theorem isCommand_commandFrame (e : GateEntry) (c : CommandCode) (g : Byte) (n : Nat) :
    IsCommand (commandFrame e c g n) := ⟨e.drive, c, g, rfl⟩

/-- A command posted leaves commands alone in the class (R25). -/
theorem isCommand_of_mem_commandPosted {e : GateEntry} {a : Actuator} {c : CommandCode} {g : Byte}
    {n : Option Nat} {q : List OwnFrame} (hq : ∀ o ∈ q, IsCommand o) :
    ∀ o ∈ commandPosted e a c g n q, IsCommand o := by
  intro o ho
  unfold commandPosted at ho
  split at ho
  · obtain ⟨o', ho', rfl⟩ := List.mem_map.mp ho
    split
    · exact isCommand_recommand ..
    · exact hq _ ho'
  · rcases List.mem_append.mp ho with ho | ho
    · exact hq _ ho
    · exact List.mem_singleton.mp ho ▸ isCommand_commandFrame ..

@[simp] theorem worked_supersede (h : Worked s t) (a : Actuator) : Worked s (supersede a t) :=
  h.trans ⟨rfl, rfl, rfl, unmarkedTx_supersede a _, rfl, fun hl =>
    (hl.of_loop (l' := (supersede a t).loop) (unmarkedTx_supersede a _) Iff.rfl).of_lap (by simp)⟩

@[simp] theorem worked_settleFairness (h : Worked s t) : Worked s (settleFairness t) := by
  unfold settleFairness; split
  · exact h.of_transit _ rfl fun hl => { hl with fairness := Nat.zero_le _ }
  · exact h

@[simp] theorem worked_postCommand (h : Worked s t) (a : Actuator) (c : CommandCode) (g : Byte)
    (n : Option Nat) : Worked s (postCommand a c g n t) := by
  unfold postCommand; split
  · exact h
  · refine worked_supersede (h.of_transit _ ?_ fun hl => ?_) _
    · rfl
    · exact { hl with actuator := isCommand_of_mem_commandPosted hl.actuator }

/-- The class cut down to some of its members. -/
theorem worked_filterActuator (h : Worked s t) (p : OwnFrame → Bool) (gate : List GateEntry) :
    Worked s { t with transit := { t.transit with
      gate := gate, actuator := t.transit.actuator.filter p } } :=
  h.of_transit _ rfl fun hl =>
    { hl with actuator := fun o ho => hl.actuator o (List.mem_filter.mp ho).1 }

@[simp] theorem worked_withdraw (h : Worked s t) (a : Actuator) : Worked s (withdraw a t) :=
  worked_settleFairness (worked_supersede (worked_filterActuator h _ t.transit.gate) a)

@[simp] theorem worked_postPump (h : Worked s t) (p : Pump) (c : CommandCode) :
    Worked s (postPump p c t) := by simp [postPump, h]

@[simp] theorem worked_postRake (h : Worked s t) (r : Side) (c : CommandCode) :
    Worked s (postRake r c t) := by simp [postRake, h]

@[simp] theorem worked_postAnnunciate (h : Worked s t) (m : AnnMode) :
    Worked s (postAnnunciate m t) := by simp [postAnnunciate, h]

/-! ### Notices (R27) -/

theorem isNotice_alarmNotice (n : Nat) (b : Bool) (s : State) : IsNotice (alarmNotice n b s) := ⟨_, _, rfl⟩

theorem isNotice_notice (s : State) (k : NoticeType) (n : Nat) (c : List Byte) :
    IsNotice (notice s k n c) := ⟨_, _, rfl⟩

/-- A notice that meets its class joins it or is lost, and no other joins. -/
theorem mem_notice_postNotice {o o' : OwnFrame} {s : State} (h : o ∈ (postNotice o' s).transit.notice) :
    o ∈ s.transit.notice ∨ o = o' := by
  unfold postNotice at h
  repeat' split at h
  · rcases List.mem_append.mp h with h | h
    · exact .inl (List.mem_of_mem_eraseP h)
    · exact .inr (List.mem_singleton.mp h)
  · exact .inl h
  · rcases List.mem_append.mp h with h | h
    · exact .inl h
    · exact .inr (List.mem_singleton.mp h)

@[simp] theorem loop_postNotice (o : OwnFrame) (s : State) : (postNotice o s).loop = s.loop := by
  simpa using congrArg State.loop (postNotice_frame o s)

theorem worked_postNotice (h : Worked s t) {o : OwnFrame} (ho : IsNotice o) : Worked s (postNotice o t) := by
  have hf := postNotice_frame o t
  refine h.trans ⟨by simpa using congrArg State.pending hf, by simpa using congrArg State.chip hf,
    by simpa using congrArg (fun u => u.transit.response) hf, by simp,
    by simpa using congrArg (fun u => u.alarms.entries.length) hf, fun hl => ?_⟩
  have hroom := length_postNotice o t hl.noticeRoom
  have hmem : ∀ o' ∈ (postNotice o t).transit.notice, IsNotice o' := fun o' h' =>
    (mem_notice_postNotice h').elim (hl.notice o') (· ▸ ho)
  have hx : (postNotice o t).transit = { t.transit with
      notice := (postNotice o t).transit.notice, count := (postNotice o t).transit.count } := by
    unfold postNotice; repeat' split
    all_goals rfl
  rw [loop_postNotice] at hroom ⊢
  rw [hx]
  exact { hl with noticeRoom := hroom, notice := hmem }

theorem mem_heldBack_of_mem_ordered {o : OwnFrame} {b : Outbox} (h : o ∈ b.ordered) : o ∈ heldBack b := by
  simp only [Outbox.ordered, heldBack, List.mem_append, List.mem_flatMap, List.mem_map,
    List.mem_filter] at h ⊢
  rcases h with ((h | ⟨_, -, x, ⟨hx, -⟩, rfl⟩) | ⟨_, -, x, ⟨hx, -⟩, rfl⟩) | h
  · exact .inl (.inl (.inl h))
  · exact .inl (.inl (.inr ⟨x, hx, rfl⟩))
  · exact .inl (.inr ⟨x, hx, rfl⟩)
  · exact .inr h

/-- The notices of the event meet their class (R27). -/
@[simp] theorem worked_flushNotices (h : Worked s t) : Worked s (flushNotices t) := by
  have hempty : Worked t { t with transit := { t.transit with outbox := Outbox.empty } } :=
    (Worked.refl t).of_transit _ rfl fun hl => hl.of_outbox (by simp [heldBack, Outbox.empty])
  refine h.trans ⟨?_, ?_, ?_, ?_, ?_, fun hl => ?_⟩
  case refine_6 =>
    have hpost : ∀ (os : List OwnFrame) (u : State), (∀ o ∈ os, IsNotice o) → Worked t u →
        Worked t (os.foldl (fun s o => postNotice o s) u) := by
      intro os
      induction os with
      | nil => exact fun _ _ h => h
      | cons o os ih =>
        exact fun u hos hu => ih _ (fun o' h' => hos o' (List.mem_cons_of_mem _ h'))
          (worked_postNotice hu (hos o List.mem_cons_self))
    exact (hpost _ _ (fun o ho => hl.held o (mem_heldBack_of_mem_ordered ho)) hempty).line hl
  all_goals
    have hd := outsideDrives_flushNotices t
  · exact pending_of_outsideDrives hd
  · exact chip_of_outsideDrives hd
  · exact response_of_outsideDrives hd
  · simpa [outsideDrives] using congrArg (fun u => u.loop.tx) hd
  · exact foldl_view (fun u : State => u.alarms.entries.length) (fun s o => postNotice o s)
      (fun u o => by simpa using congrArg (fun u => u.alarms.entries.length) (postNotice_frame o u)) _ _

/-- One notice more is held until the end of the event. -/
theorem Worked.of_held (h : Worked s t) {b : Outbox} {o : OwnFrame} (ho : IsNotice o)
    (hb : ∀ o' ∈ heldBack b, o' ∈ heldBack t.transit.outbox ∨ o' = o) :
    Worked s { t with transit := { t.transit with outbox := b } } :=
  h.of_transit _ rfl fun hl => hl.of_outbox fun o' h' => (hb o' h').elim (hl.held o') (· ▸ ho)

theorem worked_noteRetried (h : Worked s t) {o : OwnFrame} (ho : IsNotice o) :
    Worked s (noteRetried o t) :=
  h.of_held ho (by simp [heldBack]; tauto)

theorem worked_noteSpill (h : Worked s t) {w : Weir} {o : OwnFrame} (ho : IsNotice o) :
    Worked s (noteSpill w o t) :=
  h.of_held ho (by simp [heldBack]; grind)

theorem worked_noteAlarm (h : Worked s t) {n : Nat} {o : OwnFrame} (ho : IsNotice o) :
    Worked s (noteAlarm n o t) :=
  h.of_held ho (by simp [heldBack]; grind)

theorem worked_noteSummary (h : Worked s t) {o : OwnFrame} (ho : IsNotice o) :
    Worked s (noteSummary o t) :=
  h.of_held ho (by simp [heldBack]; tauto)

end Sys2Proof.Proofs
end

section
/-! SUPPORT. Judging alarms, pumps, rakes, the shedding, the grants and the supply is work of an event. -/

namespace Sys2Proof.Proofs

open Sys2Proof.Machine Sys2Proof.Safety Sys2Proof.Laws

variable {s t : State}

/-! ### Alarms (R153 to R164) -/

@[simp] theorem worked_wakeHorn (h : Worked s t) (n : Nat) (st : AlarmState) :
    Worked s (wakeHorn n st t) := by simp [wakeHorn, h]

@[simp] theorem worked_notifyChange (h : Worked s t) (n : Nat) : Worked s (notifyChange n t) := by
  unfold notifyChange; split
  · exact worked_noteAlarm h (isNotice_alarmNotice ..)
  · exact h

@[simp] theorem worked_changeAlarm (h : Worked s t) (n : Nat) (st : AlarmState) :
    Worked s (changeAlarm n st t) :=
  worked_notifyChange (by simp [h]) n

@[simp] theorem worked_conditionAppears (h : Worked s t) (n : Nat) : Worked s (conditionAppears n t) := by
  unfold conditionAppears; split <;> simp [h]

@[simp] theorem worked_conditionClears (h : Worked s t) (n : Nat) : Worked s (conditionClears n t) := by
  unfold conditionClears; split <;> simp [h]

@[simp] theorem worked_followCondition (h : Worked s t) (n : Nat) (b : Bool) :
    Worked s (followCondition n b t) := by simp [followCondition, h]

@[simp] theorem worked_stateCondition (h : Worked s t) (n : Nat) (b : Bool) :
    Worked s (stateCondition n b t) := by simp [stateCondition, h]

@[simp] theorem worked_repeatAlarm (h : Worked s t) (n : Nat) : Worked s (repeatAlarm n t) :=
  worked_noteAlarm (worked_setAlarm h n _) (isNotice_alarmNotice ..)

@[simp] theorem worked_judgeAnnunciator (h : Worked s t) : Worked s (judgeAnnunciator t) := by
  simp [judgeAnnunciator, h]

@[simp] theorem worked_finishAlarms (h : Worked s t) : Worked s (finishAlarms t) := by
  simp [finishAlarms, h]

@[simp] theorem worked_statePumpConditions (h : Worked s t) (p : Pump) :
    Worked s (statePumpConditions p t) := by simp [statePumpConditions, h]

@[simp] theorem worked_stateRakeJammed (h : Worked s t) (r : Side) : Worked s (stateRakeJammed r t) := by
  simp [stateRakeJammed, h]

@[simp] theorem worked_stateSupply (h : Worked s t) : Worked s (stateSupply t) := by
  simp [stateSupply, h]

@[simp] theorem worked_stateLogLoss (h : Worked s t) : Worked s (stateLogLoss t) := by
  simp [stateLogLoss, h]

@[simp] theorem worked_stateStoreFault (h : Worked s t) : Worked s (stateStoreFault t) := by
  simp [stateStoreFault, h]

@[simp] theorem worked_stateSpill (h : Worked s t) (w : Weir) : Worked s (stateSpill w t) := by
  simp [stateSpill, h]

@[simp] theorem worked_statePointFailed (h : Worked s t) (n : Nat) : Worked s (statePointFailed n t) := by
  simp [statePointFailed, h]

@[simp] theorem worked_ackEntry (h : Worked s t) (n : Nat) : Worked s (ackEntry n t) := by
  unfold ackEntry; split <;> simp [h]

@[simp] theorem worked_disableAlarm (h : Worked s t) (n : Nat) : Worked s (disableAlarm n t) := by
  simp [disableAlarm, h]

@[simp] theorem worked_compareRenotify (h : Worked s t) (interval n : Nat) :
    Worked s (compareRenotify interval n t) := by simp [compareRenotify, h]

@[simp] theorem worked_alarmActivated (h : Worked s t) (p interval n : Nat) :
    Worked s (alarmActivated p interval n t) := by
  unfold alarmActivated
  split
  · exact worked_disableAlarm h n
  · refine worked_compareRenotify ?_ _ _
    split <;> simp [h]

@[simp] theorem worked_compareSummary (h : Worked s t) (interval : Nat) :
    Worked s (compareSummary interval t) := by simp [compareSummary, h]

@[simp] theorem worked_alarmsActivated (h : Worked s t) (old : State) :
    Worked s (alarmsActivated old t) :=
  worked_compareSummary (worked_foldl _ (fun _ _ hu => worked_alarmActivated hu ..) h _) _

/-! ### The drive arbiter's timers and the orders -/

@[simp] theorem worked_startStagger (h : Worked s t) : Worked s (startStagger t) := worked_setArbiter h _

@[simp] theorem worked_startPowerReturn (h : Worked s t) : Worked s (startPowerReturn t) :=
  worked_setArbiter h _

@[simp] theorem worked_stopPowerReturn (h : Worked s t) : Worked s (stopPowerReturn t) :=
  worked_setArbiter h _

@[simp] theorem worked_leaveRunOrder (h : Worked s t) (p : Pump) : Worked s (leaveRunOrder p t) :=
  worked_setSeq h _

@[simp] theorem worked_joinRunOrder (h : Worked s t) (p : Pump) : Worked s (joinRunOrder p t) :=
  worked_setSeq h _

@[simp] theorem worked_toDutyTail (h : Worked s t) (p : Pump) : Worked s (toDutyTail p t) :=
  worked_setSeq h _

@[simp] theorem worked_setPreempt (h : Worked s t) (r : Side) (b : Bool) : Worked s (setPreempt r b t) :=
  worked_setArbiter h _

@[simp] theorem worked_releaseDrive (h : Worked s t) (p : Pump) : Worked s (releaseDrive p t) := by
  unfold releaseDrive; split <;> simp [h]

/-! ### Moves of pumps -/

@[simp] theorem worked_judgeLatch (h : Worked s t) (p : Pump) : Worked s (judgeLatch p t) := by
  simp [judgeLatch, h]

@[simp] theorem worked_protectTo (h : Worked s t) (st : PumpState) (p : Pump) :
    Worked s (protectTo st p t) :=
  worked_postPump (by simp [h]) p _

@[simp] theorem worked_judgeMove (h : Worked s t) (p : Pump) : Worked s (judgeMove p t) := by
  simp [judgeMove, h]

@[simp] theorem worked_tripInhibited (h : Worked s t) (p : Pump) : Worked s (tripInhibited p t) := by
  simp [tripInhibited, h]

@[simp] theorem worked_judgePump (h : Worked s t) (p : Pump) : Worked s (judgePump p t) :=
  worked_judgeMove (by simp [h]) p

@[simp] theorem worked_enterRunning (h : Worked s t) (p : Pump) : Worked s (enterRunning p t) :=
  worked_startStagger (by simp [h])

@[simp] theorem worked_startPump (h : Worked s t) (p : Pump) : Worked s (startPump p t) := by
  have hrun : ∀ r, Worked s (postPump p .run (t.setPump p r)) := by simp [h]
  simp [startPump, hrun]

@[simp] theorem worked_pumpStopped (h : Worked s t) (p : Pump) : Worked s (pumpStopped p t) :=
  worked_tripInhibited (by simp [h]) p

@[simp] theorem worked_enterStopping (h : Worked s t) (p : Pump) : Worked s (enterStopping p t) := by
  have hstop : ∀ r, Worked s (postPump p .stop ((releaseDrive p t).setPump p r)) := fun _ =>
    worked_postPump (by simp [h]) p _
  simp [enterStopping, hstop]

@[simp] theorem worked_pumpSupplyLost (h : Worked s t) (p : Pump) : Worked s (pumpSupplyLost p t) := by
  unfold pumpSupplyLost; split
  case h_4 => exact h
  all_goals exact worked_tripInhibited (worked_postPump (by simp [h]) p _) p

@[simp] theorem worked_pumpLeavesAuto (h : Worked s t) (p : Pump) (st : PumpState) :
    Worked s (pumpLeavesAuto p st t) :=
  worked_withdraw (by simp [h]) _

@[simp] theorem worked_placePump (h : Worked s t) (p : Pump) : Worked s (placePump p t) := by
  have hjoin : ∀ r, Worked s (joinRunOrder p (t.setPump p r)) := by simp [h]
  simp [placePump, h, hjoin]

@[simp] theorem worked_judgePumpMode (h : Worked s t) (p : Pump) : Worked s (judgePumpMode p t) := by
  unfold judgePumpMode; dsimp only; split <;> simp [h]

@[simp] theorem worked_judgeSelector (h : Worked s t) (p : Pump) : Worked s (judgeSelector p t) := by
  simp [judgeSelector, h]

@[simp] theorem worked_judgeFault (h : Worked s t) (p : Pump) (f : FaultSource) :
    Worked s (judgeFault p f t) := by simp [judgeFault, h]

@[simp] theorem worked_judgeFaults (h : Worked s t) (p : Pump) : Worked s (judgeFaults p t) :=
  worked_judgeFault (by simp [h]) p _

@[simp] theorem worked_judgeOvercurrent (h : Worked s t) (p : Pump) : Worked s (judgeOvercurrent p t) := by
  simp [judgeOvercurrent, h]

@[simp] theorem worked_setOvercurrent (h : Worked s t) (p : Pump) : Worked s (setOvercurrent p t) :=
  worked_setPump h _ _

@[simp] theorem worked_overcurrentReached (h : Worked s t) (p : Pump) :
    Worked s (overcurrentReached p t) := by simp [overcurrentReached, h]

@[simp] theorem worked_startConfirmExpired (h : Worked s t) (p : Pump) :
    Worked s (startConfirmExpired p t) := by simp [startConfirmExpired, h]

@[simp] theorem worked_stopConfirmExpired (h : Worked s t) (p : Pump) :
    Worked s (stopConfirmExpired p t) := by simp [stopConfirmExpired, h]

@[simp] theorem worked_pumpCommandLost (h : Worked s t) (p : Pump) : Worked s (pumpCommandLost p t) := by
  simp [pumpCommandLost, h]

@[simp] theorem worked_pumpCommandTaken (h : Worked s t) (p : Pump) (c : CommandCode) :
    Worked s (pumpCommandTaken p c t) := by simp [pumpCommandTaken, h]

@[simp] theorem worked_feedbackFell (h : Worked s t) (p : Pump) (was : Bool) :
    Worked s (feedbackFell p was t) := by simp [feedbackFell, h]

@[simp] theorem worked_feedbackMoves (h : Worked s t) (p : Pump) : Worked s (feedbackMoves p t) := by
  unfold feedbackMoves; split <;> simp [h]

@[simp] theorem worked_feedbackReturned (h : Worked s t) (p : Pump) (was : Bool) :
    Worked s (feedbackReturned p was t) := by simp [feedbackReturned, h]

@[simp] theorem worked_feedbackChanged (h : Worked s t) (p : Pump) (was : Bool) :
    Worked s (feedbackChanged p was t) :=
  worked_feedbackReturned (by simp [h]) p was

@[simp] theorem worked_releasePump (h : Worked s t) (p : Pump) : Worked s (releasePump p t) := by
  simp [releasePump, h]

@[simp] theorem worked_protectPump (h : Worked s t) (p : Pump) : Worked s (protectPump p t) := by
  have hjudge : ∀ r, Worked s (judgePump p (t.setPump p r)) := by simp [h]
  simp [protectPump, h, hjudge]

@[simp] theorem worked_clearLatch (h : Worked s t) (p : Pump) : Worked s (clearLatch p t) := by
  have hstate : ∀ r, Worked s (statePumpConditions p (t.setPump p r)) := by simp [h]
  simp [clearLatch, hstate]

@[simp] theorem worked_resetPump (h : Worked s t) (p : Pump) : Worked s (resetPump p t).2 := by
  unfold resetPump; dsimp only; repeat' split
  all_goals simp [h]

/-! ### Moves of rakes -/

@[simp] theorem worked_giveRequest (h : Worked s t) (r : Side) : Worked s (giveRequest r t) := by
  simp [giveRequest, h]

@[simp] theorem worked_judgeRequest (h : Worked s t) (r : Side) : Worked s (judgeRequest r t) := by
  simp [judgeRequest, h]

@[simp] theorem worked_rakeLeavesAuto (h : Worked s t) (r : Side) (st : RakeState) :
    Worked s (rakeLeavesAuto r st t) :=
  worked_setPreempt (by simp [h]) r _

@[simp] theorem worked_placeRake (h : Worked s t) (r : Side) : Worked s (placeRake r t) := by
  have hstop : ∀ v, Worked s (postRake r .stop (t.setRake r v)) := by simp [h]
  simp [placeRake, hstop]

@[simp] theorem worked_judgeRakeMode (h : Worked s t) (r : Side) : Worked s (judgeRakeMode r t) := by
  unfold judgeRakeMode; dsimp only; split <;> simp [h]

@[simp] theorem worked_judgeJamTimer (h : Worked s t) (r : Side) : Worked s (judgeJamTimer r t) := by
  simp [judgeJamTimer, h]

@[simp] theorem worked_grantRake (h : Worked s t) (r : Side) : Worked s (grantRake r t) :=
  worked_judgeJamTimer (worked_postRake (by simp [h]) r _) r

@[simp] theorem worked_completeCycle (h : Worked s t) (r : Side) : Worked s (completeCycle r t) :=
  worked_judgeRequest (by simp [h]) r

@[simp] theorem worked_judgePark (h : Worked s t) (r : Side) : Worked s (judgePark r t) := by
  unfold judgePark; dsimp only; repeat' split
  all_goals simp [h]

@[simp] theorem worked_suspectJam (h : Worked s t) (r : Side) (c : JamCause) :
    Worked s (suspectJam r c t) := by simp [suspectJam, h]

@[simp] theorem worked_enterJammed (h : Worked s t) (r : Side) (c : JamCause) :
    Worked s (enterJammed r c t) :=
  worked_stateRakeJammed (by simp [h]) r

@[simp] theorem worked_travelExpired (h : Worked s t) (r : Side) : Worked s (travelExpired r t) := by
  simp [travelExpired, h]

@[simp] theorem worked_jamCurrentReached (h : Worked s t) (r : Side) :
    Worked s (jamCurrentReached r t) := by simp [jamCurrentReached, h]

@[simp] theorem worked_reverseExpired (h : Worked s t) (r : Side) : Worked s (reverseExpired r t) := by
  have hrun : ∀ v, Worked s (postRake r .run (t.setRake r v)) := by simp [h]
  simp [reverseExpired, h, hrun]

@[simp] theorem worked_shedRake (h : Worked s t) (r : Side) : Worked s (shedRake r t) := by
  simp [shedRake, h]

@[simp] theorem worked_rakeCommandTaken (h : Worked s t) (r : Side) (c : CommandCode) :
    Worked s (rakeCommandTaken r c t) := by simp [rakeCommandTaken, h]

@[simp] theorem worked_rakeCommandLost (h : Worked s t) (r : Side) : Worked s (rakeCommandLost r t) := by
  simp [rakeCommandLost, h]

@[simp] theorem worked_clearJam (h : Worked s t) (r : Side) : Worked s (clearJam r t) := by
  have hstate : ∀ v, Worked s (stateRakeJammed r (t.setRake r v)) := by simp [h]
  simp [clearJam, hstate]

@[simp] theorem worked_resetRake (h : Worked s t) (r : Side) : Worked s (resetRake r t) := by
  simp [resetRake, h]

@[simp] theorem worked_countInterval (h : Worked s t) (r : Side) : Worked s (countInterval r t) := by
  unfold countInterval; dsimp only; split <;> simp [h]

@[simp] theorem worked_judgeScreen (h : Worked s t) (r : Side) : Worked s (judgeScreen r t) := by
  unfold judgeScreen; split
  · exact h
  · exact worked_judgeRequest (worked_countInterval (by simp [h]) r) r

/-! ### Shedding, granting and the supply (R74 to R83) -/

@[simp] theorem worked_shedPump (h : Worked s t) (p : Pump) : Worked s (shedPump p t) := by
  simp [shedPump, h]

@[simp] theorem worked_shedDrive (h : Worked s t) (d : Drive) : Worked s (shedDrive d t) := by
  cases d <;> simp [shedDrive, h]

@[simp] theorem worked_shedCheck (h : Worked s t) : Worked s (shedCheck t) :=
  worked_foldl _ (fun u d hu => by simp [hu]) h _

@[simp] theorem worked_grantIfFree (h : Worked s t) (r : Side) : Worked s (grantIfFree r t) := by
  simp [grantIfFree, h]

@[simp] theorem worked_preempt (h : Worked s t) (r : Side) : Worked s (preempt r t) := by
  unfold preempt; repeat' split
  all_goals simp [h]

@[simp] theorem worked_grantUrgent (h : Worked s t) (r : Side) : Worked s (grantUrgent r t) := by
  simp [grantUrgent, h]

@[simp] theorem worked_grantCandidate (h : Worked s t) (p : Pump) : Worked s (grantCandidate p t) := by
  simp [grantCandidate, h]

@[simp] theorem worked_grantOther (h : Worked s t) (r : Side) : Worked s (grantOther r t) := by
  simp [grantOther, h]

@[simp] theorem worked_grantPass (h : Worked s t) : Worked s (grantPass t) :=
  worked_eachSide (fun _ _ hu => worked_grantOther hu _)
    (worked_foldl _ (fun _ _ hu => worked_grantCandidate hu _)
      (worked_eachSide (fun _ _ hu => worked_grantUrgent hu _) h) _)

@[simp] theorem worked_settleDrives (h : Worked s t) : Worked s (settleDrives t) := by
  simp [settleDrives, h]

@[simp] theorem worked_supplyLost (h : Worked s t) : Worked s (supplyLost t) :=
  worked_stopPowerReturn (worked_eachSide (fun _ _ hu => worked_shedRake hu _)
    (worked_eachPump (fun _ _ hu => worked_pumpSupplyLost hu _) h))

@[simp] theorem worked_judgeSupply (h : Worked s t) : Worked s (judgeSupply t) := by
  have hstate : ∀ a, Worked s (stateSupply { t with arbiter := a }) := by simp [h]
  simp [judgeSupply, h, hstate]

end Sys2Proof.Proofs
end

section
/-! SUPPORT. The other shared operations as work of an event, and what ends an event: no notice is held back. -/

namespace Sys2Proof.Proofs

open Sys2Proof.Machine Sys2Proof.Safety Sys2Proof.Laws

variable {s t : State}

/-! ### The balance update (chapters 4 and 6) -/

@[simp] theorem worked_formRecord (h : Worked s t) : Worked s (formRecord t) := worked_setFlow h _

@[simp] theorem worked_countRunSecond (h : Worked s t) (p : Pump) : Worked s (countRunSecond p t) := by
  simp [countRunSecond, h]

@[simp] theorem worked_judgeBands (h : Worked s t) : Worked s (judgeBands t) := worked_setSeq h _

@[simp] theorem worked_formDemand (h : Worked s t) : Worked s (formDemand t) := worked_setSeq h _

@[simp] theorem worked_judgeLevels (h : Worked s t) : Worked s (judgeLevels t) :=
  worked_stateCondition (worked_stateCondition (worked_setSeq h _) _ _) _ _

@[simp] theorem worked_dropIneligible (h : Worked s t) (p : Pump) : Worked s (dropIneligible p t) := by
  simp [dropIneligible, h]

@[simp] theorem worked_raisePump (h : Worked s t) (p : Pump) : Worked s (raisePump t p) := by
  simp [raisePump, h]

@[simp] theorem worked_lowerWaiting (h : Worked s t) (p : Pump) : Worked s (lowerWaiting t p) := by
  simp [lowerWaiting, h]

@[simp] theorem worked_lowerRunning (h : Worked s t) (p : Pump) : Worked s (lowerRunning t p) := by
  simp [lowerRunning, h]

@[simp] theorem worked_actOnDemand (h : Worked s t) : Worked s (actOnDemand t) := by
  unfold actOnDemand
  have hdrop := worked_eachPump (fun p _ hu => worked_dropIneligible hu p) h
  split
  · dsimp only
    split
    · exact worked_foldl _ (fun _ p hu => worked_raisePump hu p) hdrop _
    · exact worked_foldl _ (fun _ p hu => worked_lowerRunning hu p)
        (worked_foldl _ (fun _ p hu => worked_lowerWaiting hu p) hdrop _) _
  · exact h

@[simp] theorem worked_sequence (h : Worked s t) : Worked s (sequence t) :=
  worked_actOnDemand (worked_judgeLevels (worked_formDemand (worked_judgeBands
    (worked_eachPump (fun p _ hu => worked_countRunSecond hu p) h))))

/-! ### The lap list (R32 to R35) -/

@[simp] theorem worked_annunciateTaken (h : Worked s t) (g : Byte) : Worked s (annunciateTaken g t) := by
  simp [annunciateTaken, h]

@[simp] theorem worked_takenOutcome (h : Worked s t) (e : LapEntry) : Worked s (takenOutcome e t) := by
  unfold takenOutcome; split <;> simp [h]

@[simp] theorem worked_clearConfirmed (h : Worked s t) (a : Actuator) :
    Worked s (clearConfirmed a t) := by cases a <;> simp [clearConfirmed, h]

@[simp] theorem worked_finalLoss (h : Worked s t) (a : Actuator) : Worked s (finalLoss a t) := by
  cases a <;> simp [finalLoss, h]

@[simp] theorem worked_countRetry (h : Worked s t) : Worked s (countRetry t) := worked_countTransit h _

@[simp] theorem worked_failedCommand (h : Worked s t) (e : LapEntry) (a : Actuator) (c : CommandCode)
    (g : Byte) : Worked s (failedCommand e a c g t) := by
  have hpost : ∀ n, Worked s (postCommand a c g n (clearConfirmed a t)) := by simp [h]
  simp [failedCommand, h, hpost]

theorem worked_repostNotice (h : Worked s t) (e : LapEntry) (he : IsNotice e.own) :
    Worked s (repostNotice e t) := worked_countRetry (worked_noteRetried h he)

theorem worked_failedNotice (h : Worked s t) (k : NoticeType) (e : LapEntry) (he : IsNotice e.own) :
    Worked s (failedNotice k e t) := by
  obtain ⟨-, hf⟩ | ⟨-, -, hf⟩ | ⟨-, -, hf⟩ := failedNotice_cases k e t <;> rw [hf]
  · exact worked_countTransit h _
  · exact h
  · exact worked_repostNotice h e he

@[simp] theorem worked_failedOutcome (h : Worked s t) (e : LapEntry) : Worked s (failedOutcome e t) := by
  unfold failedOutcome
  split
  · exact worked_failedCommand h ..
  · exact worked_failedNotice h _ e ⟨_, _, ‹_›⟩
  · exact worked_countTransit h _

@[simp] theorem worked_resolveOldest (h : Worked s t) (o : Lap) : Worked s (resolveOldest o t) := by
  unfold resolveOldest
  split
  · exact h
  · rename_i e rest hlap
    have hrest : Worked s { t with transit := { t.transit with lap := rest } } := by
      refine h.of_transit _ ?_ fun hl => hl.of_lap ?_
      · rfl
      · simp [hlap]
    cases o
    · exact worked_takenOutcome hrest e
    · exact worked_failedOutcome hrest e
    · exact worked_failedOutcome hrest e

@[simp] theorem worked_resolveLost (h : Worked s t) (n : Nat) : Worked s (resolveLost n t) := by
  induction n generalizing t with
  | zero => exact h
  | succ n ih => exact ih (worked_resolveOldest h _)

theorem worked_expireSome (h : Worked s t) (n : Nat) : Worked s (expireSome n t) := by
  induction n generalizing t with
  | zero => exact h
  | succ n ih =>
    unfold expireSome; split
    · exact ih (worked_resolveOldest h _)
    · exact h

@[simp] theorem worked_expirePassed (h : Worked s t) : Worked s (expirePassed t) := worked_expireSome h _

@[simp] theorem worked_ownReturned (h : Worked s t) (f : Frame) : Worked s (ownReturned f t) := by
  unfold ownReturned; split
  · exact worked_countTransit h _
  · exact worked_expirePassed (by simp [h])

@[simp] theorem worked_lapTimedOut (h : Worked s t) : Worked s (lapTimedOut t) := by
  have hr : Worked s (expirePassed (resolveOldest .lost t)) := by simp [h]
  simp [lapTimedOut, h, hr]

/-! ### Points (chapter 3) -/

@[simp] theorem worked_pumpPointChanged (h : Worked s t) (n : Nat) (old : PointRec) (p : Pump) :
    Worked s (pumpPointChanged n old p t) :=
  worked_guarded (fun _ hu => worked_judgeFault hu p _) <|
    worked_guarded (fun _ hu => worked_judgeFault hu p _) <|
    worked_guarded (fun _ hu => worked_judgeFault hu p _) <|
    worked_guarded (fun _ hu => worked_judgeSelector hu p) <|
    worked_guarded (fun _ hu => worked_judgeOvercurrent hu p) <|
    worked_guarded (fun _ hu => worked_feedbackChanged hu p _) h

@[simp] theorem worked_rakePointChanged (h : Worked s t) (n : Nat) (r : Side) :
    Worked s (rakePointChanged n r t) :=
  worked_guarded (fun _ hu => worked_judgeJamTimer hu r) <|
    worked_guarded (fun _ hu => worked_judgePark hu r) h

@[simp] theorem worked_pointChanged (h : Worked s t) (n : Nat) (old : PointRec) :
    Worked s (pointChanged n old t) := by
  unfold pointChanged; split
  · exact h
  · exact worked_eachSide (fun r _ hu => worked_rakePointChanged hu n r) <|
      worked_eachPump (fun p _ hu => worked_pumpPointChanged hu n old p) <|
      worked_guarded (fun _ hu => worked_judgeSupply hu) h

@[simp] theorem worked_changePoint (h : Worked s t) (n : Nat) (r : PointRec) :
    Worked s (changePoint n r t) := worked_pointChanged (worked_setPoint h n r) n _

@[simp] theorem worked_takeRaw (h : Worked s t) (tap : Tap) (raw : Int) : Worked s (takeRaw tap raw t) := by
  unfold takeRaw; repeat' split
  all_goals simp [h]

@[simp] theorem worked_takePair (h : Worked s t) (node : Byte) (x : Byte × Int) :
    Worked s (takePair node t x) := by
  unfold takePair; split <;> simp [h]

theorem worked_takePairs (h : Worked s t) (node : Byte) (xs : List (Byte × Int)) :
    Worked s (xs.foldl (takePair node) t) := worked_foldl _ (fun _ x hu => worked_takePair hu node x) h xs

@[simp] theorem worked_ageAndGrade (h : Worked s t) : Worked s (ageAndGrade t) :=
  worked_foldl _ (fun _ _ hu => worked_setPoint hu _ _)
    (worked_foldl _ (fun _ _ hu => worked_setPoint hu _ _)
      (worked_foldl _ (fun _ _ hu => worked_setPoint hu _ _) h _) _) _

@[simp] theorem worked_tellAgeing (h : Worked s t) (old : Points) : Worked s (tellAgeing old t) :=
  worked_foldl _ (fun _ n hu => worked_statePointFailed hu n)
    (worked_foldl _ (fun _ n hu => worked_pointChanged hu n _) h _) _

@[simp] theorem worked_pointSecond (h : Worked s t) : Worked s (pointSecond t) := by
  simp [pointSecond, h]

@[simp] theorem worked_forceTo (h : Worked s t) (d : PointDef) (v : Int) : Worked s (forceTo d v t) :=
  worked_changePoint h ..

@[simp] theorem worked_releaseForce (h : Worked s t) (d : PointDef) : Worked s (releaseForce d t) := by
  simp [releaseForce, h]

/-! ### Spills (chapter 9) -/

@[simp] theorem worked_changeOpen (h : Worked s t) (w : Weir) (f : SpillRec → SpillRec) :
    Worked s (changeOpen w f t) := worked_setSpill h _

@[simp] theorem worked_evict (h : Worked s t) : Worked s (evict t) := by simp [evict, h]

@[simp] theorem worked_newRecord (h : Worked s t) (w : Weir) (follows : Bool) :
    Worked s (newRecord w follows t) := worked_setSpill (worked_evict h) _

@[simp] theorem worked_reopen (h : Worked s t) (w : Weir) (n : Nat) : Worked s (reopen w n t) :=
  worked_setSpill h _

@[simp] theorem worked_noteOpened (h : Worked s t) (w : Weir) (b : Bool) : Worked s (noteOpened w b t) := by
  unfold noteOpened; split
  · exact h
  · exact worked_noteSpill h (isNotice_notice ..)

@[simp] theorem worked_confirmRecord (h : Worked s t) (w : Weir) (d : WeirDef) :
    Worked s (confirmRecord w d t).2 := by
  unfold confirmRecord; repeat' split
  all_goals simp [h]

@[simp] theorem worked_enterSpilling (h : Worked s t) (w : Weir) : Worked s (enterSpilling w t) :=
  worked_setWeir h _ _

@[simp] theorem worked_confirm (h : Worked s t) (w : Weir) (d : WeirDef) : Worked s (confirm w d t) :=
  worked_stateSpill (worked_enterSpilling (worked_noteOpened (by simp [h]) w _) w) w

@[simp] theorem worked_noteClosed (h : Worked s t) (w : Weir) (c : Capture) :
    Worked s (noteClosed w c t) := by
  unfold noteClosed; split
  · exact h
  · exact worked_noteSpill h (isNotice_notice ..)

@[simp] theorem worked_closeRecord (h : Worked s t) (w : Weir) (c : Capture) :
    Worked s (closeRecord w c t) := worked_stateSpill (worked_setWeir (by simp [h]) _ _) w

@[simp] theorem worked_openOnset (h : Worked s t) (w : Weir) (flow x : Int) :
    Worked s (openOnset w flow x t) := worked_setWeir h _ _

@[simp] theorem worked_judgeDry (h : Worked s t) (w : Weir) (d : WeirDef) (x : WeirFlow) :
    Worked s (judgeDry w d x t) := by
  unfold judgeDry; split <;> simp [h]

@[simp] theorem worked_falseOnset (h : Worked s t) (w : Weir) : Worked s (falseOnset w t) :=
  worked_setSpill (worked_setWeir h _ _) _

@[simp] theorem worked_countOnset (h : Worked s t) (w : Weir) (flow x : Int) :
    Worked s (countOnset w flow x t) := worked_setWeir h _ _

@[simp] theorem worked_judgeOnset (h : Worked s t) (w : Weir) (d : WeirDef) (x : WeirFlow) :
    Worked s (judgeOnset w d x t) := by
  unfold judgeOnset; split <;> simp [h]

@[simp] theorem worked_addToOpen (h : Worked s t) (w : Weir) (flow x : Int) :
    Worked s (addToOpen w flow x t) := worked_changeOpen h _ _

@[simp] theorem worked_judgeDoubt (h : Worked s t) (w : Weir) (x : WeirFlow) :
    Worked s (judgeDoubt w x t) := worked_changeOpen h _ _

@[simp] theorem worked_advanceEnd (h : Worked s t) (w : Weir) (d : WeirDef) (c : Capture) (n : Nat) :
    Worked s (advanceEnd w d c n t) := by simp [advanceEnd, h]

@[simp] theorem worked_judgeSpilling (h : Worked s t) (w : Weir) (d : WeirDef) (flow x : Int) :
    Worked s (judgeSpilling w d flow x t) := by simp [judgeSpilling, h]

@[simp] theorem worked_judgeReceding (h : Worked s t) (w : Weir) (d : WeirDef) (flow x : Int) :
    Worked s (judgeReceding w d flow x t) := by simp [judgeReceding, h]

@[simp] theorem worked_judgeWeir (h : Worked s t) (w : Weir) : Worked s (judgeWeir w t) := by
  unfold judgeWeir; split
  · exact h
  · dsimp only; split
    · exact worked_judgeDry h w _ _
    · exact worked_judgeOnset h w _ _
    all_goals split <;> simp [h]

@[simp] theorem worked_judgeWeirs (h : Worked s t) : Worked s (judgeWeirs t) :=
  worked_eachWeir (fun w _ hu => worked_judgeWeir hu w) h

@[simp] theorem worked_weirClockSet (h : Worked s t) (w : Weir) : Worked s (weirClockSet w t) := by
  unfold weirClockSet; dsimp only; split <;> simp [h]

@[simp] theorem worked_setClockTo (h : Worked s t) (n : Nat) : Worked s (setClock n t) :=
  worked_eachWeir (fun w _ hu => worked_weirClockSet hu w) (worked_setClock h _)

@[simp] theorem worked_flagChanged (h : Worked s t) (w : Weir) : Worked s (flagChanged w t) :=
  worked_changeOpen h _ _

@[simp] theorem worked_weirGone (h : Worked s t) (w : Weir) : Worked s (weirGone w t) := by
  unfold weirGone; dsimp only; split <;> simp [h]

@[simp] theorem worked_weirActivated (h : Worked s t) (w : Weir) : Worked s (weirActivated w t) := by
  unfold weirActivated; repeat' split
  all_goals simp [h]

@[simp] theorem worked_collected (h : Worked s t) : Worked s (collected t) :=
  worked_stateLogLoss (worked_setSpill h _)

@[simp] theorem worked_collectSpill (h : Worked s t) (n : Nat) : Worked s (collectSpill n t).2 := by
  unfold collectSpill; repeat' split
  all_goals simp [h]

/-! ### The store and the tables (R172, R173) -/

@[simp] theorem worked_startWrite (h : Worked s t) : Worked s (startWrite t) := by
  unfold startWrite; split <;> simp [h]

@[simp] theorem worked_queueWrite (h : Worked s t) (i : TableId) (image : List Byte) :
    Worked s (queueWrite i image t) := worked_startWrite (worked_setTables h _)

@[simp] theorem worked_setMark (h : Worked s t) (i : TableId) (b : Bool) : Worked s (setMark i b t) :=
  worked_stateStoreFault (worked_setTables h _)

@[simp] theorem worked_completeWrite (h : Worked s t) (agrees : Bool) :
    Worked s (completeWrite agrees t) := by
  unfold completeWrite; split
  · exact h
  · have hw : ∀ x, Worked s (startWrite { t with tables := x }) := by simp [h]
    simp [hw]

@[simp] theorem worked_rebuildGate (h : Worked s t) : Worked s (rebuildGate t) :=
  worked_settleFairness (worked_filterActuator h _ _)

@[simp] theorem worked_judgeHoldOut (h : Worked s t) : Worked s (judgeHoldOut t) := by
  unfold judgeHoldOut; dsimp only; repeat' split
  all_goals exact h.of_loop _ rfl Iff.rfl

@[simp] theorem worked_gapReached (h : Worked s t) : Worked s (gapReached t) := by
  unfold gapReached; split
  · exact h.of_loop _ rfl (by simp [‹t.loop.assembler = _›])
  · exact h.of_loop _ rfl (by simp [‹t.loop.assembler = _›])
  · exact h
  · exact h

@[simp] theorem worked_compareGap (h : Worked s t) : Worked s (compareGap t) :=
  worked_guarded (fun _ hu => worked_gapReached hu) h

@[simp] theorem worked_stallReached (h : Worked s t) : Worked s (stallReached t) :=
  worked_stateCondition (h.of_loop { t.loop with loopStall := true } rfl Iff.rfl) _ _

@[simp] theorem worked_compareStall (h : Worked s t) : Worked s (compareStall t) := by
  unfold compareStall; split <;> simp [h]

@[simp] theorem worked_wellChanged (h : Worked s t) (old : State) : Worked s (wellChanged old t) := by
  simp [wellChanged, resetWell, h]

@[simp] theorem worked_freshSources (h : Worked s t) (p : Pump) : Worked s (freshSources p t) := by
  simp [freshSources, h]

@[simp] theorem worked_installedChanged (h : Worked s t) (old : State) :
    Worked s (installedChanged old t) := by
  unfold installedChanged; split
  · exact h
  · exact worked_eachPump (fun p _ hu => by simp [hu]) (worked_setSeq h _)

@[simp] theorem worked_rolesChanged (h : Worked s t) (old : State) (p : Pump) :
    Worked s (rolesChanged old p t) := worked_judgeFaults (worked_judgeSelector (by simp [h]) p) p

@[simp] theorem worked_weirRoleChanged (h : Worked s t) (old : State) (w : Weir) :
    Worked s (weirRoleChanged old w t) := by
  unfold weirRoleChanged; repeat' split
  all_goals simp [h]

@[simp] theorem worked_annunciatorAdded (h : Worked s t) (old : State) :
    Worked s (annunciatorAdded old t) := by simp [annunciatorAdded, h]

@[simp] theorem worked_stationActivated (h : Worked s t) (old : State) :
    Worked s (stationActivated old t) :=
  worked_annunciatorAdded (worked_eachWeir (fun w _ hu => worked_weirRoleChanged hu old w) <|
    worked_eachSide (fun r _ hu => worked_judgeRakeMode hu r) <|
    worked_eachPump (fun p _ hu => worked_rolesChanged hu old p) <|
    worked_judgeSupply <| worked_installedChanged (worked_wellChanged
      (worked_expirePassed <| worked_compareStall <| worked_compareGap <| worked_judgeHoldOut <|
        worked_rebuildGate h) old) old) old

@[simp] theorem worked_pointRedefined (h : Worked s t) (old : State) (n : Nat) :
    Worked s (pointRedefined old n t) := by
  unfold pointRedefined; split <;> simp [h]

@[simp] theorem worked_pointActivated (h : Worked s t) (old : State) :
    Worked s (pointActivated old t) :=
  worked_foldl _ (fun _ n hu => worked_pointRedefined hu old n)
    (worked_foldl _ (fun _ n hu => worked_pointChanged hu n _) (worked_setPoints h _) _) _

@[simp] theorem worked_compareOvercurrent (h : Worked s t) (p : Pump) :
    Worked s (compareOvercurrent p t) := by simp [compareOvercurrent, h]

@[simp] theorem worked_dropUncommanded (h : Worked s t) (p : Pump) : Worked s (dropUncommanded p t) := by
  simp [dropUncommanded, h]

@[simp] theorem worked_compareConfirms (h : Worked s t) (p : Pump) : Worked s (compareConfirms p t) := by
  unfold compareConfirms; split
  · exact h
  · exact worked_guarded (fun _ hu => worked_stopConfirmExpired hu p)
      (worked_guarded (fun _ hu => worked_startConfirmExpired hu p) h)

@[simp] theorem worked_pumpActivated (h : Worked s t) (old : State) (p : Pump) :
    Worked s (pumpActivated old p t) :=
  worked_compareConfirms (worked_statePumpConditions (worked_dropUncommanded
    (worked_compareOvercurrent (worked_judgeFaults (worked_setPump h p _) p) p) p) p) p

@[simp] theorem worked_compareStagger (h : Worked s t) : Worked s (compareStagger t) := by
  simp [compareStagger, h]

@[simp] theorem worked_compareRakeTimers (h : Worked s t) (r : Side) :
    Worked s (compareRakeTimers r t) := by
  unfold compareRakeTimers; split
  · exact h
  · exact worked_guarded (fun _ hu => worked_reverseExpired hu r) <|
      worked_guarded (fun _ hu => worked_jamCurrentReached hu r) <|
      worked_guarded (fun _ hu => worked_travelExpired hu r) <| worked_judgeJamTimer h r

@[simp] theorem worked_screenActivated (h : Worked s t) (old : State) (r : Side) :
    Worked s (screenActivated old r t) := by
  unfold screenActivated; split
  · exact worked_compareRakeTimers (worked_judgeRakeMode h r) r
  · exact worked_judgeRakeMode (by simp [h]) r
  · exact worked_judgeRakeMode (by simp [h]) r
  · exact h

/-- The blocks that an activation reaches work within the event (R172). -/
@[simp] theorem worked_deliver (h : Worked s t) (i : TableId) (old : State) :
    Worked s (deliver i old t) := by
  cases i
  case station => exact worked_stationActivated h old
  case access => exact h
  case tap => exact h
  case point => exact worked_pointActivated h old
  case storage => exact worked_setFlow h _
  case pump => exact worked_compareStagger (worked_eachPump (fun p _ hu => worked_pumpActivated hu old p) h)
  case band => exact worked_setSeq h _
  case screen => exact worked_eachSide (fun r _ hu => worked_screenActivated hu old r) h
  case weir => exact worked_eachWeir (fun w _ hu => worked_weirActivated hu w) h
  case alarm => exact worked_alarmsActivated h old

@[simp] theorem worked_activateImage (h : Worked s t) (i : TableId) (image : List Byte) :
    Worked s (activateImage i image t) := by
  unfold activateImage; dsimp only; split
  · exact worked_setOutcome (worked_setTables (worked_setShadow h i _) _) i _
  · exact worked_setOutcome (worked_deliver (worked_queueWrite
      (worked_setMark (worked_putTable (worked_setShadow h i _) _ _) i _) i image) i _) i _

@[simp] theorem worked_activateIf (h : Worked s t) (m : Method) (i : TableId) :
    Worked s (activateIf m t i) := by
  unfold activateIf; split <;> simp [h]

@[simp] theorem worked_activateAll (h : Worked s t) (m : Method) : Worked s (activateAll m t) :=
  worked_foldl _ (fun _ i hu => worked_activateIf hu m i) h _

@[simp] theorem worked_activateQuiet (h : Worked s t) : Worked s (activateQuiet t) := by
  simp [activateQuiet, h]

@[simp] theorem worked_finishDrives (h : Worked s t) : Worked s (finishDrives t) :=
  worked_finishAlarms (worked_activateQuiet (worked_settleDrives h))

/-! ### The clocked events (chapters 3 to 11) -/

@[simp] theorem worked_deliverRecord (h : Worked s t) (o : BalanceOrder) :
    Worked s (deliverRecord o t) := by
  have screens : ∀ u, Worked s u → Worked s (judgeScreens u) := fun _ hu =>
    worked_eachSide (fun r _ hu => worked_judgeScreen hu r) hu
  have protect : ∀ u, Worked s u → Worked s (protectAll u) := fun _ hu =>
    worked_eachPump (fun p _ hu => worked_protectPump hu p) hu
  exact worked_judgeWeirs <| worked_guarded screens <| worked_guarded protect <|
    worked_sequence <| worked_guarded screens <| worked_guarded protect h

@[simp] theorem worked_balanceUpdate (h : Worked s t) (o : BalanceOrder) :
    Worked s (balanceUpdate o t) :=
  worked_finishDrives (worked_deliverRecord (worked_formRecord (worked_activateAll h _)) o)

@[simp] theorem worked_summaryDue (h : Worked s t) : Worked s (summaryDue t) :=
  worked_flushNotices (worked_noteSummary (worked_setReport h _) (isNotice_notice ..))

@[simp] theorem worked_enterAutomatic (h : Worked s t) : Worked s (enterAutomatic t) :=
  worked_finishDrives <| worked_startPowerReturn <| worked_shedCheck <|
    worked_eachSide (fun r _ hu => worked_judgeRakeMode hu r) <|
    worked_eachPump (fun p _ hu => worked_judgePumpMode hu p) (worked_setTables h _)

/-! ### Work that ends its event -/

/-- Work within an event after which no notice is held back, where none was before. -/
structure Ended (s t : State) : Prop where
  worked : Worked s t
  heldBack : NothingHeldBack s → NothingHeldBack t

theorem Ended.refl (s : State) : Ended s s := ⟨.refl s, id⟩

theorem Worked.ended (h : Worked s t) (ho : t.transit.outbox = s.transit.outbox) : Ended s t :=
  ⟨h, fun hs => ho.trans hs⟩

theorem ended_finishAlarms (h : Worked s t) : Ended s (finishAlarms t) :=
  ⟨worked_finishAlarms h, fun _ => outbox_finishAlarms t⟩

theorem ended_finishDrives (h : Worked s t) : Ended s (finishDrives t) :=
  ended_finishAlarms (worked_activateQuiet (worked_settleDrives h))

theorem ended_flushNotices (h : Worked s t) : Ended s (flushNotices t) :=
  ⟨worked_flushNotices h, fun _ => outbox_flushNotices t⟩

/-! ### Requests (R166 to R178) -/

theorem worked_leaveForStandby (h : Worked s t) : Worked s (leaveForStandby t) :=
  worked_setArbiter (worked_stopPowerReturn <|
    worked_eachSide (fun r _ hu => worked_judgeRakeMode hu r) <|
    worked_eachPump (fun p _ hu => worked_judgePumpMode hu p) (worked_setTables h _)) _

theorem ended_setTables (s : State) (x : Tables) : Ended s { s with tables := x } :=
  (worked_setTables (.refl s) x).ended rfl

theorem ended_clearCounters (s : State) : Ended s (clearCounters s) := by
  refine Worked.ended ⟨rfl, rfl, rfl, rfl, rfl, fun hl => ?_⟩ rfl
  exact { hl.of_loop (l' := (clearCounters s).loop) rfl Iff.rfl with }

theorem ended_markRestart (s : State) : Ended s (markRestart s) := by
  unfold markRestart; split
  · exact .refl s
  · exact (worked_setHandler (.refl s) _).ended rfl

theorem ended_driveModeSet (d : Drive) (m : Mode) (s : State) : Ended s (driveModeSet d m s).2 := by
  cases d <;> unfold driveModeSet <;> dsimp only <;> split <;> dsimp only
  · exact ended_finishDrives (worked_judgePumpMode (worked_setPump (.refl s) _ _) _)
  · exact .refl s
  · exact ended_finishDrives (worked_judgeRakeMode (worked_setRake (.refl s) _ _) _)
  · exact .refl s

theorem ended_doSetDriveMode (d m : Byte) (s : State) : Ended s (doSetDriveMode d m s).2 := by
  unfold doSetDriveMode; split
  · exact ended_driveModeSet ..
  · exact .refl s

theorem ended_doResetDrive (d : Byte) (s : State) : Ended s (doResetDrive d s).2 := by
  unfold doResetDrive; repeat' split
  all_goals dsimp only
  · exact .refl s
  · split
    · exact ended_finishDrives (worked_resetPump (.refl s) _)
    · exact .refl s
  · exact .refl s
  · exact ended_finishDrives (worked_resetRake (.refl s) _)
  · exact .refl s

theorem ended_doRakeNow (d : Byte) (s : State) : Ended s (doRakeNow d s).2 := by
  unfold doRakeNow; repeat' split
  all_goals dsimp only
  · exact .refl s
  · exact .refl s
  · exact ended_finishDrives (worked_giveRequest (.refl s) _)
  · exact .refl s

theorem ended_doForcePoint (n : Byte) (v : BitVec 16) (s : State) : Ended s (doForcePoint n v s).2 := by
  unfold doForcePoint; repeat' split
  all_goals dsimp only
  · exact .refl s
  · exact .refl s
  · exact ended_finishDrives (worked_forceTo (.refl s) _ _)

theorem ended_doReleasePoint (n : Byte) (s : State) : Ended s (doReleasePoint n s).2 := by
  unfold doReleasePoint; repeat' split
  all_goals dsimp only
  · exact .refl s
  · exact .refl s
  · exact ended_finishDrives (worked_releaseForce (.refl s) _)

theorem ended_doAckAlarm (n : Byte) (s : State) : Ended s (doAckAlarm n s).2 := by
  unfold doAckAlarm; repeat' split
  all_goals dsimp only
  · exact .refl s
  · exact ended_finishAlarms (worked_foldl _ (fun _ n hu => worked_ackEntry hu n) (.refl s) _)
  · exact ended_finishAlarms (worked_ackEntry (.refl s) _)

theorem ended_doCollectSpill (n : BitVec 16) (s : State) : Ended s (doCollectSpill n s).2 := by
  unfold doCollectSpill; split <;> dsimp only
  · exact .refl s
  · exact ended_finishAlarms (worked_collectSpill (.refl s) _)

theorem ended_doTableBegin (i n : Byte) (s : State) : Ended s (doTableBegin i n s).2 := by
  unfold doTableBegin; repeat' split
  · exact .refl s
  · exact ended_setTables s _
  · exact .refl s

theorem ended_doTableSegment (i n : Byte) (d : List Byte) (s : State) :
    Ended s (doTableSegment i n d s).2 := by
  unfold doTableSegment; repeat' split
  case isTrue => exact ended_setTables s _
  all_goals exact .refl s

theorem ended_doTableAbandon (i : Byte) (s : State) : Ended s (doTableAbandon i s).2 := by
  unfold doTableAbandon; split
  · exact .refl s
  · exact ended_setTables s _

theorem ended_commitPassed (i : TableId) (m : Method) (gs : List (List Byte)) (s : State) :
    Ended s (commitPassed i m gs s).2 := by
  unfold commitPassed; dsimp only
  exact ended_finishDrives (worked_activateIf (worked_setShadow (.refl s) _ _) _ _)

theorem ended_commitImage (i : TableId) (m : Method) (gs : List (List Byte)) (c : BitVec 16)
    (s : State) : Ended s (commitImage i m gs c s).2 := by
  unfold commitImage; dsimp only; repeat' split
  · exact .refl s
  · exact .refl s
  · exact ended_commitPassed ..

theorem ended_doTableCommit (i m : Byte) (c : BitVec 16) (s : State) :
    Ended s (doTableCommit i m c s).2 := by
  unfold doTableCommit; repeat' split
  case h_2 => exact ended_commitImage ..
  all_goals exact .refl s

theorem ended_toStandby (s : State) : Ended s (toStandby s).2 := by
  unfold toStandby; dsimp only; split
  · exact ended_finishDrives (worked_leaveForStandby (worked_setTables (.refl s) _))
  · exact ended_setTables s _

theorem ended_toAutomatic (s : State) : Ended s (toAutomatic s).2 := by
  unfold toAutomatic enterSettling; repeat' split
  · exact .refl s
  · exact .refl s
  · exact ended_setTables s _

theorem ended_doSetStationMode (m : Byte) (s : State) : Ended s (doSetStationMode m s).2 := by
  unfold doSetStationMode; split
  · exact ended_toStandby s
  · exact ended_toAutomatic s
  · exact .refl s

/-- A request carried out is work within its event, which it ends; the response is posted after it (R166). -/
theorem ended_carryOut (r : Request) (s : State) : Ended s (carryOut r s).2 := by
  cases r
  case setDriveMode d m => exact ended_doSetDriveMode d m s
  case resetDrive d => exact ended_doResetDrive d s
  case rakeNow d => exact ended_doRakeNow d s
  case forcePoint n v => exact ended_doForcePoint n v s
  case releasePoint n => exact ended_doReleasePoint n s
  case ackAlarm n => exact ended_doAckAlarm n s
  case silence => exact ended_finishAlarms (worked_setSilence (.refl s) true)
  case collectSpill n => exact ended_doCollectSpill n s
  case tableBegin i n => exact ended_doTableBegin i n s
  case tableSegment i n d => exact ended_doTableSegment i n d s
  case tableCommit i m c => exact ended_doTableCommit i m c s
  case tableAbandon i => exact ended_doTableAbandon i s
  case setStationMode m => exact ended_doSetStationMode m s
  case clearCounters => exact ended_clearCounters s
  case restart => exact ended_markRestart s
  all_goals exact .refl s

end Sys2Proof.Proofs
end

section
/-! SUPPORT. What every command but a start keeps; the receiver and the start of a frame. -/

namespace Sys2Proof.Proofs

open Sys2Proof.Machine Sys2Proof.Safety Sys2Proof.Laws

variable {s t u : State}

/-! ### A command that is no start -/

/-- What every command but a start keeps from `s` to `t`: the queue of commands, what the straps read as, and the
truth of the queues. -/
structure Kept (s t : State) : Prop where
  pending : t.pending = s.pending
  address : t.chip.ownAddress = s.chip.ownAddress
  rate : t.chip.rate = s.chip.rate
  queues : QueuesTrue s → QueuesTrue t

theorem Kept.refl (s : State) : Kept s s := ⟨rfl, rfl, rfl, id⟩

theorem Kept.trans (h : Kept s t) (h' : Kept t u) : Kept s u :=
  ⟨h'.pending.trans h.pending, h'.address.trans h.address, h'.rate.trans h.rate, h'.queues ∘ h.queues⟩

/-- Work that ends its event keeps what a command keeps. -/
theorem Ended.kept (h : Ended s t) : Kept s t :=
  ⟨h.worked.pending, by rw [h.worked.chip], by rw [h.worked.chip], fun hq =>
    queuesTrue_iff.mpr ⟨h.worked.line (queuesTrue_iff.mp hq).1, h.heldBack (queuesTrue_iff.mp hq).2⟩⟩

theorem kept_setHandler (x : Handler) (s : State) : Kept s { s with handler := x } :=
  (Worked.ended (worked_setHandler (.refl s) x) rfl).kept

theorem kept_countTransit (f : TransitCounters → TransitCounters) (s : State) : Kept s (s.countTransit f) :=
  (Worked.ended (worked_countTransit (.refl s) f) rfl).kept

/-- A command that changes nothing or does what `h` says. -/
theorem Kept.ite {c : Prop} [Decidable c] (h : c → Kept s t) : Kept s (if c then t else s) := by
  split
  · exact h ‹_›
  · exact .refl s

/-! ### The receiver (R2 to R6, R14) -/

/-- `t` differs from `s` in the loop port, and there not in the frame being sent nor in being in break. -/
structure OnLoop (s t : State) : Prop where
  eq : t = { s with loop := t.loop }
  tx : t.loop.tx = s.loop.tx
  brk : t.loop.assembler = .brk ↔ s.loop.assembler = .brk

theorem OnLoop.refl (s : State) : OnLoop s s := ⟨rfl, rfl, Iff.rfl⟩

theorem OnLoop.trans (h : OnLoop s t) (h' : OnLoop t u) : OnLoop s u :=
  ⟨by rw [h'.eq, h.eq], h'.tx.trans h.tx, h'.brk.trans h.brk⟩

theorem OnLoop.worked (h : OnLoop s t) : Worked s t :=
  h.eq ▸ (Worked.refl s).of_loop t.loop h.tx h.brk

theorem OnLoop.kept (h : OnLoop s t) : Kept s t := (h.worked.ended (by rw [h.eq])).kept

theorem onLoop_countLine (s : State) (f : LineCounters → LineCounters) : OnLoop s (s.countLine f) :=
  ⟨rfl, rfl, Iff.rfl⟩

theorem onLoop_startHealth (s : State) : OnLoop s (startHealth s) := ⟨rfl, rfl, Iff.rfl⟩

theorem onLoop_characterJudged (s : State) : OnLoop s (characterJudged s) := ⟨rfl, rfl, Iff.rfl⟩

theorem onLoop_setAssembler {a : Assembler} (ha : a = .brk ↔ s.loop.assembler = .brk) :
    OnLoop s (s.setAssembler a) := ⟨rfl, rfl, ha⟩

theorem onLoop_countCompleted (s : State) : OnLoop s (countCompleted s) := by
  unfold countCompleted; repeat' split
  all_goals exact ⟨rfl, rfl, Iff.rfl⟩

theorem onLoop_takeHanded (f : Frame) (s : State) : OnLoop s (takeHanded f s) := by
  unfold takeHanded; split <;> exact ⟨rfl, rfl, Iff.rfl⟩

theorem onLoop_completeFrame (f : Frame) (c : BitVec 16) (s : State) : OnLoop s (completeFrame f c s) := by
  unfold completeFrame; repeat' split
  · exact ((onLoop_countLine s _).trans (onLoop_startHealth _)).trans (onLoop_countCompleted _)
  · exact (onLoop_countLine s _).trans (onLoop_countCompleted _)
  · exact ⟨rfl, rfl, Iff.rfl⟩

theorem onLoop_appendChar (cs : List Byte) (hs : s.loop.assembler ≠ .brk) : OnLoop s (appendChar cs s) := by
  have hset : ∀ a, a ≠ .brk → OnLoop s (s.setAssembler a) := fun a ha =>
    onLoop_setAssembler (iff_of_false ha hs)
  unfold appendChar; repeat' split
  · exact hset _ (by simp)
  · exact (onLoop_countLine s _).trans (onLoop_setAssembler (iff_of_false (by simp) hs))
  · exact (hset _ (by simp)).trans (onLoop_completeFrame ..)
  · exact hset _ (by simp)
  · exact hset _ (by simp)

theorem onLoop_takeChar (d : Byte) (m : Bool) (hs : s.loop.assembler ≠ .brk) : OnLoop s (takeChar d m s) := by
  unfold takeChar; repeat' split
  · exact onLoop_setAssembler (iff_of_false (by simp) hs)
  · exact onLoop_countLine s _
  · exact (onLoop_countLine s _).trans (onLoop_setAssembler (iff_of_false (by simp) hs))
  · exact onLoop_appendChar _ hs
  · exact onLoop_setAssembler (iff_of_false (by simp) hs)
  · exact .refl s
  · exact .refl s

theorem onLoop_countError (e : CharError) (s : State) : OnLoop s (countError e s) := by
  unfold countError; split <;> exact onLoop_countLine s _

theorem onLoop_takeError (e : CharError) (s : State) : OnLoop s (takeError e s) := by
  have herr := (onLoop_countError e s).trans (onLoop_startHealth _)
  unfold takeError; split
  · exact herr
  · rename_i hs
    exact herr.trans (onLoop_setAssembler (iff_of_false (by simp) (by simp [herr.brk, hs])))
  · exact herr
  · exact .refl s

theorem onLoop_receiveChar (d : Byte) (e : CharEnding) (hs : s.loop.assembler ≠ .brk) :
    OnLoop s (receiveChar d e s) := by
  unfold receiveChar; split
  · exact (onLoop_characterJudged s).trans (onLoop_takeChar d _ hs)
  · exact (onLoop_characterJudged s).trans (onLoop_takeError _ _)
  · exact ⟨rfl, rfl, Iff.rfl⟩

theorem kept_gapReached (s : State) : Kept s (gapReached s) :=
  ((worked_gapReached (.refl s)).ended (by rw [gapReached_eq])).kept

/-! ### The transmitter (R9, R29 to R31) -/

/-- What the arbiter offers from the transit queue is its head (R24). -/
theorem head_of_offered {x : Transit} {f : Frame} (h : x.offered = .transit f) : x.queue.head? = some f := by
  have hplain : x.plainOffer = .transit f → x.queue.head? = some f := by
    unfold Transit.plainOffer; split <;> simp_all
  unfold Transit.offered at h
  repeat' split at h
  all_goals simp_all

/-- What the arbiter offers of the controller's own is the insertion candidate (R29). -/
theorem candidate_of_offered {x : Transit} {o : OwnFrame} (h : x.offered = .own o) : x.candidate = some o := by
  have hplain : x.plainOffer = .own o → x.candidate = some o := by
    unfold Transit.plainOffer; split <;> simp_all
  unfold Transit.offered at h
  repeat' split at h
  all_goals simp_all

/-- An insertion candidate stands in a class, and the lap list has room for it (R29). -/
theorem candidate_cases {x : Transit} {o : OwnFrame} (h : x.candidate = some o) :
    x.lap.length < 16 ∧ (o ∈ x.actuator ∨ o ∈ x.notice ∨ o ∈ x.response) := by
  unfold Transit.candidate at h
  split at h
  · simp at h
  · rename_i hlap
    refine ⟨by simpa [Config.lapCapacity] using hlap, ?_⟩
    split at h <;> simp_all

/-- An own frame starts (R25, R29 to R31): its class loses its head, and the frame is being sent. -/
theorem LineTrue.startOwn {l : LoopPort} {x : Transit} (h : LineTrue l x) (htx : l.tx = .idle)
    (hbrk : l.assembler ≠ .brk) {o : OwnFrame} (ho : x.candidate = some o) (f : Frame) (seq : Byte) :
    LineTrue { l with tx := .own o f false } { x.takeOwn o with nextSeq := seq, fairness := 0 } := by
  obtain ⟨hroom, hcls⟩ := candidate_cases ho
  have hn := h.noticeRoom
  have hr := h.responseRoom
  simp only [htx, Tx.sendingNotice, Tx.sendingResponse, Bool.toNat_false, Nat.add_zero] at hn hr
  have tails : ∀ {P : OwnFrame → Prop} {q : List OwnFrame}, (∀ o ∈ q, P o) → ∀ o ∈ q.tail, P o :=
    fun hq o ho => hq o (List.mem_of_mem_tail ho)
  rcases hcls with hc | hc | hc
  · obtain ⟨a, code, arg, href⟩ := h.actuator o hc
    refine { h with
      lap := ?_, noticeRoom := ?_, responseRoom := ?_, fairness := Nat.zero_le _, head := by simp
      actuator := ?_, notice := ?_, response := ?_, held := ?_, queue := ?_, breakHold := by simp [hbrk] }
    all_goals simp only [Transit.takeOwn, href, sendingOwn, Tx.sendingNotice, Tx.sendingResponse]
    exacts [h.queue, hroom, hn, hr, tails h.actuator, h.notice, h.response, h.held]
  · obtain ⟨k, n, href⟩ := h.notice o hc
    have hpos := List.length_pos_of_mem hc
    refine { h with
      lap := ?_, noticeRoom := ?_, responseRoom := ?_, fairness := Nat.zero_le _, head := by simp
      actuator := ?_, notice := ?_, response := ?_, held := ?_, queue := ?_, breakHold := by simp [hbrk] }
    all_goals simp only [Transit.takeOwn, href, sendingOwn, Tx.sendingNotice, Tx.sendingResponse]
    exacts [h.queue, hroom, by simp; omega, hr, h.actuator, tails h.notice, h.response, h.held]
  · obtain ⟨tag, b, href⟩ := h.response o hc
    have hpos := List.length_pos_of_mem hc
    refine { h with
      lap := ?_, noticeRoom := ?_, responseRoom := ?_, fairness := Nat.zero_le _, head := by simp
      actuator := ?_, notice := ?_, response := ?_, held := ?_, queue := ?_, breakHold := by simp [hbrk] }
    all_goals simp only [Transit.takeOwn, href, sendingOwn, Tx.sendingNotice, Tx.sendingResponse]
    exacts [h.queue, hroom, hn, by simp; omega, h.actuator, h.notice, tails h.response, h.held]

/-- The transmitter, idle and out of a break, starts what is offered (R24, R29 to R31). -/
theorem kept_startOffer (htx : s.loop.tx = .idle) (hbrk : s.loop.assembler ≠ .brk) :
    Kept s (startOffer s) := by
  unfold startOffer
  split
  · rename_i f hf
    refine ⟨rfl, rfl, rfl, fun hq => ?_⟩
    obtain ⟨hl, ho⟩ := queuesTrue_iff.mp hq
    refine queuesTrue_iff.mpr ⟨{ hl with
      lap := le_trans (Nat.le_add_right _ _) hl.lap
      noticeRoom := le_trans (Nat.le_add_right _ _) hl.noticeRoom
      responseRoom := le_trans (Nat.le_add_right _ _) hl.responseRoom
      fairness := ?_, head := ?_, breakHold := by simp [hbrk] }, ho⟩
    · dsimp only; split
      · exact hl.fairness
      · omega
    · rintro f' hf'
      cases hf'
      exact head_of_offered (x := s.transit) hf
  · rename_i o hf
    refine ⟨rfl, rfl, rfl, fun hq => ?_⟩
    obtain ⟨hl, ho⟩ := queuesTrue_iff.mp hq
    refine queuesTrue_iff.mpr ⟨hl.startOwn htx hbrk (candidate_of_offered hf) _ _, ?_⟩
    have hbox : (s.transit.takeOwn o).outbox = s.transit.outbox := by
      unfold Transit.takeOwn; split <;> rfl
    exact hbox.trans ho
  · exact .refl s

end Sys2Proof.Proofs
end

section
/-! SUPPORT. Admission, a frame sent, and breaks keep what a command keeps. -/

namespace Sys2Proof.Proofs

open Sys2Proof.Machine Sys2Proof.Safety Sys2Proof.Laws

variable {s t u : State}

/-! ### The transit queue (R13, R24) -/

theorem onLoop_judgeHoldOut (s : State) : OnLoop s (judgeHoldOut s) := by
  unfold judgeHoldOut; dsimp only; repeat' split
  all_goals exact ⟨rfl, rfl, Iff.rfl⟩

theorem fill_tail_le (q : List Frame) : fill q.tail ≤ fill q := by
  cases q <;> simp [fill]

/-- A frame offered is admitted behind the head, or dropped (R24). -/
@[simp] theorem worked_offer (h : Worked s t) (f : Frame) : Worked s (offer f t) := by
  unfold offer; split
  · rename_i hroom
    refine Worked.trans (h.of_transit _ ?_ fun hl => ?_) (onLoop_judgeHoldOut _).worked
    · rfl
    · refine { hl with queue := ?_, head := fun g hg => ?_ }
      · simpa [fill, Config.transitCapacity] using hroom
      · simp [List.head?_append, hl.head g hg]
  · exact worked_countTransit h _

@[simp] theorem outbox_offer (f : Frame) (s : State) : (offer f s).transit.outbox = s.transit.outbox := by
  unfold offer; split
  · rw [transit_judgeHoldOut]
  · rfl

theorem kept_forward (f : Frame) (s : State) : Kept s (forward f s) :=
  ((worked_offer (.refl s) _).ended (outbox_offer _ s)).kept

/-- The head leaves the transit queue as its frame ceases to be sent (R24). -/
theorem LineTrue.dropHead {l l' : LoopPort} {x : Transit} (h : LineTrue l x) (hown : sendingOwn l'.tx = false)
    (hnotice : l'.tx.sendingNotice = false) (hresponse : l'.tx.sendingResponse = false)
    (htransit : ∀ f, l'.tx ≠ .transit f) (hbrk : l'.tx = .breakHold ↔ l'.assembler = .brk) :
    LineTrue l' { x with queue := x.queue.tail } where
  queue := le_trans (fill_tail_le _) h.queue
  lap := by rw [hown]; exact le_trans (Nat.le_add_right _ _) h.lap
  noticeRoom := by rw [hnotice]; exact le_trans (Nat.le_add_right _ _) h.noticeRoom
  responseRoom := by rw [hresponse]; exact le_trans (Nat.le_add_right _ _) h.responseRoom
  fairness := h.fairness
  head f hf := absurd hf (htransit f)
  actuator := h.actuator
  notice := h.notice
  response := h.response
  breakHold := hbrk
  held := h.held

/-! ### A frame sent (R3, R31) -/

theorem kept_noteResponseSent (o : OwnFrame) (s : State) : Kept s (noteResponseSent o s) := by
  unfold noteResponseSent; split
  · exact kept_setHandler _ s
  · exact .refl s

theorem kept_frameSent (s : State) : Kept s (frameSent s) := by
  unfold frameSent; dsimp only; split
  · rename_i f htx
    refine Kept.trans ?_ (onLoop_judgeHoldOut _).kept
    refine ⟨rfl, rfl, rfl, fun hq => ?_⟩
    obtain ⟨hl, ho⟩ := queuesTrue_iff.mp hq
    have hbrk := hl.breakHold
    exact queuesTrue_iff.mpr ⟨hl.dropHead rfl rfl rfl (by simp) (by simpa [htx] using hbrk), ho⟩
  · rename_i o f m htx
    refine Kept.trans ?_ (kept_noteResponseSent o _)
    refine ⟨rfl, rfl, rfl, fun hq => ?_⟩
    obtain ⟨hl, ho⟩ := queuesTrue_iff.mp hq
    have hbrk := hl.breakHold
    have hlap := hl.lap
    simp only [htx, sendingOwn, Bool.toNat_true, reduceCtorEq, false_iff] at hbrk hlap
    exact queuesTrue_iff.mpr ⟨{ hl with
      lap := by simpa [makeLap, sendingOwn] using hlap
      noticeRoom := le_trans (Nat.le_add_right _ _) hl.noticeRoom
      responseRoom := le_trans (Nat.le_add_right _ _) hl.responseRoom
      head := by simp [makeLap], breakHold := by simpa [makeLap] using hbrk }, ho⟩
  · exact .refl s
  · exact .refl s

/-! ### Breaks (R8 to R10, R37, R38) -/

/-- What a loop port needs for the invariant to hold with it in a break. -/
theorem LineTrue.broken {l l' : LoopPort} {x : Transit} (h : LineTrue l x) (htx : l'.tx = .breakHold)
    (ha : l'.assembler = .brk) : LineTrue l' x :=
  { h with
    lap := by simpa [htx, sendingOwn] using le_trans (Nat.le_add_right _ _) h.lap
    noticeRoom := by simpa [htx, Tx.sendingNotice] using le_trans (Nat.le_add_right _ _) h.noticeRoom
    responseRoom := by
      simpa [htx, Tx.sendingResponse] using le_trans (Nat.le_add_right _ _) h.responseRoom
    head := by simp [htx]
    breakHold := by simp [htx, ha] }

/-- The assembler's part of a break leaves all but the loop port, and there the frame being sent. -/
theorem enterBreak_frame (s : State) : enterBreak s = { s with loop := (enterBreak s).loop } ∧
    (enterBreak s).loop.tx = s.loop.tx ∧ (enterBreak s).loop.assembler = .brk := by
  unfold enterBreak countBreakAbort; split <;> exact ⟨rfl, rfl, rfl⟩

/-- An own frame cut off goes back to the class it came from, which had room for it while it was sent (R9). -/
theorem LineTrue.returnOwn {o : OwnFrame} {f : Frame} {m : Bool} (hl : LineTrue s.loop s.transit)
    (htx : s.loop.tx = .own o f m) {u : State} (hx : u.transit = s.transit)
    (hu : u.loop.tx = .breakHold) (ha : u.loop.assembler = .brk) :
    LineTrue (Machine.returnOwn o m u).loop (Machine.returnOwn o m u).transit := by
  have hb : LineTrue u.loop u.transit := hx ▸ hl.broken hu ha
  have hn := hl.noticeRoom
  have hr := hl.responseRoom
  unfold Machine.returnOwn
  split
  · rename_i a code arg href
    split
    · exact hb
    · exact { hb with actuator := List.forall_mem_cons.mpr ⟨⟨a, code, arg, href⟩, hb.actuator⟩ }
  · rename_i k n href
    simp only [htx, Tx.sendingNotice, href, Bool.toNat_true] at hn
    exact { hb with
      noticeRoom := by simpa [hu, hx, Tx.sendingNotice] using hn
      notice := List.forall_mem_cons.mpr ⟨⟨k, n, href⟩, hb.notice⟩ }
  · rename_i tag b href
    simp only [htx, Tx.sendingResponse, href, Bool.toNat_true] at hr
    exact { hb with
      responseRoom := by simpa [hu, hx, Tx.sendingResponse] using hr
      response := List.forall_mem_cons.mpr ⟨⟨tag, b, href⟩, hb.response⟩ }

theorem outbox_returnOwn (o : OwnFrame) (m : Bool) (s : State) :
    (returnOwn o m s).transit.outbox = s.transit.outbox ∧ (returnOwn o m s).pending = s.pending ∧
      (returnOwn o m s).chip = s.chip := by
  unfold returnOwn; repeat' split
  all_goals exact ⟨rfl, rfl, rfl⟩

/-- A break detected (R8, R9). -/
theorem kept_cutOff (s : State) : Kept s (cutOff (enterBreak s)) := by
  obtain ⟨heq, htx, hbrk⟩ := enterBreak_frame s
  have hx : (enterBreak s).transit = s.transit := by rw [heq]
  have hp : (enterBreak s).pending = s.pending := by rw [heq]
  have hc : (enterBreak s).chip = s.chip := by rw [heq]
  unfold cutOff; dsimp only; split
  · refine Kept.trans ?_ (onLoop_judgeHoldOut _).kept
    refine ⟨hp, congrArg _ hc, congrArg _ hc, fun hq => ?_⟩
    obtain ⟨hl, ho⟩ := queuesTrue_iff.mp hq
    exact queuesTrue_iff.mpr ⟨(hx ▸ hl : LineTrue s.loop (enterBreak s).transit).dropHead rfl rfl rfl
      (by simp) (by simp [hbrk]), by simpa [hx] using ho⟩
  · rename_i o f m hown
    obtain ⟨hbox, hp', hc'⟩ := outbox_returnOwn o m
      { enterBreak s with loop := { (enterBreak s).loop with tx := .breakHold } }
    refine ⟨hp'.trans hp, congrArg _ (hc'.trans hc), congrArg _ (hc'.trans hc), fun hq => ?_⟩
    obtain ⟨hl, ho⟩ := queuesTrue_iff.mp hq
    exact queuesTrue_iff.mpr ⟨hl.returnOwn (htx ▸ hown) hx rfl hbrk, hbox.trans (by rw [hx, ho])⟩
  all_goals
    refine ⟨hp, congrArg _ hc, congrArg _ hc, fun hq => ?_⟩
    obtain ⟨hl, ho⟩ := queuesTrue_iff.mp hq
    exact queuesTrue_iff.mpr ⟨hx ▸ hl.broken rfl hbrk, by simpa [hx] using ho⟩

/-- A loop reset in a break (R10, R37). -/
theorem kept_loopResetNow (hbrk : s.loop.assembler = .brk) : Kept s (loopResetNow s) := by
  refine ⟨rfl, rfl, rfl, fun hq => ?_⟩
  obtain ⟨hl, ho⟩ := queuesTrue_iff.mp hq
  have htx : s.loop.tx = .breakHold := hl.breakHold.mpr hbrk
  have hb : LineTrue (loopResetNow s).loop s.transit := hl.broken htx hbrk
  exact queuesTrue_iff.mpr ⟨{ hb with
    queue := Nat.zero_le _
    lap := by simp [loopResetNow, clearCounters, responseGone, resetTransit, htx, sendingOwn]
    noticeRoom := by simp [loopResetNow, clearCounters, responseGone, resetTransit, htx, Tx.sendingNotice]
    responseRoom := by
      simp [loopResetNow, clearCounters, responseGone, resetTransit, htx, Tx.sendingResponse]
    fairness := Nat.zero_le _
    head := by simp [loopResetNow, clearCounters, responseGone, resetTransit, htx]
    actuator := by simp [loopResetNow, clearCounters, responseGone, resetTransit]
    notice := by simp [loopResetNow, clearCounters, responseGone, resetTransit]
    response := by simp [loopResetNow, clearCounters, responseGone, resetTransit] }, ho⟩

@[simp] theorem outbox_postCommand (a : Actuator) (c : CommandCode) (g : Byte) (n : Option Nat) (s : State) :
    (postCommand a c g n s).transit.outbox = s.transit.outbox := by
  unfold postCommand; split <;> rfl

theorem worked_refresh (h : Worked s t) : Worked s (refresh t) := by
  refine worked_foldl _ (fun u a hu => ?_) h _
  have hpost : Worked s (postPresent a u) := by cases a <;> simp [postPresent, hu]
  simp [refreshOne, hu, hpost]

theorem outbox_refreshOne (s : State) (a : Actuator) :
    (refreshOne s a).transit.outbox = s.transit.outbox := by
  unfold refreshOne; split
  · cases a <;> simp [postPresent, postPump, postRake, postAnnunciate]
  · rfl

theorem outbox_refresh (s : State) : (refresh s).transit.outbox = s.transit.outbox := by
  unfold refresh
  exact foldl_view (fun u : State => u.transit.outbox) refreshOne outbox_refreshOne actuators s

/-- The state at the end of a break, before any refresh (R8, R9). -/
def lineBack (s : State) : State :=
  { s with loop := { s.loop with
      assembler := .idle
      gapTimer := some s.nowMs
      tx := .idle
      breakReset := false
      line := { s.loop.line with
        breaks := inc16 s.loop.line.breaks
        longBreaks := if s.loop.breakReset then inc16 s.loop.line.longBreaks else s.loop.line.longBreaks } } }

theorem breakEnded_eq (s : State) :
    breakEnded s = if s.loop.breakReset then refresh (lineBack s) else lineBack s := rfl

/-- The end of a break (R8, R9, R38). -/
theorem kept_breakEnded (s : State) : Kept s (breakEnded s) := by
  have hback : Kept s (lineBack s) := by
    refine ⟨rfl, rfl, rfl, fun hq => ?_⟩
    obtain ⟨hl, ho⟩ := queuesTrue_iff.mp hq
    exact queuesTrue_iff.mpr ⟨{ hl with
      lap := le_trans (Nat.le_add_right _ _) hl.lap
      noticeRoom := le_trans (Nat.le_add_right _ _) hl.noticeRoom
      responseRoom := le_trans (Nat.le_add_right _ _) hl.responseRoom
      head := by simp [lineBack], breakHold := by simp [lineBack] }, ho⟩
  rw [breakEnded_eq]
  split
  · exact hback.trans ((worked_refresh (.refl _)).ended (outbox_refresh _)).kept
  · exact hback

end Sys2Proof.Proofs
end

section
/-! SUPPORT. Requests, frames received, starts, and every other command. -/

namespace Sys2Proof.Proofs

open Sys2Proof.Machine Sys2Proof.Safety Sys2Proof.Laws

variable {s t u : State}

/-! ### Requests (R21, R166) -/

/-- A command that is a request is that request meeting intake (log 6). -/
theorem exec_request {c : Instr} {src tag : Byte} {r : Request} (h : requestOf c = some (src, tag, r))
    (s : State) : exec c s = .next (request src tag r s) := by
  cases c <;> cases h <;> rfl

theorem kept_countStatus (st : Status) (s : State) : Kept s (countStatus st s) := by
  unfold countStatus; split
  · exact kept_setHandler _ s
  · exact kept_setHandler _ s
  · exact .refl s

/-- The response to a request carried out, where its class had room (R28). -/
theorem Ended.kept_respond (h : Ended s t) (hroom : s.responseFull = false) (src code tag : Byte)
    (b : Bool) (a : Answer) : Kept s (respond src code tag b a t) := by
  refine Kept.trans ?_ (kept_countStatus _ _)
  refine ⟨h.worked.pending, congrArg _ h.worked.chip, congrArg _ h.worked.chip, fun hq => ?_⟩
  obtain ⟨hl, ho⟩ := queuesTrue_iff.mp hq
  have ht := h.worked.line hl
  have hsending : t.loop.tx.sendingResponse = s.loop.tx.sendingResponse := by
    rw [← sendingResponse_unmarkedTx, h.worked.tx, sendingResponse_unmarkedTx]
  have hlen : s.transit.response.length + s.loop.tx.sendingResponse.toNat < 4 :=
    Nat.not_le.mp (of_decide_eq_false hroom)
  refine queuesTrue_iff.mpr ⟨{ ht with responseRoom := ?_, response := ?_ }, h.heldBack ho⟩
  · simp only [List.length_append, List.length_singleton, h.worked.response, hsending]
    omega
  · intro o hmem
    rcases List.mem_append.mp hmem with hmem | hmem
    · exact ht.response o hmem
    · exact List.mem_singleton.mp hmem ▸ ⟨tag, b, rfl⟩

theorem kept_judgeReadable (src code tag : Byte) (held need : Permission) (ps : List Byte)
    (hroom : s.responseFull = false) : Kept s (judgeReadable src code tag held need ps s) := by
  unfold judgeReadable; dsimp only; repeat' split
  · exact (Ended.refl s).kept_respond hroom ..
  · exact (Ended.refl s).kept_respond hroom ..
  · exact (ended_carryOut _ s).kept_respond hroom ..

theorem kept_takeRequest (src : Byte) (held : Permission) (payload : List Byte)
    (hroom : s.responseFull = false) : Kept s (takeRequest src held payload s) := by
  unfold takeRequest; repeat' split
  · exact (Ended.refl s).kept_respond hroom ..
  · exact (Ended.refl s).kept_respond hroom ..
  · exact (Ended.refl s).kept_respond hroom ..
  · exact kept_judgeReadable _ _ _ _ _ _ hroom

theorem kept_intake (src : Byte) (payload : List Byte) (s : State) : Kept s (intake src payload s) := by
  unfold intake; split
  · exact kept_countTransit _ s
  · split
    · exact kept_countTransit _ s
    · exact kept_takeRequest _ _ _ (Bool.eq_false_iff.mpr ‹_›)

theorem kept_request (src tag : Byte) (r : Request) (s : State) : Kept s (request src tag r s) :=
  Kept.ite fun _ => kept_intake ..

/-! ### A frame received (R17 to R23) -/

theorem kept_takeSample (f : Frame) (s : State) : Kept s (takeSample f s) := by
  have hpairs := (ended_finishDrives (worked_takePairs (.refl s) f.src (samplePairs f.payload))).kept
  unfold takeSample; dsimp only; repeat' split
  · exact hpairs
  · exact hpairs.trans (kept_forward f _)
  · exact (kept_countTransit _ s).trans (kept_forward f _)

theorem kept_countForeign (a : Actuator) (s : State) : Kept s (countForeign a s) := by
  refine Ended.kept (t := countForeign a s) ⟨⟨rfl, rfl, rfl, rfl, rfl, fun hl => ?_⟩, id⟩
  exact { hl with }

theorem kept_judgeCommand (f : Frame) (s : State) : Kept s (judgeCommand f s) := by
  unfold judgeCommand; repeat' split
  · exact (kept_countTransit _ s).trans (kept_forward f _)
  · exact kept_forward f s
  · exact kept_countForeign ..
  · exact kept_forward f s

theorem outbox_setClock (n : Nat) (s : State) : (setClock n s).transit.outbox = s.transit.outbox := by
  unfold setClock
  refine eachWeir_view (fun u : State => u.transit.outbox) weirClockSet (fun w u => ?_) _
  unfold weirClockSet; dsimp only; split <;> rfl

theorem kept_takeTime (f : Frame) (s : State) : Kept s (takeTime f s) := by
  unfold takeTime; split
  · exact ((worked_setClockTo (.refl s) _).ended (outbox_setClock _ s)).kept
  · exact kept_countTransit _ s
  · exact kept_countTransit _ s
  · exact (kept_countTransit _ s).trans (kept_countTransit _ _)

theorem kept_classifyKind (f : Frame) (s : State) : Kept s (classifyKind f s) := by
  unfold classifyKind; dsimp only; repeat' split
  · exact kept_takeSample f s
  · exact kept_forward f s
  · exact kept_judgeCommand f s
  · exact kept_intake ..
  · exact kept_forward f s
  · exact kept_takeTime f s
  · exact (kept_takeTime f s).trans (kept_forward f _)
  all_goals exact kept_forward f s

theorem kept_classify (f : Frame) (s : State) : Kept s (classify f s) := by
  unfold classify; repeat' split
  · exact (ended_finishDrives (worked_ownReturned (.refl s) f)).kept
  · exact kept_countTransit _ s
  · exact kept_classifyKind f s

/-! ### Starts and power (R173, R176) -/

theorem pending_restoreTable (s : State) (i : TableId) : (restoreTable s i).pending = s.pending := by
  unfold restoreTable; split <;> rfl

theorem pending_restoreTables (s : State) : (restoreTables s).pending = s.pending := by
  unfold restoreTables
  exact foldl_view State.pending restoreTable pending_restoreTable _ _

@[simp] theorem worked_startWeir (h : Worked s t) (w : Weir) : Worked s (startWeir w t) := by
  simp [startWeir, h]

theorem worked_startConditions (h : Worked s t) : Worked s (startConditions t) :=
  worked_stateLogLoss <| worked_stateStoreFault <| worked_eachWeir (fun w _ hu => worked_startWeir hu w) <|
    worked_eachSide (fun r _ hu => worked_stateRakeJammed hu r) <|
    worked_eachPump (fun p _ hu => worked_statePumpConditions hu p) h

theorem worked_startMode (h : Worked s t) : Worked s (startMode t) := by
  simp [startMode, enterSettling, h]

/-- The blocks at their start values meet the invariant whatever stood before. -/
theorem lineTrue_startBlocks (s : State) : LineTrue (startBlocks s).loop (startBlocks s).transit where
  queue := Nat.zero_le _
  lap := Nat.zero_le _
  noticeRoom := Nat.zero_le _
  responseRoom := Nat.zero_le _
  fairness := Nat.zero_le _
  head := by simp [startBlocks, LoopPort.start]
  actuator := by simp [startBlocks, Transit.start]
  notice := by simp [startBlocks, Transit.start]
  response := by simp [startBlocks, Transit.start]
  breakHold := by simp [startBlocks, LoopPort.start]
  held := by simp [startBlocks, Transit.start, heldBack, Outbox.empty]

/-- The retained fields and the tables as a start finds them, before the blocks take their start values. -/
def startBase (addr : Byte) (rate : BitVec 2) (s : State) : State :=
  let x := abandonWrites
    { s with chip := { s.chip with
        mainPower := true, resetLow := false, ownAddress := strapAddress addr, rate := rate,
        checkAgrees := true } }
  restoreTables (if s.chip.checkAgrees then x else coldRetained x)

/-- A start in its parts (R176). -/
theorem start_eq (addr : Byte) (rate : BitVec 2) (s : State) :
    start addr rate s =
      finishAlarms (startMode (startConditions (startBlocks (startBase addr rate s)))) := by
  unfold start startBase
  cases s.chip.checkAgrees <;> rfl

theorem ended_start (addr : Byte) (rate : BitVec 2) (s : State) :
    Ended (startBlocks (startBase addr rate s)) (start addr rate s) := by
  rw [start_eq]
  exact ended_finishAlarms (worked_startMode (worked_startConditions (.refl _)))

/-- A start leaves the queues true whatever stood before. -/
theorem queuesTrue_start (addr : Byte) (rate : BitVec 2) (s : State) : QueuesTrue (start addr rate s) :=
  (ended_start addr rate s).kept.queues (queuesTrue_iff.mpr ⟨lineTrue_startBlocks _, rfl⟩)

theorem pending_startBase (addr : Byte) (rate : BitVec 2) (s : State) :
    (startBase addr rate s).pending = s.pending := by
  unfold startBase
  rw [pending_restoreTables]
  split <;> rfl

theorem pending_start (addr : Byte) (rate : BitVec 2) (s : State) :
    (start addr rate s).pending = s.pending :=
  (ended_start addr rate s).kept.pending.trans (pending_startBase addr rate s)

/-! ### Every command -/

theorem onLoop_characterReceived (d : Byte) (e : CharEnding) (s : State) :
    OnLoop s (if s.seeksStart then receiveChar d e s else s) := by
  split
  · rename_i h
    exact onLoop_receiveChar d e (by simp_all [State.seeksStart])
  · exact .refl s

theorem onLoop_characterError (e : CharError) (s : State) (c : Prop) [Decidable c] :
    OnLoop s (if c then takeError e (characterJudged s) else s) := by
  split
  · exact (onLoop_characterJudged s).trans (onLoop_takeError e _)
  · exact .refl s

/-- A clocked command acts, and ends its event, or changes nothing. -/
theorem kept_ite_ended {c : Prop} [Decidable c] (h : Ended s t) : Kept s (if c then t else s) :=
  Kept.ite fun _ => h.kept

theorem kept_setHoldIn (b : Bool) (x : Option Nat) (s : State) :
    Kept s { s with chip := { s.chip with holdIn := b }, loop := { s.loop with stallTimer := x } } := by
  refine ⟨rfl, rfl, rfl, fun hq => ?_⟩
  obtain ⟨hl, ho⟩ := queuesTrue_iff.mp hq
  exact queuesTrue_iff.mpr ⟨hl.of_loop rfl Iff.rfl, ho⟩

/-- A change of the chip that leaves what the straps read as. -/
theorem kept_setChip (x : Chip) (s : State) (ha : x.ownAddress = s.chip.ownAddress) (hr : x.rate = s.chip.rate) :
    Kept s { s with chip := x } :=
  ⟨rfl, ha, hr, fun hq => by
    obtain ⟨hl, ho⟩ := queuesTrue_iff.mp hq
    exact queuesTrue_iff.mpr ⟨hl, ho⟩⟩

theorem kept_setTables (x : Tables) (s : State) : Kept s { s with tables := x } := (ended_setTables s x).kept

theorem kept_holdInReleased (h : exec .holdInReleased s = .next t) : Kept s t := by
  cases h
  refine Kept.trans (kept_setChip { s.chip with holdIn := false } s rfl rfl) ?_
  split
  · refine Ended.kept (ended_finishAlarms (worked_stateCondition ?_ _ _))
    exact (Worked.refl _).of_loop _ rfl Iff.rfl
  · exact .refl _

/-- A command that is neither a request nor a start keeps its queue, the straps' reading and the truth of the
queues. -/
theorem kept_exec_event {c : Instr} (hreq : requestOf c = none)
    (hup : ∀ a r b, c ≠ .powerUp a r b) (hrel : ∀ a r, c ≠ .resetRelease a r)
    (hbegin : ∀ a r, c ≠ .restartBegin a r) (h : exec c s = .next t) : Kept s t := by
  cases c
  case powerUp => exact absurd rfl (hup _ _ _)
  case resetRelease => exact absurd rfl (hrel _ _)
  case restartBegin => exact absurd rfl (hbegin _ _)
  case characterReceived d e => cases h; exact (onLoop_characterReceived d e s).kept
  case characterError e =>
    cases h
    cases e
    · exact (onLoop_characterError _ s _).kept
    · exact (onLoop_characterError _ s _).kept
  case gapTimerExpiry => cases h; exact Kept.ite fun _ => kept_gapReached s
  case frameReceived f =>
    change execFrameReceived f s = _ at h
    unfold execFrameReceived at h
    split at h
    · cases h
      exact Kept.ite fun _ => ((onLoop_takeHanded f s).trans (onLoop_countCompleted _)).kept.trans
        (kept_classify f _)
    · cases h
  case strobeEnd => cases h; exact Kept.ite fun _ => OnLoop.kept ⟨rfl, rfl, Iff.rfl⟩
  case transmitStart =>
    cases h
    exact Kept.ite fun hc => kept_startOffer hc.2.1 hc.2.2.2
  case frameSent => cases h; exact Kept.ite fun _ => kept_frameSent s
  case holdInAsserted => cases h; exact kept_setHoldIn ..
  case holdInReleased => exact kept_holdInReleased h
  case stallTimerExpiry => cases h; exact kept_ite_ended (ended_finishAlarms (worked_stallReached (.refl s)))
  case breakDetected => cases h; exact Kept.ite fun _ => kept_cutOff s
  case loopReset => cases h; exact Kept.ite fun hc => kept_loopResetNow hc.2.1
  case breakEnd => cases h; exact Kept.ite fun _ => kept_breakEnded s
  case loopHealthTimerExpiry => cases h; exact Kept.ite fun _ => OnLoop.kept ⟨rfl, rfl, Iff.rfl⟩
  case lapTimeout => cases h; exact kept_ite_ended (ended_finishDrives (worked_lapTimedOut (.refl s)))
  case pointSecondTimerExpiry =>
    cases h; exact kept_ite_ended (ended_finishDrives (worked_pointSecond (.refl s)))
  case balanceUpdate o =>
    cases h
    exact kept_ite_ended (ended_finishDrives (worked_deliverRecord (worked_formRecord
      (worked_activateAll (.refl s) _)) o))
  case staggerTimerExpiry =>
    cases h; exact kept_ite_ended (ended_finishDrives (worked_setArbiter (.refl s) _))
  case powerReturnTimerExpiry =>
    cases h; exact kept_ite_ended (ended_finishDrives (worked_setArbiter (.refl s) _))
  case startConfirmExpiry p =>
    cases h; exact kept_ite_ended (ended_finishDrives (worked_startConfirmExpired (.refl s) p))
  case stopConfirmExpiry p =>
    cases h; exact kept_ite_ended (ended_finishDrives (worked_stopConfirmExpired (.refl s) p))
  case overcurrentTimerExpiry p =>
    cases h; exact kept_ite_ended (ended_finishDrives (worked_overcurrentReached (.refl s) p))
  case travelTimerExpiry r =>
    cases h; exact kept_ite_ended (ended_finishDrives (worked_travelExpired (.refl s) r))
  case jamCurrentTimerExpiry r =>
    cases h; exact kept_ite_ended (ended_finishDrives (worked_jamCurrentReached (.refl s) r))
  case reverseTimerExpiry r =>
    cases h; exact kept_ite_ended (ended_finishDrives (worked_reverseExpired (.refl s) r))
  case renotifyTimerExpiry n =>
    cases h; exact kept_ite_ended (ended_flushNotices (worked_repeatAlarm (.refl s) n))
  case summaryTimerExpiry =>
    cases h
    exact kept_ite_ended (ended_flushNotices (worked_noteSummary (worked_setReport (.refl s) _)
      (isNotice_notice ..)))
  case settlingTimerExpiry =>
    cases h
    exact kept_ite_ended (ended_finishDrives <| worked_startPowerReturn <| worked_shedCheck <|
      worked_eachSide (fun r _ hu => worked_judgeRakeMode hu r) <|
      worked_eachPump (fun p _ hu => worked_judgePumpMode hu p) (worked_setTables (.refl s) _))
  case writeCompletion b => cases h; exact kept_ite_ended (ended_finishAlarms (worked_completeWrite (.refl s) b))
  case runningSeconds =>
    cases h
    exact Kept.trans (kept_setChip { s.chip with uptime := s.chip.uptime + 1, millis := 0 } s rfl rfl)
      (Worked.ended (worked_setClock (.refl _) _) rfl).kept
  case resetAsserted =>
    cases h
    exact (kept_setChip { s.chip with resetLow := true } s rfl rfl).trans (kept_setTables _ _)
  case mainPowerLost =>
    cases h
    exact (kept_setChip { s.chip with mainPower := false } s rfl rfl).trans (kept_setTables _ _)
  all_goals cases hreq

end Sys2Proof.Proofs
end

section
/-! PROOF. What every command keeps: the queue of commands, what the straps read as, and the truth of the queues;
what a start sets of them; and which commands answer. -/

namespace Sys2Proof.Proofs

open Sys2Proof.Machine Sys2Proof.Safety Sys2Proof.Laws

variable {s t u : State}

/-! ### Starts -/

/-- The commands that start the controller with the straps read as `addr` and `rate` (R1, R176, R177). -/
def StartsWith (c : Instr) (addr : Byte) (rate : BitVec 2) : Prop :=
  (∃ held, c = .powerUp addr rate held) ∨ c = .resetRelease addr rate ∨ c = .restartBegin addr rate

theorem chip_restoreTable (s : State) (i : TableId) : (restoreTable s i).chip = s.chip := by
  unfold restoreTable; split <;> rfl

theorem chip_restoreTables (s : State) : (restoreTables s).chip = s.chip := by
  unfold restoreTables
  exact foldl_view State.chip restoreTable chip_restoreTable _ _

/-- The chip once a start has read the straps. -/
theorem chip_start (addr : Byte) (rate : BitVec 2) (s : State) :
    (start addr rate s).chip = { s.chip with
      mainPower := true, resetLow := false, ownAddress := strapAddress addr, rate := rate
      checkAgrees := true } := by
  refine (ended_start addr rate s).worked.chip.trans ?_
  change (startBase addr rate s).chip = _
  unfold startBase
  rw [chip_restoreTables]
  split <;> rfl

/-- A command keeps what a command keeps, or it is a start that begins. -/
theorem kept_or_start {c : Instr} (h : exec c s = .next t) :
    Kept s t ∨ ∃ addr rate u, StartsWith c addr rate ∧ u.pending = s.pending ∧ t = start addr rate u := by
  cases hreq : requestOf c with
  | some x =>
    obtain ⟨src, tag, r⟩ := x
    rw [exec_request hreq] at h
    cases h
    exact .inl (kept_request src tag r s)
  | none =>
    by_cases hstart : ∃ addr rate, StartsWith c addr rate
    · obtain ⟨addr, rate, ⟨held, rfl⟩ | rfl | rfl⟩ := hstart
      · simp only [exec, execPowerUp, Host.Outcome.next.injEq] at h
        split at h
        · exact .inl (h ▸ kept_setChip _ s rfl rfl)
        · refine .inr ⟨addr, rate, _, .inl ⟨held, rfl⟩, ?_, h.symm⟩
          rfl
      · simp only [exec, execResetRelease, Host.Outcome.next.injEq] at h
        split at h
        · exact .inr ⟨addr, rate, s, .inr (.inl rfl), rfl, h.symm⟩
        · exact .inl (h ▸ kept_setChip _ s rfl rfl)
      · simp only [exec, execRestartBegin, Host.Outcome.next.injEq] at h
        split at h
        · exact .inr ⟨addr, rate, s, .inr (.inr rfl), rfl, h.symm⟩
        · exact .inl (h ▸ .refl s)
    · refine .inl (kept_exec_event hreq ?_ ?_ ?_ h)
      · exact fun a r b hc => hstart ⟨a, r, .inl ⟨b, hc⟩⟩
      · exact fun a r hc => hstart ⟨a, r, .inr (.inl hc)⟩
      · exact fun a r hc => hstart ⟨a, r, .inr (.inr hc)⟩

/-! ### The invariant of the queues -/

theorem exec_keeps_queuesTrue {c : Instr} (hq : QueuesTrue s) (h : exec c s = .next t) : QueuesTrue t := by
  rcases kept_or_start h with hk | ⟨addr, rate, u, -, -, ht⟩
  · exact hk.queues hq
  · exact ht ▸ queuesTrue_start addr rate u

/-- The queue of commands is no part of the invariant. -/
theorem queuesTrue_setPending (hq : QueuesTrue s) (p : List Instr) : QueuesTrue { s with pending := p } := by
  obtain ⟨hl, ho⟩ := queuesTrue_iff.mp hq
  exact queuesTrue_iff.mpr ⟨hl, ho⟩

/-- Settles O54, by what each shared operation keeps of the line's invariant inside an event (`LineTrue`). -/
theorem everyStepKeepsTheQueuesTrue : Obligations.EveryStepKeepsTheQueuesTrue := by
  intro s t hq h
  unfold step at h
  split at h
  · cases h
    exact (kept_setChip (tick s).chip s rfl rfl).queues hq
  · exact exec_keeps_queuesTrue (queuesTrue_setPending hq _) h

/-! ### The straps (R1) -/

/-- Settles O2: every other command keeps what the straps read as. -/
theorem strapsAreReadAtStartsAlone : Obligations.StrapsAreReadAtStartsAlone := by
  intro c s t h
  rcases kept_or_start h with hk | ⟨addr, rate, u, hc, -, ht⟩
  · exact .inl ⟨hk.address, hk.rate⟩
  · refine .inr ⟨addr, rate, hc, ?_, ?_⟩
    · rw [ht, chip_start]
    · rw [ht, chip_start]; rfl

/-! ### Answers -/

/-- Every command is answered with a next state, but for a frame that is not good (log 26). -/
theorem exec_answers (c : Instr) (s : State) :
    (∃ t, exec c s = .next t) ∨ ∃ f, c = .frameReceived f ∧ f.good = false := by
  cases c
  case frameReceived f =>
    cases hf : f.good
    · exact .inr ⟨f, rfl, hf⟩
    · exact .inl ⟨_, if_pos hf⟩
  case characterError e => cases e <;> exact .inl ⟨_, rfl⟩
  all_goals exact .inl ⟨_, rfl⟩

theorem exec_frameReceived_bad {f : Frame} (hf : f.good = false) (s : State) :
    exec (.frameReceived f) s = .fault .notAGoodFrame :=
  if_neg (by simp [hf])

theorem pending_exec {c : Instr} (h : exec c s = .next t) : t.pending = s.pending := by
  rcases kept_or_start h with hk | ⟨addr, rate, u, -, hu, ht⟩
  · exact hk.pending
  · exact ht ▸ (pending_start addr rate u).trans hu

/-- Settles O3. -/
theorem everyGoodCommandIsAnswered : Obligations.EveryGoodCommandIsAnswered := by
  refine ⟨fun c s t => pending_exec, fun c s hc => ?_, fun f s hf => exec_frameReceived_bad hf s,
    fun c s r hr => ?_⟩
  · rcases exec_answers c s with h | ⟨f, rfl, hf⟩
    · exact h
    · simp [Instr.wellFormed, hf] at hc
  · rcases exec_answers c s with ⟨t, ht⟩ | ⟨f, rfl, hf⟩
    · rw [ht] at hr; cases hr
    · rw [exec_frameReceived_bad hf] at hr; cases hr

end Sys2Proof.Proofs
end

section
/-! PROOF. The transmitter's frame reported sent, or cut off by a break; Hold Out judged. -/

namespace Sys2Proof.Proofs

open Sys2Proof.Machine Sys2Proof.Safety Sys2Proof.Laws

variable {s t u : State}

/-! ### Hold Out (R13, R14) -/

/-- Hold Out judged, in one equation (R13). -/
theorem judgeHoldOut_eq (s : State) : judgeHoldOut s = { s with loop := { s.loop with
    holdOut :=
      if s.loop.holdOut = .released then
        if s.upper ≤ fill s.transit.queue then .asserted else .released
      else if fill s.transit.queue ≤ s.lower then .released else s.loop.holdOut
    restrobe :=
      if s.loop.holdOut = .released ∧ s.upper ≤ fill s.transit.queue then 0 else s.loop.restrobe } } := by
  obtain ⟨pending, chip, loop, transit, points, flow, arbiter, seq, screens, spill, alarms, report, clock,
    handler, tables⟩ := s
  unfold judgeHoldOut
  cases hh : loop.holdOut <;> dsimp only <;> split <;> simp_all <;> cases loop <;> simp_all

/-- A completed frame counted toward the re-strobe (R14, log 24). -/
theorem loop_countCompleted (s : State) : (countCompleted s).loop =
    match s.loop.holdOut with
    | .released => s.loop
    | .strobe => { s.loop with restrobe := s.loop.restrobe + 1 }
    | .asserted =>
      if s.restrobeN ≤ s.loop.restrobe + 1 then { s.loop with holdOut := .strobe, restrobe := 0 }
      else { s.loop with restrobe := s.loop.restrobe + 1 } := by
  unfold countCompleted
  cases s.loop.holdOut
  · rfl
  · dsimp only; split <;> rfl
  · rfl

/-! ### A frame sent (R3, R24, R31) -/

theorem frameSent_transit {f : Frame} (h : s.loop.tx = .transit f) :
    frameSent s = judgeHoldOut { s with
      loop := { s.loop with tx := .idle }, transit := { s.transit with queue := s.transit.queue.tail } } := by
  simp only [frameSent, h, dropTransitHead]

theorem frameSent_own {o : OwnFrame} {f : Frame} {m : Bool} (h : s.loop.tx = .own o f m) :
    frameSent s = noteResponseSent o { s with
      loop := { s.loop with tx := .idle }
      transit := { s.transit with lap := s.transit.lap ++ [⟨o, f, m, s.nowMs⟩] } } := by
  simp only [frameSent, h]; rfl

/-- A response reported sent is noted where a restart waits for it (R177). -/
theorem noteResponseSent_eq (o : OwnFrame) (s : State) :
    noteResponseSent o s = { s with handler := match o.ref with
      | .response _ true => { s.handler with
          restart := s.handler.restart.map fun x => { x with responseGone := true } }
      | _ => s.handler } := by
  unfold noteResponseSent
  cases o.ref with
  | command | notice => rfl
  | response tag b => cases b <;> rfl

/-- Settles O11. -/
theorem frameSentLeavesQueueOrMakesLapEntry : Obligations.FrameSentLeavesQueueOrMakesLapEntry := by
  intro s hon
  have hexec : exec .frameSent s = .next (frameSent s) := by simp [exec, execFrameSent, hon]
  refine ⟨fun f htx => ?_, fun o f m htx => ?_, fun htx => ?_⟩
  · refine ⟨_, hexec, ?_⟩
    rw [frameSent_transit htx, judgeHoldOut_eq]
    exact ⟨rfl, rfl, rfl⟩
  · refine ⟨_, hexec, ?_⟩
    rw [frameSent_own htx, noteResponseSent_eq]
    exact ⟨rfl, rfl, rfl, rfl⟩
  · rw [hexec]
    rcases htx with htx | htx <;> simp [frameSent, htx]

/-! ### A break detected (R8, R9) -/

/-- The loop port at a break, the frame being sent apart (R8). -/
def broken (s : State) : LoopPort := { s.loop with
  assembler := .brk
  deferred := false
  gapTimer := none
  breakReset := false
  tx := .breakHold
  line := { s.loop.line with
    breakAborts := match s.loop.assembler with
      | .inFrame _ => inc16 s.loop.line.breakAborts
      | _ => s.loop.line.breakAborts } }

theorem enterBreak_eq (s : State) : enterBreak s = { s with loop := { broken s with tx := s.loop.tx } } := by
  unfold enterBreak countBreakAbort setBreak broken
  split <;> simp_all [State.countLine]

/-- Nothing being sent, a break takes the line and no more. -/
theorem cutOff_enterBreak_idle (h : s.loop.tx = .idle ∨ s.loop.tx = .breakHold) :
    cutOff (enterBreak s) = { s with loop := broken s } := by
  rw [enterBreak_eq]
  rcases h with h | h <;> simp only [cutOff, h] <;> rfl

/-- A transit frame being sent is lost to the break and leaves its queue (R9). -/
theorem cutOff_enterBreak_transit {f : Frame} (h : s.loop.tx = .transit f) :
    cutOff (enterBreak s) = judgeHoldOut { s with
      loop := { broken s with
        line := { (broken s).line with lostToBreak := inc16 s.loop.line.lostToBreak } }
      transit := { s.transit with queue := s.transit.queue.tail } } := by
  rw [enterBreak_eq]
  simp only [cutOff, h]
  rfl

/-- An own frame being sent goes back to its class (R9). -/
theorem cutOff_enterBreak_own {o : OwnFrame} {f : Frame} {m : Bool} (h : s.loop.tx = .own o f m) :
    cutOff (enterBreak s) = returnOwn o m { s with loop := broken s } := by
  rw [enterBreak_eq]
  simp only [cutOff, h]
  rfl

theorem returnOwn_eq (o : OwnFrame) (m : Bool) (s : State) :
    returnOwn o m s = { s with transit := match o.ref with
      | .command _ _ _ =>
        if m then s.transit else { s.transit with actuator := o :: s.transit.actuator }
      | .notice _ _ => { s.transit with notice := o :: s.transit.notice }
      | .response _ _ => { s.transit with response := o :: s.transit.response } } := by
  unfold returnOwn
  cases o.ref <;> dsimp only
  cases m <;> rfl

/-- Settles O6. -/
theorem breakCutsOffTheFrameBeingSent : Obligations.BreakCutsOffTheFrameBeingSent := by
  intro s hon hbrk
  have hexec : exec .breakDetected s = .next (cutOff (enterBreak s)) := by
    simp [exec, execBreakDetected, hon, hbrk]
  refine ⟨_, hexec, ?_⟩
  cases htx : s.loop.tx with
  | idle =>
    rw [cutOff_enterBreak_idle (.inl htx)]
    exact ⟨fun _ => rfl, fun _ => rfl, by simp, by simp, rfl⟩
  | breakHold =>
    rw [cutOff_enterBreak_idle (.inr htx)]
    exact ⟨fun _ => rfl, fun _ => rfl, by simp, by simp, rfl⟩
  | transit f =>
    rw [cutOff_enterBreak_transit htx, judgeHoldOut_eq]
    exact ⟨fun h => absurd rfl (h f), by simp, fun _ _ => ⟨rfl, rfl⟩, by simp, rfl⟩
  | own o f m =>
    rw [cutOff_enterBreak_own htx, returnOwn_eq]
    refine ⟨fun _ => rfl, by simp, by simp, ?_, rfl⟩
    rintro o' f' m' ⟨⟩
    rfl

end Sys2Proof.Proofs
end

section
/-! PROOF. What a statement of a condition does to the alarm list, and what the end of an event leaves of it; the
hold lines and the loop health. -/

namespace Sys2Proof.Proofs

open Sys2Proof.Machine Sys2Proof.Safety Sys2Proof.Laws

variable {s t u : State}

/-! ### The alarm list (R153, R154) -/

@[simp] theorem alarms_flushNotices (s : State) : (flushNotices s).alarms = s.alarms := by
  unfold flushNotices
  refine (foldl_view State.alarms (fun u o => postNotice o u) (fun u o => ?_) _ _).trans rfl
  unfold postNotice
  repeat' split
  all_goals rfl

/-- The end of an event leaves the alarm list. -/
@[simp] theorem entries_finishAlarms (s : State) :
    (finishAlarms s).alarms.entries = s.alarms.entries := by
  simp only [finishAlarms, alarms_flushNotices]
  unfold judgeAnnunciator
  split
  · rfl
  · simp [postAnnunciate]

@[simp] theorem alarm_finishAlarms (n : Nat) (s : State) : (finishAlarms s).alarm n = s.alarm n := by
  simp [State.alarm]

/-- An entry number that the alarm list holds (R153). -/
def Listed (s : State) (n : Nat) : Prop := 1 ≤ n ∧ n ≤ s.alarms.entries.length

theorem Listed.setAlarm {n : Nat} (h : Listed s n) (m : Nat) (e : AlarmEntry) : Listed (s.setAlarm m e) n := by
  simpa [Listed] using h

theorem alarm_setAlarm_self {n : Nat} (h : Listed s n) (e : AlarmEntry) : (s.setAlarm n e).alarm n = e := by
  rw [State.alarm_setAlarm (hm := h.1) (hlen := h.2) (hn := h.1), if_pos rfl]

theorem entries_changeAlarm (n : Nat) (st : AlarmState) (s : State) :
    (changeAlarm n st s).alarms.entries = (s.setAlarm n (changedEntry n st s)).alarms.entries := by
  unfold changeAlarm notifyChange wakeHorn
  repeat' split
  all_goals rfl

theorem alarm_changeAlarm {n : Nat} (h : Listed s n) (st : AlarmState) :
    (changeAlarm n st s).alarm n = changedEntry n st s := by
  rw [State.alarm, entries_changeAlarm]
  exact alarm_setAlarm_self h _

/-- Where an entry follows its condition it stays, or it changes state (R154). -/
theorem followCondition_cases (n : Nat) (b : Bool) (s : State) :
    followCondition n b s = s ∨ ∃ st, followCondition n b s = changeAlarm n st s := by
  unfold followCondition conditionAppears conditionClears
  split
  · exact .inl rfl
  · split
    · split
      exacts [.inr ⟨_, rfl⟩, .inr ⟨_, rfl⟩, .inl rfl, .inl rfl]
    · split
      exacts [.inr ⟨_, rfl⟩, .inr ⟨_, rfl⟩, .inl rfl, .inl rfl]

/-- The condition of an entry is as its owner states it (R154). -/
theorem condition_stateCondition {n : Nat} (h : Listed s n) (b : Bool) :
    ((stateCondition n b s).alarm n).condition = b := by
  unfold stateCondition
  split
  · assumption
  · have hl := h.setAlarm n { s.alarm n with condition := b }
    rcases followCondition_cases n b (s.setAlarm n { s.alarm n with condition := b }) with hf | ⟨st, hf⟩
    · rw [hf, alarm_setAlarm_self h]
    · rw [hf, alarm_changeAlarm hl, changedEntry, alarm_setAlarm_self h]

/-- An enabled condition that appears at a NORMAL entry changes its state (R154). -/
theorem stateCondition_appears {n : Nat} (h : Listed s n) (hc : (s.alarm n).condition = false)
    (hs : (s.alarm n).state = .normal) (hp : s.priority n ≠ 0) :
    stateCondition n true s =
      changeAlarm n .activeUnack (s.setAlarm n { s.alarm n with condition := true }) := by
  have hp' : (s.setAlarm n { s.alarm n with condition := true }).priority n ≠ 0 := hp
  rw [stateCondition, if_neg (by simp [hc]), followCondition, if_neg hp', if_pos rfl, conditionAppears,
    alarm_setAlarm_self h]
  simp only [hs]

/-- An enabled condition that appears at a NORMAL entry raises it (R154, R155, R159). -/
theorem alarm_stateCondition_raised {n : Nat} (h : Listed s n) (hc : (s.alarm n).condition = false)
    (hs : (s.alarm n).state = .normal) (hp : s.priority n ≠ 0) :
    (stateCondition n true s).alarm n =
      { condition := true, state := .activeUnack, firstActive := some s.clockTime
        lastChange := some s.clockTime, count := addSat 255 (s.alarm n).count 1
        renotify := s.renotifyAfter n .activeUnack } := by
  have hl := h.setAlarm n { s.alarm n with condition := true }
  rw [stateCondition_appears h hc hs hp, alarm_changeAlarm hl, changedEntry, alarm_setAlarm_self h, hs]
  rfl

/-! ### Agreement outside the drives -/

theorem loop_of_outsideDrives (h : outsideDrives t = outsideDrives s) :
    { t.loop with tx := unmarkedTx t.loop.tx } = { s.loop with tx := unmarkedTx s.loop.tx } :=
  congrArg State.loop h

/-- Agreement outside the drives does not turn on the loop port and the chip when both are replaced. -/
theorem outsideDrives_setChip_setLoop (h : outsideDrives t = outsideDrives u) (x : Chip) (l : LoopPort) :
    outsideDrives { t with chip := x, loop := l } = outsideDrives { u with chip := x, loop := l } :=
  congrArg (fun v : State => { v with chip := x, loop := { l with tx := unmarkedTx l.tx } }) h

theorem outsideDrives_setLoop (h : outsideDrives t = outsideDrives u) (l : LoopPort) :
    outsideDrives { t with loop := l } = outsideDrives { u with loop := l } :=
  congrArg (fun v : State => { v with loop := { l with tx := unmarkedTx l.tx } }) h

/-! ### Hold In and the stall timer (R11, R12) -/

theorem exec_holdInAsserted (hon : s.on = true) :
    exec .holdInAsserted s = .next { s with
      chip := { s.chip with holdIn := true }
      loop := { s.loop with
        stallTimer := if s.chip.holdIn then s.loop.stallTimer else some s.now } } := by
  simp only [exec, execHoldInAsserted, hon]
  cases s.chip.holdIn <;> rfl

/-- The alarm list holds entry 23, LOOP_STALL (R153). -/
theorem listed_loopStall (h : Shapes s) (hu : u.alarms = s.alarms) : Listed u 23 :=
  ⟨by omega, by rw [hu, h.alarms]; omega⟩

/-- The release of Hold In stops the stall timer and clears LOOP_STALL (R12). -/
theorem holdInReleased_clears_loopStall (hon : s.on = true) (h : Shapes s) :
    ∃ t, exec .holdInReleased s = .next t ∧
      t.chip = { s.chip with holdIn := false } ∧ t.loop.stallTimer = none ∧
      t.loop.loopStall = false ∧ (t.alarm 23).condition = false ∧
      outsideDrives { t with chip := s.chip, loop := s.loop } = outsideDrives s := by
  have hexec : exec .holdInReleased s = .next (finishAlarms (stateCondition 23 false { s with
      chip := { s.chip with holdIn := false }
      loop := { s.loop with stallTimer := none, loopStall := false } })) := by
    simp [exec, execHoldInReleased, hon]
  refine ⟨_, hexec, ?_⟩
  generalize hu : ({ s with
    chip := { s.chip with holdIn := false }
    loop := { s.loop with stallTimer := none, loopStall := false } } : State) = u
  have hframe : outsideDrives (finishAlarms (stateCondition 23 false u)) = outsideDrives u := by simp
  have hlisted : Listed u 23 := listed_loopStall h (by rw [← hu])
  have hloop := loop_of_outsideDrives hframe
  refine ⟨(chip_of_outsideDrives hframe).trans (by rw [← hu]), ?_, ?_, ?_, ?_⟩
  · simpa [← hu] using congrArg LoopPort.stallTimer hloop
  · simpa [← hu] using congrArg LoopPort.loopStall hloop
  · rw [alarm_finishAlarms, condition_stateCondition hlisted]
  · refine (outsideDrives_setChip_setLoop hframe s.chip s.loop).trans ?_
    rw [← hu]

/-- The expiry of the stall timer makes LOOP_STALL present, once (R12). -/
theorem stallTimerExpiry_raises_loopStall (hon : s.on = true) (h : Shapes s)
    (htimer : s.loop.stallTimer.isSome = true) (hstall : s.loop.loopStall = false) :
    ∃ t, exec .stallTimerExpiry s = .next t ∧
      t.loop.loopStall = true ∧ t.loopHealth = .stalled ∧ (t.alarm 23).condition = true ∧
      ((s.alarm 23).condition = false → (s.alarm 23).state = .normal → s.priority 23 ≠ 0 →
        (t.alarm 23).state = .activeUnack ∧ (t.alarm 23).firstActive = some s.clockTime ∧
        (t.alarm 23).count = min 255 ((s.alarm 23).count + 1)) ∧
      outsideDrives { t with loop := s.loop } = outsideDrives s := by
  have hexec : exec .stallTimerExpiry s = .next (finishAlarms (stallReached s)) := by
    simp [exec, execStallTimerExpiry, hon, htimer, hstall]
  refine ⟨_, hexec, ?_⟩
  unfold stallReached
  generalize hu : ({ s with loop := { s.loop with loopStall := true } } : State) = u
  have hframe : outsideDrives (finishAlarms (stateCondition 23 true u)) = outsideDrives u := by simp
  have hlisted : Listed u 23 := listed_loopStall h (by rw [← hu])
  have hpresent : (finishAlarms (stateCondition 23 true u)).loop.loopStall = true := by
    simpa [← hu] using congrArg LoopPort.loopStall (loop_of_outsideDrives hframe)
  refine ⟨hpresent, if_pos hpresent, ?_, fun hc hs hp => ?_, ?_⟩
  · rw [alarm_finishAlarms, condition_stateCondition hlisted]
  · have hraised := alarm_stateCondition_raised hlisted (hu ▸ hc) (hu ▸ hs) (hu ▸ hp)
    rw [alarm_finishAlarms, hraised, ← hu]
    exact ⟨rfl, rfl, rfl⟩
  · refine (outsideDrives_setLoop hframe s.loop).trans ?_
    rw [← hu]

/-! ### The obligation -/

theorem exec_strobeEnd (hon : s.on = true) : exec .strobeEnd s = .next { s with loop := { s.loop with
    holdOut := if s.loop.holdOut = .strobe then .asserted else s.loop.holdOut } } := by
  simp only [exec, execStrobeEnd, hon, true_and]
  split <;> rfl

/-- The loop health once its timer has expired (R16). -/
theorem exec_loopHealthTimerExpiry (hon : s.on = true) :
    ∃ t, exec .loopHealthTimerExpiry s = .next t ∧
      t = { s with loop := { s.loop with healthTimer := none } } ∧
      t.loopHealth = if s.loop.loopStall then .stalled else .good := by
  refine ⟨_, by simp only [exec, execLoopHealthTimerExpiry, hon, if_true], rfl, ?_⟩
  unfold State.loopHealth
  cases s.loop.loopStall <;> rfl

/-- Settles O9. -/
theorem holdLinesAndHealthFollowTheirRules : Obligations.HoldLinesAndHealthFollowTheirRules :=
  ⟨fun _ hon h => ⟨exec_holdInAsserted hon, holdInReleased_clears_loopStall hon h,
      stallTimerExpiry_raises_loopStall hon h⟩,
    fun s => congrArg State.loop (judgeHoldOut_eq s), loop_countCompleted,
    fun _ hon => exec_strobeEnd hon, fun _ hon => exec_loopHealthTimerExpiry hon⟩

end Sys2Proof.Proofs
end

section
/-! PROOF. A loop reset: what it empties, clears and releases. -/

namespace Sys2Proof.Proofs

open Sys2Proof.Machine Sys2Proof.Safety Sys2Proof.Laws

variable {s t u : State}

/-! ### A loop reset (R10, R37, R168) -/

theorem get_perTable_map {α : Type} (f : α → α) (x : PerTable α) (i : TableId) :
    (x.map f).get i = f (x.get i) := by cases i <;> rfl

/-- A shadow being loaded is emptied by a loop reset; every other stands (R168). -/
theorem afterLoopReset_cases (x : Shadow) :
    ((∃ l, x = .loading l) → x.afterLoopReset = .empty) ∧
      ((∀ l, x ≠ .loading l) → x.afterLoopReset = x) := by
  cases x <;> simp [Shadow.afterLoopReset]

theorem exec_loopReset (hon : s.on = true) (hbrk : s.loop.assembler = .brk) :
    exec .loopReset s = .next (if s.loop.breakReset then s else loopResetNow s) := by
  cases hr : s.loop.breakReset <;> simp [exec, execLoopReset, hon, hbrk, hr]

/-- Settles O7. -/
theorem loopResetClearsTheTraffic : Obligations.LoopResetClearsTheTraffic := by
  intro s hon hbrk
  have hexec := exec_loopReset hon hbrk
  refine ⟨fun hr => by rw [hexec, if_pos hr], fun hr => ⟨loopResetNow s, ?_, ?_⟩⟩
  · rw [hexec, if_neg (by simp [hr])]
  · refine ⟨rfl, rfl, rfl, rfl, rfl, rfl, rfl, rfl, fun i hi => ?_, fun i hi => ?_, rfl, rfl, rfl, rfl, rfl, rfl,
      rfl, rfl, rfl, rfl, rfl⟩
    · exact (get_perTable_map _ s.tables.shadows i).trans ((afterLoopReset_cases _).1 hi)
    · exact (get_perTable_map _ s.tables.shadows i).trans ((afterLoopReset_cases _).2 hi)

end Sys2Proof.Proofs
end

section
/-! PROOF. The end of a break, and the refresh after a long one, as a fold over the actuators. -/

namespace Sys2Proof.Proofs

open Sys2Proof.Machine Sys2Proof.Safety Sys2Proof.Laws

variable {s t u : State}

/-! ### A posted command and the others of its class (R26) -/

theorem isFor_commandFrame {e : GateEntry} {a : Actuator} (he : s.gateEntry a = some e) (c : CommandCode)
    (g : Byte) (n : Nat) (b : Actuator) : (commandFrame e c g n).isFor b = decide (a = b) := by
  have hd : e.drive = a := by simpa using List.find?_some he
  subst hd
  rfl

/-- Posting a command for one actuator leaves those for another. -/
theorem filter_commandPosted {a b : Actuator} (hab : a ≠ b) {e : GateEntry} (he : s.gateEntry a = some e)
    (c : CommandCode) (g : Byte) (n : Option Nat) (q : List OwnFrame) :
    (commandPosted e a c g n q).filter (OwnFrame.isFor b) = q.filter (OwnFrame.isFor b) := by
  have hone : ∀ o : OwnFrame, o.isFor a = true → o.isFor b = false := by
    intro o
    unfold OwnFrame.isFor
    cases o.ref <;> simp
    rintro rfl
    exact hab
  unfold commandPosted
  split
  · clear * - hone hab
    induction q with
    | nil => rfl
    | cons o q ih =>
      rw [List.map_cons, List.filter_cons, List.filter_cons, ih]
      cases ho : o.isFor a
      · rfl
      · simp [isFor_recommand, hone o ho, hab]
  · rw [List.filter_append]
    simp [isFor_commandFrame he, hab]

theorem actuator_postCommand (a : Actuator) (c : CommandCode) (g : Byte) (n : Option Nat) (s : State) :
    (postCommand a c g n s).transit.actuator =
      match s.gateEntry a with
      | none => s.transit.actuator
      | some e => commandPosted e a c g n s.transit.actuator := by
  unfold postCommand
  cases s.gateEntry a <;> rfl

theorem filter_postCommand {a b : Actuator} (hab : a ≠ b) (c : CommandCode) (g : Byte) (n : Option Nat)
    (s : State) : (postCommand a c g n s).transit.actuator.filter (OwnFrame.isFor b) =
      s.transit.actuator.filter (OwnFrame.isFor b) := by
  rw [actuator_postCommand]
  split
  · rfl
  · exact filter_commandPosted hab ‹_› ..

/-- A posted command stands in its class with its code and argument. -/
theorem mem_postCommand {a : Actuator} (c : CommandCode) (g : Byte) (n : Option Nat)
    (h : (s.gateEntry a).isSome = true) :
    ∃ o ∈ (postCommand a c g n s).transit.actuator, o.ref = .command a c g := by
  obtain ⟨e, he⟩ := Option.isSome_iff_exists.mp h
  have hd : e.drive = a := by simpa using List.find?_some he
  rw [actuator_postCommand, he]
  dsimp only
  unfold commandPosted
  split
  · rename_i hany
    obtain ⟨o, ho, hf⟩ := List.any_eq_true.mp hany
    exact ⟨_, List.mem_map.mpr ⟨o, ho, rfl⟩, by simp [hf, OwnFrame.recommand]⟩
  · exact ⟨commandFrame e c g (n.getD 0), by simp, by simp [commandFrame, hd]⟩

/-- With no frame being sent, a posted command leaves the loop port. -/
theorem loop_postCommand (htx : s.loop.tx = .idle) (a : Actuator) (c : CommandCode) (g : Byte)
    (n : Option Nat) : (postCommand a c g n s).loop = s.loop := by
  unfold postCommand
  split
  · rfl
  · obtain ⟨pending, chip, loop, transit⟩ := s
    cases loop
    cases htx
    rfl

/-! ### The present command of an actuator posted (R38) -/

/-- The present command of an actuator, with its argument (R38). -/
def presentCommand (s : State) : Actuator → CommandCode × Byte
  | .pump p => ((s.pump p).command, 0)
  | .rake r => ((s.rake r).command, 0)
  | .annunciator => (.annunciate, s.annMode.code)

theorem loop_postPresent (htx : s.loop.tx = .idle) (a : Actuator) : (postPresent a s).loop = s.loop := by
  cases a with
  | pump p => exact loop_postCommand (s := s.setPump p { s.pump p with confirmed := false }) htx ..
  | rake r => exact loop_postCommand (s := s.setRake r { s.rake r with confirmed := false }) htx ..
  | annunciator =>
    exact loop_postCommand
      (s := { s with alarms := { s.alarms with posted := some s.annMode, confirmed := false } }) htx ..

theorem outsideDrives_postPresent (a : Actuator) (s : State) :
    outsideDrives (postPresent a s) = outsideDrives s := by
  cases a <;> simp [postPresent]

theorem pump_postPresent (a : Actuator) (s : State) (p : Pump) : (postPresent a s).pump p =
    if a = .pump p then { s.pump p with confirmed := false } else s.pump p := by
  cases a with
  | pump q => simp only [postPresent, pump_postPump, Actuator.pump.injEq, eq_comm (a := q)]; split <;> simp_all
  | rake r => simp [postPresent]
  | annunciator => simp [postPresent, postAnnunciate, State.pump]

theorem rake_postPresent (a : Actuator) (s : State) (r : Side) : (postPresent a s).rake r =
    if a = .rake r then { s.rake r with confirmed := false } else s.rake r := by
  cases a with
  | pump q => simp [postPresent]
  | rake x => simp only [postPresent, rake_postRake, Actuator.rake.injEq, eq_comm (a := x)]; split <;> simp_all
  | annunciator => simp [postPresent, postAnnunciate, State.rake]

theorem alarms_postPresent (a : Actuator) (s : State) : (postPresent a s).alarms =
    if a = .annunciator then { s.alarms with posted := some s.annMode, confirmed := false } else s.alarms := by
  cases a <;> simp [postPresent, postPump, postRake, postAnnunciate]

theorem mem_postPresent {a : Actuator} (h : (s.gateEntry a).isSome = true) :
    ∃ o ∈ (postPresent a s).transit.actuator,
      o.ref = .command a (presentCommand s a).1 (presentCommand s a).2 := by
  cases a <;> exact mem_postCommand _ _ _ h

theorem filter_postPresent {a b : Actuator} (hab : a ≠ b) (s : State) :
    (postPresent a s).transit.actuator.filter (OwnFrame.isFor b) =
      s.transit.actuator.filter (OwnFrame.isFor b) := by
  cases a <;> exact filter_postCommand hab ..

/-! ### The refresh (R38) -/

/-- The refresh posts for an actuator: its gate entry is OWNED (R38). -/
def Refreshes (s : State) (a : Actuator) : Prop := (s.gateEntry a).isSome = true ∧ s.owned a = true

/-- `t` is `s` once the actuators `done` are refreshed. -/
structure Refreshed (s : State) (done : List Actuator) (t : State) : Prop where
  loop : t.loop = s.loop
  frame : outsideDrives t = outsideDrives s
  entries : t.alarms.entries = s.alarms.entries
  silence : t.alarms.silence = s.alarms.silence
  pump : ∀ p, t.pump p = s.pump p ∨ t.pump p = { s.pump p with confirmed := false }
  rake : ∀ r, t.rake r = s.rake r ∨ t.rake r = { s.rake r with confirmed := false }
  pumpDone : ∀ p, .pump p ∈ done → Refreshes s (.pump p) → (t.pump p).confirmed = false
  rakeDone : ∀ r, .rake r ∈ done → Refreshes s (.rake r) → (t.rake r).confirmed = false
  annDone : .annunciator ∈ done → Refreshes s .annunciator → t.alarms.posted = some s.annMode
  waits : ∀ a ∈ done, Refreshes s a → ∃ o ∈ t.transit.actuator,
    o.ref = .command a (presentCommand s a).1 (presentCommand s a).2
  others : ∀ a, ¬Refreshes s a →
    t.transit.actuator.filter (OwnFrame.isFor a) = s.transit.actuator.filter (OwnFrame.isFor a)

theorem Refreshed.nil (s : State) : Refreshed s [] s where
  loop := rfl
  frame := rfl
  entries := rfl
  silence := rfl
  pump _ := .inl rfl
  rake _ := .inl rfl
  pumpDone := by simp
  rakeDone := by simp
  annDone := by simp
  waits := by simp
  others _ _ := rfl

variable {done : List Actuator}

theorem Refreshed.gateEntry (h : Refreshed s done t) (a : Actuator) : t.gateEntry a = s.gateEntry a := by
  unfold State.gateEntry
  rw [gate_of_outsideDrives h.frame]

theorem Refreshed.owned (h : Refreshed s done t) (a : Actuator) : t.owned a = s.owned a := by
  have hauto : t.automatic = s.automatic := by
    unfold State.automatic; rw [tables_of_outsideDrives h.frame]
  cases a with
  | pump p => rcases h.pump p with hp | hp <;> simp [State.owned, hauto, hp]
  | rake r => rcases h.rake r with hr | hr <;> simp [State.owned, hauto, hr]
  | annunciator => exact hauto

theorem Refreshed.refreshes (h : Refreshed s done t) (a : Actuator) : Refreshes t a ↔ Refreshes s a := by
  unfold Refreshes
  rw [h.gateEntry, h.owned]

theorem Refreshed.annMode (h : Refreshed s done t) : t.annMode = s.annMode := by
  unfold State.annMode State.alarm State.priority State.alarmTable
  rw [h.entries, h.silence, tables_of_outsideDrives h.frame]

theorem Refreshed.presentCommand (h : Refreshed s done t) (a : Actuator) :
    presentCommand t a = Proofs.presentCommand s a := by
  cases a with
  | pump p => rcases h.pump p with hp | hp <;> simp [Proofs.presentCommand, hp]
  | rake r => rcases h.rake r with hr | hr <;> simp [Proofs.presentCommand, hr]
  | annunciator => simp [Proofs.presentCommand, h.annMode]

/-- The refresh of one actuator more. -/
theorem Refreshed.step (htx : s.loop.tx = .idle) (h : Refreshed s done t) (a : Actuator) :
    Refreshed s (done ++ [a]) (refreshOne t a) := by
  have hcond : (t.gateEntry a).isSome ∧ t.owned a ↔ Refreshes s a := h.refreshes a
  by_cases ha : Refreshes s a
  · have hone : refreshOne t a = postPresent a t := if_pos (hcond.mpr ha)
    have hmem : ∀ b, b ∈ done ++ [a] ↔ b ∈ done ∨ b = a := by simp
    rw [hone]
    refine { loop := ?_, frame := ?_, entries := ?_, silence := ?_, pump := ?_, rake := ?_, pumpDone := ?_
             rakeDone := ?_, annDone := ?_, waits := ?_, others := ?_ }
    · exact (loop_postPresent (by rw [h.loop, htx]) a).trans h.loop
    · exact (outsideDrives_postPresent a t).trans h.frame
    · rw [alarms_postPresent]; split <;> exact h.entries
    · rw [alarms_postPresent]; split <;> exact h.silence
    · intro p
      rw [pump_postPresent]
      rcases h.pump p with hp | hp <;> rw [hp] <;> split <;> simp
    · intro r
      rw [rake_postPresent]
      rcases h.rake r with hr | hr <;> rw [hr] <;> split <;> simp
    · intro p hp hr
      rw [pump_postPresent]
      split
      · rfl
      · exact h.pumpDone p (((hmem _).mp hp).resolve_right (Ne.symm ‹_›)) hr
    · intro r hr hr'
      rw [rake_postPresent]
      split
      · rfl
      · exact h.rakeDone r (((hmem _).mp hr).resolve_right (Ne.symm ‹_›)) hr'
    · intro hann hr
      rw [alarms_postPresent, h.annMode]
      split
      · rfl
      · exact h.annDone (((hmem _).mp hann).resolve_right (Ne.symm ‹_›)) hr
    · intro b hb hr
      by_cases hab : a = b
      · subst hab
        rw [← h.presentCommand]
        exact mem_postPresent (hcond.mpr ha).1
      · obtain ⟨o, ho, href⟩ := h.waits b (((hmem _).mp hb).resolve_right (Ne.symm hab)) hr
        have hfor : o.isFor b = true := by simp [OwnFrame.isFor, href]
        have hin : o ∈ (postPresent a t).transit.actuator.filter (OwnFrame.isFor b) := by
          rw [filter_postPresent hab]
          exact List.mem_filter.mpr ⟨ho, hfor⟩
        exact ⟨o, (List.mem_filter.mp hin).1, href⟩
    · intro b hb
      have hab : a ≠ b := fun hab => hb (hab ▸ ha)
      exact (filter_postPresent hab t).trans (h.others b hb)
  · have hone : refreshOne t a = t := if_neg (mt hcond.mp ha)
    have hmem : ∀ b, b ∈ done ++ [a] → Refreshes s b → b ∈ done := by
      intro b hb hr
      rcases List.mem_append.mp hb with hb | hb
      · exact hb
      · exact absurd (List.mem_singleton.mp hb ▸ hr) ha
    rw [hone]
    exact { h with
      pumpDone := fun p hp hr => h.pumpDone p (hmem _ hp hr) hr
      rakeDone := fun r hr hr' => h.rakeDone r (hmem _ hr hr') hr'
      annDone := fun ha hr => h.annDone (hmem _ ha hr) hr
      waits := fun b hb hr => h.waits b (hmem b hb hr) hr }

theorem Refreshed.foldl (htx : s.loop.tx = .idle) (h : Refreshed s done t) (as : List Actuator) :
    Refreshed s (done ++ as) (as.foldl refreshOne t) := by
  induction as generalizing done t with
  | nil => simpa using h
  | cons a as ih => simpa using ih (h.step htx a)

/-- What the refresh leaves (R38). -/
theorem refreshed_refresh (htx : s.loop.tx = .idle) : Refreshed s actuators (refresh s) :=
  Refreshed.foldl htx (.nil s) actuators

theorem mem_actuators (a : Actuator) : a ∈ actuators := by
  cases a with
  | pump p => cases p <;> decide
  | rake r => cases r <;> decide
  | annunciator => decide

/-! ### The end of a break (R8, R9, R38) -/

theorem exec_breakEnd (hon : s.on = true) (hbrk : s.loop.assembler = .brk) :
    exec .breakEnd s = .next (if s.loop.breakReset then refresh (lineBack s) else lineBack s) := by
  simp [exec, execBreakEnd, hon, hbrk, breakEnded_eq]

/-- Settles O8, by what the refresh leaves of the state once the line is back. -/
theorem breakEndRefreshesTheOwned : Obligations.BreakEndRefreshesTheOwned := by
  intro s hon hbrk
  refine ⟨_, exec_breakEnd hon hbrk, ?_⟩
  cases hreset : s.loop.breakReset
  · rw [if_neg (by simp)]
    refine ⟨?_, fun _ => ⟨rfl, rfl, rfl, rfl⟩, by simp, fun _ => rfl, fun _ => rfl, rfl⟩
    simp [lineBack, hreset]
  · have h : Refreshed (lineBack s) actuators (refresh (lineBack s)) := refreshed_refresh rfl
    rw [if_pos rfl]
    refine ⟨h.loop.trans (by simp [lineBack, hreset]), by simp, fun _ => ⟨?_, ?_, ?_, ?_⟩, ?_, ?_, ?_⟩
    · intro p hg ho
      obtain ⟨o, hmem, href⟩ := h.waits (.pump p) (mem_actuators _) ⟨hg, ho⟩
      exact ⟨⟨o, hmem, _, href⟩, h.pumpDone p (mem_actuators _) ⟨hg, ho⟩⟩
    · intro r hg ho
      obtain ⟨o, hmem, href⟩ := h.waits (.rake r) (mem_actuators _) ⟨hg, ho⟩
      exact ⟨⟨o, hmem, _, href⟩, h.rakeDone r (mem_actuators _) ⟨hg, ho⟩⟩
    · exact fun hg ho =>
        ⟨h.annDone (mem_actuators _) ⟨hg, ho⟩, h.waits .annunciator (mem_actuators _) ⟨hg, ho⟩⟩
    · intro a ha
      have hback : (lineBack s).owned a = s.owned a := by cases a <;> rfl
      exact h.others a fun ⟨_, ho⟩ => by simp [hback, ha] at ho
    · exact fun p => by rcases h.pump p with hp | hp <;> rw [hp] <;> rfl
    · exact fun r => by rcases h.rake r with hr | hr <;> rw [hr] <;> rfl
    · exact (outsideDrives_setLoop h.frame s.loop).trans rfl

end Sys2Proof.Proofs
end

section
/-! PROOF. The assembler: one equation for each of its states and each ending of a character, an error and a gap. -/

namespace Sys2Proof.Proofs

open Sys2Proof.Machine Sys2Proof.Safety Sys2Proof.Laws

variable {s t u : State}

/-! ### The receiver (R2) -/

theorem seeksStart_iff : s.seeksStart = true ↔
    s.on = true ∧ s.loop.deferred = false ∧ s.loop.assembler ≠ .brk := by
  simp [State.seeksStart, and_assoc]

/-- A character judged good reaches the assembler (R2, R4). -/
theorem exec_characterReceived_good (hs : s.seeksStart = true) (d : Byte) (m : Bool) :
    exec (.characterReceived d (sentEnding d m)) s = .next (takeChar d m (characterJudged s)) := by
  simp only [exec, execCharacterReceived, hs, if_true, receiveChar, judgeChar_sentEnding]
  rfl

/-- Where the receiver seeks no start bit no character is taken (log 4). -/
theorem exec_characterReceived_ignored (hs : s.seeksStart = false) (d : Byte) (e : CharEnding) :
    exec (.characterReceived d e) s = .next s := by
  simp [exec, execCharacterReceived, hs]

/-- With the stop bit at mark and the wrong parity a character is a parity error (R2). -/
theorem exec_characterReceived_parity {d : Byte} {e : CharEnding} (hstop : e.stop = true)
    (hpar : e.parity ≠ parityBit d e.marker) (s : State) :
    exec (.characterReceived d e) s = exec (.characterError .parity) s := by
  have hj : judgeChar d e = .parityError := by simp [judgeChar, hstop, hpar]
  simp only [exec, execCharacterReceived, execCharacterError, receiveChar, hj]

/-- With the stop bit at space judgement is deferred (R2). -/
theorem exec_characterReceived_deferred {d : Byte} {e : CharEnding} (hstop : e.stop = false)
    (hs : s.seeksStart = true) : exec (.characterReceived d e) s = .next (deferJudgement s) := by
  have hj : judgeChar d e = .deferred := by simp [judgeChar, hstop]
  simp only [exec, execCharacterReceived, hs, if_true, receiveChar, hj]

theorem sentEnding_of_parity {d : Byte} {e : CharEnding} (hstop : e.stop = true)
    (hpar : e.parity = parityBit d e.marker) : e = sentEnding d e.marker := by
  obtain ⟨m, p, stop⟩ := e
  simp_all [sentEnding]

/-! ### A good character (R4) -/

theorem takeChar_idle (h : s.loop.assembler = .idle) (d : Byte) (m : Bool) : takeChar d m s =
    if m then s.setAssembler (.inFrame [d])
    else s.countLine fun c => { c with stray := inc16 c.stray } := by
  simp only [takeChar, h]

theorem takeChar_discard (h : s.loop.assembler = .discard) (d : Byte) (m : Bool) : takeChar d m s =
    if m then s.setAssembler (.inFrame [d]) else s := by
  simp only [takeChar, h]

theorem takeChar_inFrame_marker {cs : List Byte} (h : s.loop.assembler = .inFrame cs) (d : Byte) :
    takeChar d true s =
      (s.countLine fun c => { c with markerAborts := inc16 c.markerAborts }).setAssembler (.inFrame [d]) := by
  simp only [takeChar, h, if_true]

theorem takeChar_inFrame {cs : List Byte} (h : s.loop.assembler = .inFrame cs) (d : Byte) :
    takeChar d false s = appendChar (cs ++ [d]) s := by
  simp only [takeChar, h, Bool.false_eq_true, if_false]

/-! ### Appending in IN_FRAME (R4) -/

theorem lenOf_short {cs : List Byte} (h : cs.length ≤ 4) : lenOf cs = none := by
  simp [lenOf, h]

/-- Until LEN has arrived a character is appended. -/
theorem appendChar_short {cs : List Byte} (h : cs.length ≤ 4) (s : State) :
    appendChar cs s = s.setAssembler (.inFrame cs) := by
  simp only [appendChar, lenOf_short h]

/-- A LEN above 40 is a length error. -/
theorem appendChar_tooLong {cs : List Byte} {n : Nat} (hlen : lenOf cs = some n) (h : 40 < n) (s : State) :
    appendChar cs s =
      (s.countLine fun c => { c with lengthErrors := inc16 c.lengthErrors }).setAssembler .discard := by
  simp only [appendChar, hlen, if_pos h]

/-- Until LEN + 7 characters have arrived a character is appended. -/
theorem appendChar_partial {cs : List Byte} {n : Nat} (hlen : lenOf cs = some n) (h : n ≤ 40)
    (hcount : cs.length ≠ n + 7) (s : State) : appendChar cs s = s.setAssembler (.inFrame cs) := by
  simp only [appendChar, hlen, if_neg (Nat.not_lt.mpr h), if_neg hcount]

/-- The characters spell the frame and the CHECK received. -/
theorem frameOfChars_complete {len : Byte} {payload : List Byte} (h : payload.length = len.toNat)
    (dest src kindFlags seq high low : Byte) :
    frameOfChars (dest :: src :: kindFlags :: seq :: len :: (payload ++ [high, low])) =
      some (⟨dest, src, kindFlags, seq, payload⟩, join16 high low) := by
  simp [frameOfChars, ← h]

/-- The last character completes the frame. -/
theorem appendChar_complete {len : Byte} {payload : List Byte} (h : payload.length = len.toNat)
    (hlen : len.toNat ≤ 40) (dest src kindFlags seq high low : Byte) (s : State) :
    appendChar (dest :: src :: kindFlags :: seq :: len :: (payload ++ [high, low])) s =
      completeFrame ⟨dest, src, kindFlags, seq, payload⟩ (join16 high low) (s.setAssembler .idle) := by
  have hl : lenOf (dest :: src :: kindFlags :: seq :: len :: (payload ++ [high, low])) = some len.toNat := rfl
  simp only [appendChar, hl, if_neg (Nat.not_lt.mpr hlen), frameOfChars_complete h]
  exact if_pos (by simp [h])

/-! ### A completed frame (R4) -/

theorem body_of_length {f : Frame} {len : Byte} (h : f.payload.length = len.toNat) :
    f.body = [f.dest, f.src, f.kindFlags, f.seq, len] ++ f.payload := by
  simp [Frame.body, u8, h]

theorem completeFrame_checkError {f : Frame} {check : BitVec 16} (h : crc f.body ≠ check) (s : State) :
    completeFrame f check s = countCompleted (startHealth
      (s.countLine fun c => { c with checkErrors := inc16 c.checkErrors })) := if_pos h

theorem completeFrame_malformed {f : Frame} {check : BitVec 16} (h : crc f.body = check)
    (ha : (validAddress f.dest && validAddress f.src) = false) (s : State) :
    completeFrame f check s = countCompleted
      (s.countLine fun c => { c with malformed := inc16 c.malformed }) := by
  simp [completeFrame, h, ha]

theorem completeFrame_good {f : Frame} {check : BitVec 16} (h : crc f.body = check)
    (ha : (validAddress f.dest && validAddress f.src) = true) (s : State) :
    completeFrame f check s = { s with loop := { s.loop with
      handed := s.loop.handed ++ [f]
      line := { s.loop.line with goodFrames := inc16 s.loop.line.goodFrames } } } := by
  rw [completeFrame, if_neg (not_not_intro h), if_neg (by simp [ha])]
  rfl

theorem validAddress_pair (a b : Byte) :
    (validAddress a && validAddress b) = true ↔ a.toNat < 248 ∧ b.toNat < 248 := by
  simp [validAddress, Nat.lt_succ_iff]

/-! ### Errors and gaps (R5, R6) -/

/-- The assembler after a character error (R5). -/
def afterError : Assembler → Assembler
  | .idle => .idle
  | _ => .discard

/-- The line counters with a character error counted under its own name (R5). -/
def errorCounted (e : CharError) (c : LineCounters) : LineCounters :=
  match e with
  | .parity => { c with parityErrors := inc16 c.parityErrors }
  | .framing => { c with framingErrors := inc16 c.framingErrors }

theorem takeError_eq (hbrk : s.loop.assembler ≠ .brk) (e : CharError) :
    takeError e s = { s with loop := { s.loop with
      assembler := afterError s.loop.assembler
      healthTimer := some s.now
      line := errorCounted e s.loop.line } } := by
  obtain ⟨pending, chip, loop, transit⟩ := s
  obtain ⟨assembler⟩ := loop
  cases assembler with
  | brk => exact absurd rfl hbrk
  | idle | inFrame cs | discard => cases e <;> rfl

/-- A character error outside a break, a parity error where the receiver seeks a start bit (R2, R5). -/
theorem exec_characterError (hon : s.on = true) (hbrk : s.loop.assembler ≠ .brk) {e : CharError}
    (hpar : e = .parity → s.loop.deferred = false) :
    exec (.characterError e) s = .next { s with loop := { judged s with
      assembler := afterError s.loop.assembler
      healthTimer := some s.now
      line := errorCounted e s.loop.line } } := by
  have htake := takeError_eq (s := characterJudged s) hbrk e
  cases e with
  | parity =>
    have hseeks := seeksStart_iff.mpr ⟨hon, hpar rfl, hbrk⟩
    simp only [exec, execCharacterError, hseeks, if_true, htake]
    rfl
  | framing =>
    refine Eq.trans (congrArg Host.Outcome.next (if_pos ⟨hon, hbrk⟩)) ?_
    rw [htake]
    rfl

theorem exec_characterError_parity_ignored (hs : s.seeksStart = false) :
    exec (.characterError .parity) s = .next s := by
  simp [exec, execCharacterError, hs]

theorem exec_characterError_framing_brk (hbrk : s.loop.assembler = .brk) :
    exec (.characterError .framing) s = .next s := by
  simp [exec, execCharacterError, hbrk]

theorem exec_gapTimerExpiry (hon : s.on = true) :
    exec .gapTimerExpiry s = .next (if s.loop.gapTimer.isSome then gapReached s else s) := by
  simp [exec, execGapTimerExpiry, hon]

theorem gapReached_inFrame {cs : List Byte} (h : s.loop.assembler = .inFrame cs) :
    gapReached s = { s with loop := { s.loop with
      assembler := .idle
      healthTimer := some s.now
      line := { s.loop.line with gapAborts := inc16 s.loop.line.gapAborts } } } := by
  simp only [gapReached, h]
  rfl

theorem gapReached_discard (h : s.loop.assembler = .discard) :
    gapReached s = { s with loop := { s.loop with assembler := .idle } } := by
  simp only [gapReached, h]
  rfl

theorem gapReached_idle (h : s.loop.assembler = .idle) : gapReached s = s := by
  simp only [gapReached, h]

/-- The silence after a character error counts no gap abort (R5, R6). -/
theorem gap_after_error {a : Assembler} (ha : s.loop.assembler = afterError a) :
    (gapReached s).loop.line = s.loop.line ∧ (gapReached s).loop.assembler = .idle := by
  cases a with
  | idle => rw [gapReached_idle ha]; exact ⟨rfl, ha⟩
  | inFrame cs | discard | brk => rw [gapReached_discard ha]; exact ⟨rfl, rfl⟩

end Sys2Proof.Proofs
end

section
/-! PROOF. What a character, its ending, an error and a gap do in every state of the assembler. -/

namespace Sys2Proof.Proofs

open Sys2Proof.Machine Sys2Proof.Safety Sys2Proof.Laws

variable {s t u : State}

/-! ### A good character in every state (R2, R4, R6) -/

theorem receive_idle (hs : s.seeksStart = true) (h : s.loop.assembler = .idle) (d : Byte) :
    exec (.characterReceived d (sentEnding d true)) s =
        .next { s with loop := { judged s with assembler := .inFrame [d] } } ∧
      exec (.characterReceived d (sentEnding d false)) s = .next { s with loop := { judged s with
        line := { s.loop.line with stray := inc16 s.loop.line.stray } } } := by
  constructor
  · rw [exec_characterReceived_good hs, takeChar_idle (s := characterJudged s) h]; rfl
  · rw [exec_characterReceived_good hs, takeChar_idle (s := characterJudged s) h]; rfl

theorem receive_discard (hs : s.seeksStart = true) (h : s.loop.assembler = .discard) (d : Byte) :
    exec (.characterReceived d (sentEnding d true)) s =
        .next { s with loop := { judged s with assembler := .inFrame [d] } } ∧
      exec (.characterReceived d (sentEnding d false)) s = .next { s with loop := judged s } := by
  constructor
  · rw [exec_characterReceived_good hs, takeChar_discard (s := characterJudged s) h]; rfl
  · rw [exec_characterReceived_good hs, takeChar_discard (s := characterJudged s) h]; rfl

theorem receive_inFrame_marker (hs : s.seeksStart = true) {cs : List Byte}
    (h : s.loop.assembler = .inFrame cs) (d : Byte) :
    exec (.characterReceived d (sentEnding d true)) s = .next { s with loop := { judged s with
      assembler := .inFrame [d]
      line := { s.loop.line with markerAborts := inc16 s.loop.line.markerAborts } } } := by
  rw [exec_characterReceived_good hs, takeChar_inFrame_marker (s := characterJudged s) h]; rfl

/-- A non-marker in IN_FRAME is appended to the characters there. -/
theorem receive_inFrame (hs : s.seeksStart = true) {cs : List Byte} (h : s.loop.assembler = .inFrame cs)
    (d : Byte) : exec (.characterReceived d (sentEnding d false)) s =
      .next (appendChar (cs ++ [d]) (characterJudged s)) := by
  rw [exec_characterReceived_good hs, takeChar_inFrame (s := characterJudged s) h]

theorem receive_inFrame_short (hs : s.seeksStart = true) {cs : List Byte} (h : s.loop.assembler = .inFrame cs)
    (d : Byte) (hcs : cs.length < 4) : exec (.characterReceived d (sentEnding d false)) s =
      .next { s with loop := { judged s with assembler := .inFrame (cs ++ [d]) } } := by
  rw [receive_inFrame hs h, appendChar_short (by simpa using hcs)]; rfl

/-- The fifth character is LEN (R4). -/
theorem receive_inFrame_len (hs : s.seeksStart = true) {cs : List Byte} (h : s.loop.assembler = .inFrame cs)
    (d : Byte) (hcs : cs.length = 4) : exec (.characterReceived d (sentEnding d false)) s =
      .next { s with loop :=
        if 40 < d.toNat then
          { judged s with
            assembler := .discard
            line := { s.loop.line with lengthErrors := inc16 s.loop.line.lengthErrors } }
        else { judged s with assembler := .inFrame (cs ++ [d]) } } := by
  have hlen : lenOf (cs ++ [d]) = some d.toNat := by simp [lenOf, ← hcs]
  rw [receive_inFrame hs h]
  split
  · rw [appendChar_tooLong hlen ‹_›]; rfl
  · rw [appendChar_partial hlen (Nat.not_lt.mp ‹_›) (by simp [hcs])]; rfl

theorem receive_inFrame_partial (hs : s.seeksStart = true) {dest src kindFlags seq len : Byte}
    {rest : List Byte} (h : s.loop.assembler = .inFrame (dest :: src :: kindFlags :: seq :: len :: rest))
    (d : Byte) (hlen : len.toNat ≤ 40) (hrest : rest.length + 1 ≠ len.toNat + 2) :
    exec (.characterReceived d (sentEnding d false)) s = .next { s with loop := { judged s with
      assembler := .inFrame (dest :: src :: kindFlags :: seq :: len :: rest ++ [d]) } } := by
  have hl : lenOf (dest :: src :: kindFlags :: seq :: len :: rest ++ [d]) = some len.toNat := rfl
  rw [receive_inFrame hs h, appendChar_partial hl hlen (by simp; omega)]; rfl

/-- The last character completes the frame, which is then tested (R4). -/
theorem receive_inFrame_last (hs : s.seeksStart = true) {dest src kindFlags seq len high : Byte}
    {payload : List Byte}
    (h : s.loop.assembler = .inFrame (dest :: src :: kindFlags :: seq :: len :: (payload ++ [high])))
    (d : Byte) (hlen : len.toNat ≤ 40) (hpay : payload.length = len.toNat) :
    exec (.characterReceived d (sentEnding d false)) s = .next (completeFrame
      ⟨dest, src, kindFlags, seq, payload⟩ (join16 high d) ((characterJudged s).setAssembler .idle)) := by
  have hcs : dest :: src :: kindFlags :: seq :: len :: (payload ++ [high]) ++ [d] =
      dest :: src :: kindFlags :: seq :: len :: (payload ++ [high, d]) := by simp
  rw [receive_inFrame hs h, hcs, appendChar_complete hpay hlen]

/-- A completed frame by its test: a check error, malformed, or good and handed over (R4). -/
theorem receive_inFrame_completed (hs : s.seeksStart = true) {dest src kindFlags seq len high : Byte}
    {payload : List Byte}
    (h : s.loop.assembler = .inFrame (dest :: src :: kindFlags :: seq :: len :: (payload ++ [high])))
    (d : Byte) (hlen : len.toNat ≤ 40) (hpay : payload.length = len.toNat) :
    let f : Frame := ⟨dest, src, kindFlags, seq, payload⟩
    let agrees := crc ([dest, src, kindFlags, seq, len] ++ payload) = join16 high d
    let addresses := dest.toNat < 248 ∧ src.toNat < 248
    (¬agrees → exec (.characterReceived d (sentEnding d false)) s =
      .next (countCompleted { s with loop := { judged s with
        assembler := .idle
        healthTimer := some s.now
        line := { s.loop.line with checkErrors := inc16 s.loop.line.checkErrors } } })) ∧
    (agrees → ¬addresses → exec (.characterReceived d (sentEnding d false)) s =
      .next (countCompleted { s with loop := { judged s with
        assembler := .idle
        line := { s.loop.line with malformed := inc16 s.loop.line.malformed } } })) ∧
    (agrees → addresses → exec (.characterReceived d (sentEnding d false)) s =
      .next { s with loop := { judged s with
        assembler := .idle
        handed := s.loop.handed ++ [f]
        line := { s.loop.line with goodFrames := inc16 s.loop.line.goodFrames } } }) := by
  intro f agrees addresses
  have hbody : f.body = [dest, src, kindFlags, seq, len] ++ payload := body_of_length hpay
  have hlast := receive_inFrame_last hs h d hlen hpay
  refine ⟨fun hc => ?_, fun hc ha => ?_, fun hc ha => ?_⟩
  · rw [hlast, completeFrame_checkError (hbody ▸ hc)]; rfl
  · rw [hlast, completeFrame_malformed (hbody ▸ hc)
      (Bool.eq_false_iff.mpr (mt (validAddress_pair dest src).mp ha))]
    rfl
  · rw [hlast, completeFrame_good (hbody ▸ hc) ((validAddress_pair dest src).mpr ha)]; rfl

/-! ### The obligation -/

theorem exec_characterError_ignored_brk (hbrk : s.loop.assembler = .brk) (e : CharError) :
    exec (.characterError e) s = .next s := by
  cases e with
  | parity => exact exec_characterError_parity_ignored (by simp [State.seeksStart, hbrk])
  | framing => exact exec_characterError_framing_brk hbrk

/-- The gap that follows a character error counts nothing and ends the discarding (R5, R6). -/
theorem silence_after_error (hon : s.on = true) (hbrk : s.loop.assembler ≠ .brk) {e : CharError}
    (hpar : e = .parity → s.loop.deferred = false) (ht : exec (.characterError e) s = .next t)
    (hu : exec .gapTimerExpiry t = .next u) : u.loop.line = t.loop.line ∧ u.loop.assembler = .idle := by
  have hte := Host.Outcome.next.inj ((exec_characterError hon hbrk hpar).symm.trans ht)
  have hont : t.on = true := hte ▸ hon
  have htimer : t.loop.gapTimer.isSome = true := by rw [← hte]; rfl
  have hue := Host.Outcome.next.inj ((exec_gapTimerExpiry hont).symm.trans hu)
  rw [if_pos htimer] at hue
  rw [← hue]
  exact gap_after_error (a := s.loop.assembler) (by rw [← hte])

/-- Settles O5, state by state of the assembler. -/
theorem assemblerActsByItsState : Obligations.AssemblerActsByItsState := by
  refine ⟨fun d s hon hdef => ?_, fun d e s => ⟨fun hon h => ?_, ?_, ?_, ?_⟩, fun s hon => ⟨?_, ?_, ?_⟩,
    fun e s hon hbrk hpar => ⟨?_, ?_⟩, fun s hon => ⟨?_, ?_⟩⟩
  · have seeks : ∀ a, a ≠ .brk → s.loop.assembler = a → s.seeksStart = true := fun a ha h =>
      seeksStart_iff.mpr ⟨hon, hdef, h ▸ ha⟩
    refine ⟨fun h => receive_idle (seeks _ (by simp) h) h d, fun cs h => ?_,
      fun h => receive_discard (seeks _ (by simp) h) h d⟩
    have hs := seeks _ (by simp) h
    refine ⟨receive_inFrame_marker hs h d, receive_inFrame_short hs h d, receive_inFrame_len hs h d, ?_⟩
    rintro dest src kindFlags seq len rest rfl hlen
    refine ⟨receive_inFrame_partial hs h d hlen, ?_⟩
    rintro payload high rfl hpay
    exact receive_inFrame_completed hs h d hlen hpay
  · refine exec_characterReceived_ignored ?_ d e
    rcases h with h | h <;> simp [State.seeksStart, h]
  · exact sentEnding_of_parity
  · exact fun hstop hpar => exec_characterReceived_parity hstop hpar s
  · exact fun hstop hon hbrk hdef =>
      exec_characterReceived_deferred hstop (seeksStart_iff.mpr ⟨hon, hdef, hbrk⟩)
  · intro cs h htimer
    rw [exec_gapTimerExpiry hon, if_pos htimer, gapReached_inFrame h]
  · intro h htimer
    rw [exec_gapTimerExpiry hon, if_pos htimer, gapReached_discard h]
  · rintro (h | h)
    · rw [exec_gapTimerExpiry hon, gapReached_idle h, ite_self]
    · rw [exec_gapTimerExpiry hon, if_neg (by simp [h])]
  · exact exec_characterError hon hbrk hpar
  · exact fun t u ht hu => silence_after_error hon hbrk hpar ht hu
  · exact fun hbrk e => exec_characterError_ignored_brk hbrk e
  · exact fun hdef => exec_characterError_parity_ignored (by simp [State.seeksStart, hdef])

end Sys2Proof.Proofs
end

section
/-! PROOF. Characters on the line, and a frame assembled from them. -/

namespace Sys2Proof.Proofs

open Sys2Proof.Machine Sys2Proof.Safety Sys2Proof.Laws

variable {s t u : State}

/-! ### Parity (R2) -/

/-- The parity of bits, folded from a first one, makes their number of ones even. -/
theorem even_ones_parity (bits : List Bool) (m : Bool) :
    (m.toNat + bits.count true + (bits.foldl (fun p b => p != b) m).toNat) % 2 = 0 := by
  induction bits generalizing m with
  | nil => cases m <;> rfl
  | cons b bits ih =>
    have h := ih (m != b)
    cases m <;> cases b <;> simp_all <;> omega

/-- The data bits of a character, least significant first. -/
def dataBits (d : Byte) : List Bool := [0, 1, 2, 3, 4, 5, 6, 7].map fun i => d.getLsbD i

theorem parityBit_eq (d : Byte) (m : Bool) :
    parityBit d m = (dataBits d).foldl (fun p b => p != b) m := by
  simp [parityBit, dataBits]

theorem even_ones_char (d : Byte) (m : Bool) :
    ((dataBits d ++ [m, parityBit d m]).count true) % 2 = 0 := by
  have h := even_ones_parity (dataBits d) m
  rw [parityBit_eq]
  have hone : ∀ b : Bool, [b].count true = b.toNat := by decide
  rw [List.count_append, show ∀ a b : Bool, [a, b] = [a] ++ [b] from fun _ _ => rfl, List.count_append,
    hone, hone]
  omega

/-! ### A frame on the line (R179) -/

/-- A frame's characters after the first and before the last. -/
def middleChars (f : Frame) : List Byte :=
  [f.src, f.kindFlags, f.seq] ++ u8 f.payload.length ++ f.payload ++ [hi16 (crc f.body)]

theorem chars_eq (f : Frame) : f.chars = f.dest :: (middleChars f ++ [lo16 (crc f.body)]) := by
  simp [Frame.chars, Frame.body, middleChars]

theorem length_middle (f : Frame) : (middleChars f).length = f.payload.length + 5 := by
  simp [middleChars, u8]

theorem line_eq (f : Frame) : f.line = (f.dest, sentEnding f.dest true) ::
    (middleChars f ++ [lo16 (crc f.body)]).map fun c => (c, sentEnding c false) := by
  simp only [Frame.line, chars_eq]

/-- Every character of a frame is sent with its own ending. -/
theorem ending_of_mem_line {f : Frame} {c : Byte × CharEnding} (h : c ∈ f.line) :
    c.2 = sentEnding c.1 c.2.marker := by
  rw [line_eq] at h
  rcases List.mem_cons.mp h with rfl | h
  · rfl
  · obtain ⟨d, _, rfl⟩ := List.mem_map.mp h
    rfl

theorem map_fst_line (f : Frame) : f.line.map (·.1) = f.chars := by
  simp [line_eq, chars_eq, Function.comp_def]

theorem map_marker_line (f : Frame) :
    f.line.map (·.2.marker) = true :: List.replicate (f.length - 1) false := by
  have hlen : f.length - 1 = (middleChars f ++ [lo16 (crc f.body)]).length := by
    simp [length_middle, Frame.length]
  rw [hlen, line_eq]
  simp [sentEnding, Function.comp_def, List.replicate_succ']

theorem bitTimes_line (f : Frame) :
    f.bitTimes = f.line.flatMap fun c => bitTimes c.1 (sentEnding c.1 c.2.marker) :=
  List.flatMap_congr fun _ hc => by rw [← ending_of_mem_line hc]

/-! ### Assembling (R4) -/

theorem join16_hi16_lo16 (w : BitVec 16) : join16 (hi16 w) (lo16 w) = w := by
  apply BitVec.eq_of_getLsbD_eq
  intro i hi
  unfold join16 hi16 lo16
  rw [BitVec.getLsbD_append]
  split
  · simp_all
  · have h8 : i - 8 < 8 := by omega
    simp [h8]
    congr 1
    omega

/-- What a good frame is (R4). -/
theorem good_iff (f : Frame) :
    f.good = true ↔ f.payload.length ≤ 40 ∧ (validAddress f.dest && validAddress f.src) = true := by
  simp [Frame.good, and_assoc]

/-- LEN as a character reads as the length of a payload that fits (R179). -/
theorem toNat_len {f : Frame} (h : f.payload.length ≤ 40) :
    (BitVec.ofNat 8 f.payload.length).toNat = f.payload.length := by
  simp only [BitVec.toNat_ofNat]; omega

theorem chars_eq_len (f : Frame) : f.chars =
    f.dest :: f.src :: f.kindFlags :: f.seq :: BitVec.ofNat 8 f.payload.length ::
      (f.payload ++ [hi16 (crc f.body), lo16 (crc f.body)]) := by
  simp [Frame.chars, Frame.body, u8]

/-- The frame's characters, once all have arrived, complete it as good (R4). -/
theorem appendChar_chars {f : Frame} (h : f.good = true) (s : State) :
    appendChar f.chars s = { s with loop := { s.loop with
      assembler := .idle
      handed := s.loop.handed ++ [f]
      line := { s.loop.line with goodFrames := inc16 s.loop.line.goodFrames } } } := by
  obtain ⟨hlen, haddr⟩ := (good_iff f).mp h
  have hn := toNat_len hlen
  rw [chars_eq_len, appendChar_complete hn.symm (hn.le.trans hlen), completeFrame_good
    (join16_hi16_lo16 _).symm haddr]
  rfl

/-- LEN of a part of a frame's characters that holds it. -/
theorem lenOf_prefix {f : Frame} (h : f.payload.length ≤ 40) {cs : List Byte} (hcs : cs <+: f.chars)
    (hlong : 4 < cs.length) : lenOf cs = some f.payload.length := by
  have hget : cs[4] = f.chars[4]'(hlong.trans_le hcs.length_le) := hcs.getElem hlong
  simp only [chars_eq_len, List.getElem_cons_succ, List.getElem_cons_zero] at hget
  simp [lenOf, List.getElem?_eq_getElem hlong, hget, toNat_len h]

/-- A proper part of a good frame's characters is only appended (R4). -/
theorem appendChar_prefix {f : Frame} (h : f.good = true) {cs : List Byte} (hcs : cs <+: f.chars)
    (hlen : cs.length < f.length) (s : State) : appendChar cs s = s.setAssembler (.inFrame cs) := by
  obtain ⟨hpay, -⟩ := (good_iff f).mp h
  by_cases hshort : cs.length ≤ 4
  · exact appendChar_short hshort s
  · exact appendChar_partial (lenOf_prefix hpay hcs (Nat.not_le.mp hshort)) hpay hlen.ne s

/-! ### The run over a frame's characters -/

/-- The state with the assembler in IN_FRAME with `cs`, its gap timer just restarted, and the queue `p`. -/
def assembling (s : State) (cs : List Byte) (p : List Instr) : State :=
  { s with pending := p, loop := { judged s with assembler := .inFrame cs } }

theorem seeksStart_assembling (hon : s.on = true) (cs : List Byte) (p : List Instr) :
    (assembling s cs p).seeksStart = true :=
  seeksStart_iff.mpr ⟨hon, rfl, by simp [assembling]⟩

theorem run_succ (h : step s = .next t) (k : Nat) :
    Host.Core.run Sys2Proof.core (k + 1) s = Host.Core.run Sys2Proof.core k t := by
  simp only [Host.Core.run]
  rw [show Sys2Proof.core.step s = .next t from h]

/-- A non-marker character as it is sent. -/
def nonMarker (d : Byte) : Instr := .characterReceived d (sentEnding d false)

theorem receive_eq (f : Frame) : receive f =
    .characterReceived f.dest (sentEnding f.dest true) ::
      ((middleChars f).map nonMarker ++ [nonMarker (lo16 (crc f.body))]) := by
  simp [receive, line_eq, nonMarker, Function.comp_def]

/-- A frame's first character begins it. -/
theorem step_marker (hon : s.on = true) (hidle : s.loop.assembler = .idle) (hdef : s.loop.deferred = false)
    (d : Byte) (p : List Instr) :
    step ({ s with pending := .characterReceived d (sentEnding d true) :: p } : State) =
      .next (assembling s [d] p) :=
  (receive_idle (s := { s with pending := p }) (seeksStart_iff.mpr ⟨hon, hdef, by simp [hidle]⟩) hidle d).1

/-- One character more of a frame being assembled. -/
theorem step_assembling (hon : s.on = true) (cs : List Byte) (d : Byte) (p : List Instr) :
    step (assembling s cs (nonMarker d :: p)) =
      .next (appendChar (cs ++ [d]) (assembling s cs p)) :=
  receive_inFrame (seeksStart_assembling hon cs p) rfl d

/-- Characters that leave a good frame incomplete are all appended. -/
theorem run_assembling {f : Frame} (h : f.good = true) (hon : s.on = true) (p : List Instr) (k : Nat)
    (ds cs : List Byte) (hcs : cs ++ ds <+: f.chars) (hlen : (cs ++ ds).length < f.length) :
    Host.Core.run Sys2Proof.core (ds.length + k) (assembling s cs (ds.map nonMarker ++ p)) =
      Host.Core.run Sys2Proof.core k (assembling s (cs ++ ds) p) := by
  induction ds generalizing cs with
  | nil => simp
  | cons d ds ih =>
    have happ : cs ++ d :: ds = cs ++ [d] ++ ds := by simp
    rw [happ] at hcs hlen ⊢
    have hstep := step_assembling hon cs d (ds.map nonMarker ++ p)
    rw [appendChar_prefix h ((List.prefix_append _ _).trans hcs)
      (lt_of_le_of_lt (by simp) hlen)] at hstep
    have hk : (d :: ds).length + k = ds.length + k + 1 := by simp; omega
    rw [hk]
    exact (run_succ hstep _).trans (ih _ hcs hlen)

/-- A good frame's characters bring it out of the assembler whole. -/
theorem run_receive {f : Frame} (h : f.good = true) (hon : s.on = true) (hidle : s.loop.assembler = .idle)
    (hdef : s.loop.deferred = false) (rest : List Instr) :
    Host.Core.run Sys2Proof.core f.length ({ s with pending := receive f ++ rest } : State) =
      .next ({ s with
          pending := rest
          loop := { judged s with
            handed := s.loop.handed ++ [f]
            line := { s.loop.line with goodFrames := inc16 s.loop.line.goodFrames } } } : State) := by
  have hlen : f.length = (middleChars f).length + 1 + 1 := by simp [length_middle, Frame.length]
  have hfirst : step ({ s with pending := receive f ++ rest } : State) =
      .next (assembling s [f.dest] ((middleChars f).map nonMarker ++ (nonMarker (lo16 (crc f.body)) :: rest))) := by
    rw [receive_eq, List.cons_append, List.append_assoc]
    exact step_marker hon hidle hdef f.dest _
  have hmiddle := run_assembling h hon (nonMarker (lo16 (crc f.body)) :: rest) 1 (middleChars f) [f.dest]
    (by rw [chars_eq]; exact ⟨[lo16 (crc f.body)], by simp⟩) (by simp [hlen])
  have hlast := step_assembling hon ([f.dest] ++ middleChars f) (lo16 (crc f.body)) rest
  rw [show [f.dest] ++ middleChars f ++ [lo16 (crc f.body)] = f.chars by simp [chars_eq],
    appendChar_chars h] at hlast
  rw [hlen, run_succ hfirst, hmiddle, run_succ hlast 0]
  obtain ⟨pending, chip, loop⟩ := s
  cases loop
  cases hidle
  rfl

/-- Settles O4, by the run over the frame's characters. -/
theorem frameIsAssembledFromItsCharacters : Obligations.FrameIsAssembledFromItsCharacters :=
  ⟨fun d m => ⟨parityBit d m, rfl, even_ones_char d m⟩,
    fun f => ⟨map_fst_line f, map_marker_line f, bitTimes_line f⟩,
    fun _ rest _ h hon hidle hdef => run_receive h hon hidle hdef rest⟩

end Sys2Proof.Proofs
end

section
/-! PROOF. The tables restored from the store, in table order. -/

namespace Sys2Proof.Proofs

open Sys2Proof.Machine Sys2Proof.Safety Sys2Proof.Laws

variable {s t u : State}

/-! ### The active copy of one table -/

/-- The table that the fields are of. -/
def tableOf : TableData → TableId
  | .station _ => .station
  | .access _ => .access
  | .tap _ => .tap
  | .point _ => .point
  | .storage _ => .storage
  | .pump _ => .pump
  | .band _ => .band
  | .screen _ => .screen
  | .weir _ => .weir
  | .alarm _ => .alarm

/-- The active copy of one table, its image with its fields. -/
def activeCopy (a : ActiveTables) : TableId → Option (List Byte × TableData)
  | .station => a.station.map fun c => (c.image, .station c.data)
  | .access => a.access.map fun c => (c.image, .access c.data)
  | .tap => a.tap.map fun c => (c.image, .tap c.data)
  | .point => a.point.map fun c => (c.image, .point c.data)
  | .storage => a.storage.map fun c => (c.image, .storage c.data)
  | .pump => a.pump.map fun c => (c.image, .pump c.data)
  | .band => a.band.map fun c => (c.image, .band c.data)
  | .screen => a.screen.map fun c => (c.image, .screen c.data)
  | .weir => a.weir.map fun c => (c.image, .weir c.data)
  | .alarm => a.alarm.map fun c => (c.image, .alarm c.data)

theorem tableActive_eq (s : State) (x : TableId) : s.tableActive x = (activeCopy s.tables.active x).isSome := by
  cases x <;> simp [State.tableActive, activeCopy]

theorem activeImage_eq (s : State) (x : TableId) :
    s.activeImage x = (activeCopy s.tables.active x).map (·.1) := by
  cases x <;> simp [State.activeImage, activeCopy, Function.comp_def]

theorem activeCopy_put (a : ActiveTables) (image : List Byte) (d : TableData) (x : TableId) :
    activeCopy (a.put image d) x = if x = tableOf d then some (image, d) else activeCopy a x := by
  cases d <;> cases x <;> rfl

/-- What stands as the active copy is put there by it. -/
theorem put_activeCopy {a : ActiveTables} {x : TableId} {image : List Byte} {d : TableData}
    (h : activeCopy a x = some (image, d)) : a.put image d = a := by
  obtain ⟨station, access, tap, point, storage, pump, band, screen, weir, alarm⟩ := a
  cases x <;> simp only [activeCopy, Option.map_eq_some_iff, Prod.mk.injEq] at h <;>
    obtain ⟨⟨i, c⟩, hc, rfl, rfl⟩ := h <;> subst hc <;> rfl

theorem exceptMap_eq_ok {ε α β : Type} {f : α → β} {e : Except ε α} {b : β} (h : e.map f = .ok b) :
    ∃ a, f a = b := by
  cases e with
  | error => cases h
  | ok a => exact ⟨a, Except.ok.inj h⟩

/-- An image reads as fields of the table it is read for. -/
theorem tableOf_readTable {c : Surroundings} {x : TableId} {image : List Byte} {d : TableData}
    (h : readTable c x image = .ok d) : tableOf d = x := by
  cases x <;> simp only [readTable] at h <;> obtain ⟨a, ha⟩ := exceptMap_eq_ok h <;> rw [← ha] <;> rfl

/-! ### One table restored (R176) -/

/-- A stored image that agrees with its check and passes validation against `c`, with its fields. -/
def restoredIn (c : Surroundings) (stored : PerTable StoredImage) (x : TableId) :
    Option (List Byte × TableData) :=
  match stored.get x with
  | .intact image =>
    match readTable c x image with
    | .ok d => some (image, d)
    | .error _ => none
  | _ => none

theorem restoredData_eq (s : State) (x : TableId) :
    restoredData s x = restoredIn s.surroundings s.tables.stored x := rfl

theorem restoredIn_eq_some {c : Surroundings} {stored : PerTable StoredImage} {x : TableId}
    {image : List Byte} {d : TableData} (h : restoredIn c stored x = some (image, d)) :
    stored.get x = .intact image ∧ readTable c x image = .ok d := by
  unfold restoredIn at h
  split at h
  · split at h
    · cases h; exact ⟨by assumption, by assumption⟩
    · cases h
  · cases h

/-- A table is as the store has it, where its active copy is what its stored image reads as. -/
theorem restoredFromStore_of_activeCopy {x : TableId}
    (h : activeCopy t.tables.active x = restoredIn (restoredBefore t x) t.tables.stored x) :
    RestoredFromStore t x := by
  unfold restoredIn at h
  unfold RestoredFromStore
  split
  · rename_i image hs
    simp only [hs] at h
    split
    · rename_i d hr
      simp only [hr] at h
      exact ⟨by rw [activeImage_eq, h]; rfl, (put_activeCopy h).symm⟩
    · rename_i e hr
      simp only [hr] at h
      rw [tableActive_eq, h]; rfl
  · rename_i hs
    rw [tableActive_eq, h]
    split
    · exact absurd ‹_› (hs _)
    · rfl

/-- Restoring a table touches the active copies and the marks alone. -/
theorem restoreTable_frame (s : State) (x : TableId) : restoreTable s x = { s with tables := { s.tables with
    active := (restoreTable s x).tables.active, marks := (restoreTable s x).tables.marks } } := by
  unfold restoreTable
  split <;> rfl

theorem activeCopy_restoreTable (s : State) {x : TableId} (hnone : activeCopy s.tables.active x = none)
    (y : TableId) : activeCopy (restoreTable s x).tables.active y =
      if y = x then restoredData s x else activeCopy s.tables.active y := by
  unfold restoreTable
  split
  · rename_i image d hd
    have hx : tableOf d = x := tableOf_readTable (restoredIn_eq_some (restoredData_eq s x ▸ hd)).2
    exact (activeCopy_put _ _ _ _).trans (by rw [hx, hd])
  · rename_i hd
    rw [hd]
    split
    · exact ‹y = x› ▸ hnone
    · rfl

theorem marks_restoreTable (s : State) (x y : TableId) : (restoreTable s x).tables.marks.get y =
    if y = x then !(restoredData s x).isSome else s.tables.marks.get y := by
  unfold restoreTable
  split
  · rename_i image d hd
    rw [hd]
    exact PerTable.get_set _ _ _ _
  · rename_i hd
    rw [hd]
    exact PerTable.get_set _ _ _ _

/-- The STATION and POINT tables stand while another table is restored. -/
theorem readers_restoreTable (s : State) {x : TableId} :
    (x ≠ .station → (restoreTable s x).tables.active.station = s.tables.active.station) ∧
      (x ≠ .point → (restoreTable s x).tables.active.point = s.tables.active.point) := by
  unfold restoreTable
  split
  · rename_i image d hd
    have hx : tableOf d = x := tableOf_readTable (restoredIn_eq_some (restoredData_eq s x ▸ hd)).2
    subst hx
    cases d <;> simp [State.putTable, ActiveTables.put, tableOf]
  · exact ⟨fun _ => rfl, fun _ => rfl⟩

/-! ### Every table restored, in table order (R176) -/

/-- `t` is `s` with the tables `done` restored, `s` having none active. -/
structure RestoredTo (s : State) (done : List TableId) (t : State) : Prop where
  frame : t = { s with tables := { s.tables with active := t.tables.active, marks := t.tables.marks } }
  todo : ∀ x, x ∉ done → activeCopy t.tables.active x = none
  copy : ∀ x ∈ done, activeCopy t.tables.active x = restoredIn (restoredBefore t x) s.tables.stored x
  mark : ∀ x ∈ done, t.tables.marks.get x = !(activeCopy t.tables.active x).isSome

/-- Table `x` may be restored after `done`: what it is validated against stands, and no table already restored was
validated against it. -/
def mayFollow (done : List TableId) (x : TableId) : Bool :=
  decide (x ∉ done) &&
    match x with
    | .station => done.isEmpty
    | .access | .tap => !done.contains .point
    | .point => done.all fun y => decide (y = .station ∨ y = .access ∨ y = .tap)
    | _ => true

/-- What a table is validated against turns on the STATION and POINT tables. -/
theorem restoredBefore_congr {x : TableId}
    (hs : x ≠ .station → t.tables.active.station = s.tables.active.station)
    (hp : x ≠ .station → x ≠ .access → x ≠ .tap → x ≠ .point →
      t.tables.active.point = s.tables.active.point) : restoredBefore t x = restoredBefore s x := by
  unfold restoredBefore State.station
  cases x <;> simp_all

/-- A table is validated against what stands at its turn, which is what it is said to be validated against. -/
theorem surroundings_at_turn {done : List TableId} (h : RestoredTo s done t)
    (hmode : s.tables.mode = .standby) {x : TableId} (hx : mayFollow done x = true) :
    t.surroundings = restoredBefore (restoreTable t x) x := by
  obtain ⟨hstation, hpoint⟩ := readers_restoreTable t (x := x)
  have hpast : t.pastStandby = false := by
    rw [State.pastStandby, h.frame]; simp [hmode]
  have noStation : .station ∉ done → t.tables.active.station = none := fun hn =>
    Option.map_eq_none_iff.mp (h.todo .station hn)
  have noPoint : .point ∉ done → t.tables.active.point = none := fun hn =>
    Option.map_eq_none_iff.mp (h.todo .point hn)
  unfold State.surroundings restoredBefore State.station
  rw [hpast]
  cases x <;> simp_all [mayFollow]

/-- Restoring a table in its turn changes nothing that the tables before it were validated against. -/
theorem restoredBefore_restoreTable {done : List TableId} {x y : TableId} (hx : mayFollow done x = true)
    (hy : y ∈ done) : restoredBefore (restoreTable t x) y = restoredBefore t y := by
  obtain ⟨hstation, hpoint⟩ := readers_restoreTable t (x := x)
  refine restoredBefore_congr (fun _ => hstation ?_) (fun h1 h2 h3 _ => hpoint ?_)
  · rintro rfl
    simp_all [mayFollow]
  · rintro rfl
    have hall := (Bool.and_eq_true_iff.mp hx).2
    have := of_decide_eq_true (List.all_eq_true.mp hall y hy)
    simp_all

theorem RestoredTo.step {done : List TableId} (h : RestoredTo s done t) (hmode : s.tables.mode = .standby)
    (x : TableId) (hx : mayFollow done x = true) : RestoredTo s (done ++ [x]) (restoreTable t x) := by
  have hnew : x ∉ done := of_decide_eq_true (Bool.and_eq_true_iff.mp hx).1
  have hold : ∀ y ∈ done, y ≠ x := fun y hy hyx => hnew (hyx ▸ hy)
  have hcopy := activeCopy_restoreTable t (h.todo x hnew)
  have hdata : restoredData t x = restoredIn (restoredBefore (restoreTable t x) x) s.tables.stored x := by
    rw [restoredData_eq, surroundings_at_turn h hmode hx, h.frame]
  refine ⟨?_, fun y hy => ?_, fun y hy => ?_, fun y hy => ?_⟩
  · rw [restoreTable_frame t x, h.frame]
  · obtain ⟨hy, hyx⟩ : y ∉ done ∧ y ≠ x := by simpa using hy
    rw [hcopy, if_neg hyx, h.todo y hy]
  · rcases List.mem_append.mp hy with hy | hy
    · rw [hcopy, if_neg (hold y hy), h.copy y hy, restoredBefore_restoreTable hx hy]
    · obtain rfl := List.mem_singleton.mp hy
      rw [hcopy, if_pos rfl, hdata]
  · rcases List.mem_append.mp hy with hy | hy
    · rw [hcopy, if_neg (hold y hy), marks_restoreTable, if_neg (hold y hy), h.mark y hy]
    · obtain rfl := List.mem_singleton.mp hy
      rw [hcopy, if_pos rfl, marks_restoreTable, if_pos rfl]

/-- The tables as a start finds them before it restores any (R176). -/
def unrestored (s : State) : State := { s with tables := { s.tables with
  active := ActiveTables.absent
  shadows := PerTable.all .empty
  outcomes := PerTable.all .none
  marks := PerTable.all false
  refused := 0
  writeFailures := 0
  mode := .standby
  settling := none } }

theorem restoredTo_nil (s : State) : RestoredTo (unrestored s) [] (unrestored s) where
  frame := rfl
  todo x _ := by cases x <;> rfl
  copy := by simp
  mark := by simp

/-- Every table is restored in its turn. -/
theorem restoredTo_restoreTables (s : State) : RestoredTo (unrestored s) tableIds (restoreTables s) :=
  (restoredTo_nil s).step rfl .station rfl |>.step rfl .access rfl |>.step rfl .tap rfl |>.step rfl .point rfl
    |>.step rfl .storage rfl |>.step rfl .pump rfl |>.step rfl .band rfl |>.step rfl .screen rfl
    |>.step rfl .weir rfl |>.step rfl .alarm rfl

theorem mem_tableIds (x : TableId) : x ∈ tableIds := by cases x <;> decide

end Sys2Proof.Proofs
end

section
/-! PROOF. What the conditions, the mode and the end of a start leave of the blocks' start values. -/

namespace Sys2Proof.Proofs

open Sys2Proof.Machine Sys2Proof.Safety Sys2Proof.Laws

variable {s t u : State}

/-! ### What stating conditions, judging the mode and posting leave -/

/-- The state with everything erased that a start may change once the blocks have their start values: the alarm
unit, the spill log and the weirs' states, and the commands and notices posted. -/
def startKept (s : State) : State :=
  { s with
    loop := { s.loop with tx := unmarkedTx s.loop.tx }
    transit := { s.transit with
      actuator := []
      notice := []
      lap := s.transit.lap.map unmarked
      count := { s.transit.count with noticesLost := 0 }
      outbox := Outbox.empty }
    spill := { Spill.cold with falseOnsets := s.spill.falseOnsets }
    alarms := ⟨[], false, none, false⟩ }

theorem startKept_of_outsideAlarms (h : outsideAlarms t = outsideAlarms s) : startKept t = startKept s := by
  have h' : startKept (outsideAlarms t) = startKept (outsideAlarms s) := by rw [h]
  exact h'

@[simp] theorem startKept_stateCondition (n : Nat) (b : Bool) (s : State) :
    startKept (stateCondition n b s) = startKept s := startKept_of_outsideAlarms (by simp)

theorem startKept_noteClosed (w : Weir) (c : Capture) (s : State) :
    startKept (noteClosed w c s) = startKept s := by
  unfold noteClosed; split <;> rfl

theorem startKept_closeRecord (w : Weir) (c : Capture) (s : State) :
    startKept (closeRecord w c s) = startKept s :=
  (startKept_stateCondition _ _ _).trans (startKept_noteClosed w c s)

theorem startKept_weirGone (w : Weir) (s : State) : startKept (weirGone w s) = startKept s := by
  unfold weirGone; dsimp only; split
  · rfl
  · rfl
  · exact startKept_closeRecord ..
  · exact startKept_closeRecord ..

theorem startKept_startWeir (w : Weir) (s : State) : startKept (startWeir w s) = startKept s := by
  unfold startWeir; split
  · exact (startKept_stateCondition _ _ _).trans (startKept_weirGone w s)
  · exact startKept_stateCondition _ _ _

theorem startKept_startConditions (s : State) : startKept (startConditions s) = startKept s := by
  have hlast : ∀ u, startKept (stateLogLoss (stateStoreFault u)) = startKept u := fun u =>
    startKept_of_outsideAlarms (by simp)
  unfold startConditions
  dsimp only
  rw [hlast, eachWeir_view startKept _ startKept_startWeir, eachSide_view startKept _ fun r s =>
    startKept_of_outsideAlarms (outsideAlarms_stateRakeJammed r s), eachPump_view startKept _ fun p s =>
    startKept_of_outsideAlarms (outsideAlarms_statePumpConditions p s)]

/-- The mandatory check turns on the active tables (R174). -/
theorem mandatoryFault_congr (h : t.tables.active = s.tables.active) : t.mandatoryFault = s.mandatoryFault := by
  have hactive : t.tableActive = s.tableActive := by
    funext x; rw [tableActive_eq, tableActive_eq, h]
  unfold State.mandatoryFault State.roleOk State.roles State.installedPumps State.installed State.pumpEntry
    State.bands State.pointDefs State.taps State.bandTable State.pumpTable State.station
  rw [hactive, h]

/-- The mode at the end of a start turns on the tables and the seconds counted. -/
theorem startKept_startMode (h : startKept t = startKept s) :
    startKept (startMode t) = startKept (startMode s) := by
  have htables : t.tables = s.tables := by simpa [startKept] using congrArg State.tables h
  have hnow : t.now = s.now := by
    simpa [startKept, State.now] using congrArg (fun u : State => u.chip.uptime) h
  unfold startMode enterSettling
  rw [mandatoryFault_congr (congrArg Tables.active htables), htables, hnow]
  split
  · exact congrArg (fun u : State =>
      { u with tables := { s.tables with mode := .settling, settling := some s.now } }) h
  · exact h

theorem startKept_postCommand (a : Actuator) (c : CommandCode) (g : Byte) (n : Option Nat) (s : State) :
    startKept (postCommand a c g n s) = startKept s := by
  unfold postCommand
  split
  · rfl
  · have hlap : ∀ lap : List LapEntry, (lap.map fun e =>
        if e.own.isFor a then { e with superseded := true } else e).map unmarked = lap.map unmarked := by
      intro lap
      rw [List.map_map]
      refine List.map_congr_left fun e _ => ?_
      simp only [Function.comp_apply]
      split <;> rfl
    simp only [startKept, supersede, unmarkedTx_supersede, hlap]

theorem startKept_postNotice (o : OwnFrame) (s : State) : startKept (postNotice o s) = startKept s := by
  have h := congrArg startKept (postNotice_frame o s)
  exact h

@[simp] theorem startKept_finishAlarms (s : State) : startKept (finishAlarms s) = startKept s := by
  unfold finishAlarms flushNotices
  rw [foldl_view startKept _ fun s o => startKept_postNotice o s]
  unfold judgeAnnunciator
  split
  · rfl
  · exact startKept_postCommand .annunciator .annunciate _ none _

/-- What a start leaves of the blocks' start values. -/
theorem startKept_start (addr : Byte) (rate : BitVec 2) (s : State) :
    startKept (start addr rate s) = startKept (startMode (startBlocks (startBase addr rate s))) := by
  rw [start_eq, startKept_finishAlarms]
  exact startKept_startMode (startKept_startConditions _)

/-! ### The annunciator (R156) -/

/-- No annunciator mode is posted yet, and the horn is not silenced. -/
structure Unposted (s : State) : Prop where
  posted : s.alarms.posted = none
  confirmed : s.alarms.confirmed = false
  silence : s.alarms.silence = false
  actuator : s.transit.actuator = []

theorem silence_stateCondition (n : Nat) (b : Bool) (h : s.alarms.silence = false) :
    (stateCondition n b s).alarms.silence = false := by
  have hchange : ∀ st u, u.alarms.silence = false → (changeAlarm n st u).alarms.silence = false := by
    intro st u hu
    unfold changeAlarm notifyChange wakeHorn
    repeat' split
    exacts [rfl, rfl, hu, hu]
  unfold stateCondition
  split
  · exact h
  · rcases followCondition_cases n b (s.setAlarm n { s.alarm n with condition := b }) with hf | ⟨st, hf⟩
    · rw [hf]; exact h
    · rw [hf]; exact hchange _ _ h

theorem unposted_stateCondition (h : Unposted s) (n : Nat) (b : Bool) : Unposted (stateCondition n b s) := by
  have hf := outsideAlarms_stateCondition n b s
  refine ⟨?_, ?_, silence_stateCondition n b h.silence, (actuator_of_outsideAlarms hf).trans h.actuator⟩
  · exact (congrArg (fun u : State => u.alarms.posted) hf).trans h.posted
  · exact (congrArg (fun u : State => u.alarms.confirmed) hf).trans h.confirmed

theorem Unposted.of_eq (h : Unposted s) (ha : t.alarms = s.alarms)
    (hq : t.transit.actuator = s.transit.actuator) : Unposted t :=
  ⟨ha ▸ h.posted, ha ▸ h.confirmed, ha ▸ h.silence, hq.trans h.actuator⟩

theorem unposted_closeRecord (h : Unposted s) (w : Weir) (c : Capture) : Unposted (closeRecord w c s) := by
  refine unposted_stateCondition ?_ _ _
  have hclosed : Unposted (noteClosed w c s) := by
    unfold noteClosed; split
    · exact h
    · exact h.of_eq rfl rfl
  exact hclosed.of_eq rfl rfl

theorem unposted_startWeir (h : Unposted s) (w : Weir) : Unposted (startWeir w s) := by
  have hflag : Unposted (flagChanged w s) := h.of_eq rfl rfl
  have hgone : Unposted (weirGone w s) := by
    unfold weirGone; dsimp only; split
    · exact h
    · exact h.of_eq rfl rfl
    · exact unposted_closeRecord hflag _ _
    · exact unposted_closeRecord hflag _ _
  unfold startWeir; split
  · exact unposted_stateCondition hgone _ _
  · exact unposted_stateCondition h _ _

/-- What every step of a fold keeps, the fold keeps. -/
theorem foldl_keeps {α : Type} {P : State → Prop} {f : State → α → State} (hf : ∀ u a, P u → P (f u a))
    (h : P s) (as : List α) : P (as.foldl f s) := by
  induction as generalizing s with
  | nil => exact h
  | cons a as ih => exact ih (hf s a h)

theorem unposted_statePumpConditions (h : Unposted s) (p : Pump) : Unposted (statePumpConditions p s) :=
  unposted_stateCondition (unposted_stateCondition h _ _) _ _

theorem unposted_stateRakeJammed (h : Unposted s) (r : Side) : Unposted (stateRakeJammed r s) :=
  unposted_stateCondition h _ _

theorem unposted_stateStoreFault (h : Unposted s) : Unposted (stateStoreFault s) :=
  unposted_stateCondition h _ _

theorem unposted_stateLogLoss (h : Unposted s) : Unposted (stateLogLoss s) :=
  unposted_stateCondition h _ _

theorem unposted_startConditions (h : Unposted s) : Unposted (startConditions s) := by
  have hpumps : Unposted (eachPump statePumpConditions s) :=
    foldl_keeps (P := Unposted) (f := fun s p => statePumpConditions p s)
      (fun _ p hu => unposted_statePumpConditions hu p) h pumps
  have hsides : Unposted (eachSide stateRakeJammed (eachPump statePumpConditions s)) :=
    foldl_keeps (P := Unposted) (f := fun s r => stateRakeJammed r s)
      (fun _ r hu => unposted_stateRakeJammed hu r) hpumps sides
  have hweirs : Unposted (eachWeir startWeir (eachSide stateRakeJammed (eachPump statePumpConditions s))) :=
    foldl_keeps (P := Unposted) (f := fun s w => startWeir w s) (fun _ w hu => unposted_startWeir hu w) hsides weirs
  exact unposted_stateLogLoss (unposted_stateStoreFault hweirs)

theorem unposted_startMode (h : Unposted s) : Unposted (startMode s) := by
  unfold startMode; split
  · exact h.of_eq rfl rfl
  · exact h

/-- Where none is posted yet, the end of an event posts the annunciator mode (R156). -/
theorem finishAlarms_unposted (h : s.alarms.posted = none) :
    finishAlarms s = flushNotices (postAnnunciate s.annMode s) := by
  unfold finishAlarms judgeAnnunciator
  rw [if_neg (by simp [h])]

theorem actuator_flushNotices (s : State) : (flushNotices s).transit.actuator = s.transit.actuator := by
  unfold flushNotices
  refine (foldl_view (fun u : State => u.transit.actuator) _ (fun u o => ?_) _ _).trans rfl
  simpa using congrArg (fun v : State => v.transit.actuator) (postNotice_frame o u)

/-- The annunciator mode turns on the alarm list, the silence flag and the ALARM table. -/
theorem annMode_congr (ha : t.alarms.entries = s.alarms.entries) (hs : t.alarms.silence = s.alarms.silence)
    (ht : t.tables.active.alarm = s.tables.active.alarm) : t.annMode = s.annMode := by
  unfold State.annMode State.alarm State.priority State.alarmTable
  rw [ha, hs, ht]

/-- The annunciator after an event that found nothing posted (R156). -/
theorem annunciator_finishAlarms (h : Unposted s) :
    (finishAlarms s).alarms.silence = false ∧ (finishAlarms s).alarms.posted = some (finishAlarms s).annMode ∧
      (finishAlarms s).alarms.confirmed = false ∧
      (finishAlarms s).transit.actuator = match (finishAlarms s).gateEntry .annunciator with
        | none => []
        | some g => [⟨some g.node, [g.channel, 3, (finishAlarms s).annMode.code],
            .command .annunciator .annunciate (finishAlarms s).annMode.code, 0⟩] := by
  have hkept := outsideDrives_finishAlarms s
  have halarms : (finishAlarms s).alarms =
      { s.alarms with posted := some s.annMode, confirmed := false } := by
    rw [finishAlarms_unposted h.posted, alarms_flushNotices]
    simp [postAnnunciate]
  have hmode : (finishAlarms s).annMode = s.annMode :=
    annMode_congr (by rw [halarms]) (by rw [halarms]) (by rw [tables_of_outsideDrives hkept])
  have hgate : (finishAlarms s).gateEntry .annunciator = s.gateEntry .annunciator := by
    unfold State.gateEntry; rw [gate_of_outsideDrives hkept]
  refine ⟨halarms ▸ h.silence, by rw [halarms, hmode], by rw [halarms], ?_⟩
  rw [hgate, hmode, finishAlarms_unposted h.posted, actuator_flushNotices, postAnnunciate,
    actuator_postCommand]
  have hentry : ({ s with alarms := { s.alarms with posted := some s.annMode, confirmed := false } } :
    State).gateEntry .annunciator = s.gateEntry .annunciator := rfl
  rw [hentry]
  cases hg : s.gateEntry .annunciator with
  | none => exact h.actuator
  | some g =>
    have hdrive : g.drive = .annunciator := by simpa using List.find?_some hg
    simp [commandPosted, h.actuator, commandFrame, hdrive, CommandCode.code]

end Sys2Proof.Proofs
end

section
/-! PROOF. What every start leaves, its alarms and notices apart (R176). -/

namespace Sys2Proof.Proofs

open Sys2Proof.Machine Sys2Proof.Safety Sys2Proof.Laws

variable {s t u b : State}

/-! ### The tables once restored -/

/-- What a start restores the tables from: the writes abandoned, and at a cold start the retained fields cold. -/
def startSource (addr : Byte) (rate : BitVec 2) (s : State) : State :=
  let x := abandonWrites
    { s with chip := { s.chip with
        mainPower := true, resetLow := false, ownAddress := strapAddress addr, rate := rate,
        checkAgrees := true } }
  if s.chip.checkAgrees then x else coldRetained x

theorem startBase_eq (addr : Byte) (rate : BitVec 2) (s : State) :
    startBase addr rate s = restoreTables (startSource addr rate s) := rfl

theorem writes_startSource (addr : Byte) (rate : BitVec 2) (s : State) :
    (startSource addr rate s).tables.writing = none ∧ (startSource addr rate s).tables.queue = [] := by
  unfold startSource
  cases s.chip.checkAgrees <;> exact ⟨rfl, rfl⟩

theorem chip_startSource (addr : Byte) (rate : BitVec 2) (s : State) :
    (startSource addr rate s).chip = { s.chip with
      mainPower := true, resetLow := false, ownAddress := strapAddress addr, rate := rate
      checkAgrees := true } := by
  unfold startSource
  cases s.chip.checkAgrees <;> rfl

/-- `b` is the state of a start with its tables restored from the store and no write in progress or queued. -/
structure Restored (b : State) : Prop where
  on : b.chip.mainPower = true ∧ b.chip.resetLow = false ∧ b.chip.checkAgrees = true
  writes : b.tables.writing = none ∧ b.tables.queue = []
  copy : ∀ x, activeCopy b.tables.active x = restoredIn (restoredBefore b x) b.tables.stored x
  mark : ∀ x, b.tables.marks.get x = !(activeCopy b.tables.active x).isSome
  fresh : b.tables.shadows = PerTable.all .empty ∧ b.tables.outcomes = PerTable.all .none ∧
    b.tables.refused = 0 ∧ b.tables.writeFailures = 0 ∧ b.tables.mode = .standby ∧ b.tables.settling = none

theorem restored_startBase (addr : Byte) (rate : BitVec 2) (s : State) : Restored (startBase addr rate s) := by
  rw [startBase_eq]
  have h := restoredTo_restoreTables (startSource addr rate s)
  have hchip : (restoreTables (startSource addr rate s)).chip = _ :=
    (chip_restoreTables _).trans (chip_startSource addr rate s)
  refine ⟨by rw [hchip]; exact ⟨rfl, rfl, rfl⟩, ?_, fun x => ?_, fun x => h.mark x (mem_tableIds x), ?_⟩
  · rw [h.frame]; exact writes_startSource addr rate s
  · have hstored := congrArg (fun u : State => u.tables.stored) h.frame
    exact (h.copy x (mem_tableIds x)).trans (congrArg (restoredIn _ · x) hstored.symm)
  · rw [h.frame]; exact ⟨rfl, rfl, rfl, rfl, rfl, rfl⟩

/-! ### The blocks' start values -/

/-- `t` comes of the blocks' start values over `b` by the conditions, the mode and the end of a start. -/
def FromBlocks (b t : State) : Prop :=
  startKept t = startKept (startMode (startBlocks b)) ∧ unmarkedTx t.loop.tx = .idle

theorem fromBlocks_start (addr : Byte) (rate : BitVec 2) (s : State) :
    FromBlocks (startBase addr rate s) (start addr rate s) :=
  ⟨startKept_start addr rate s, (ended_start addr rate s).worked.tx⟩

theorem startMode_frame (s : State) : startMode s = { s with tables := { s.tables with
    mode := (startMode s).tables.mode, settling := (startMode s).tables.settling } } := by
  unfold startMode enterSettling
  split <;> rfl

section Fields
variable (h : FromBlocks b t)
include h

theorem FromBlocks.tables : t.tables = (startMode (startBlocks b)).tables := by
  simpa [startKept] using congrArg State.tables h.1

/-- The blocks' start values, but for the mode. -/
theorem FromBlocks.kept : startKept t = startKept { startBlocks b with tables := { b.tables with
    mode := t.tables.mode, settling := t.tables.settling } } := by
  rw [h.tables, h.1]
  conv_lhs => rw [startMode_frame]
  rfl

theorem FromBlocks.tablesKept : t.tables = { b.tables with
    mode := t.tables.mode, settling := t.tables.settling } := by
  simpa [startKept] using congrArg State.tables h.kept

theorem FromBlocks.active : t.tables.active = b.tables.active := by
  rw [h.tablesKept]

theorem FromBlocks.chip : t.chip = b.chip := by
  simpa [startKept, startBlocks] using congrArg State.chip h.kept

theorem FromBlocks.now : t.now = b.now := by unfold State.now; rw [h.chip]

theorem FromBlocks.tx : t.loop.tx = .idle := by
  have htx := h.2
  cases hx : t.loop.tx <;> simp [hx, unmarkedTx] at htx ⊢

theorem FromBlocks.loop : t.loop = { LoopPort.start with
    gapTimer := some t.nowMs, stallTimer := if t.chip.holdIn then some t.now else none } := by
  have hl : { t.loop with tx := unmarkedTx t.loop.tx } = (startBlocks b).loop := congrArg State.loop h.kept
  have htx := h.tx
  unfold State.nowMs State.now
  rw [h.chip]
  refine Eq.trans ?_ hl
  calc t.loop = { t.loop with tx := t.loop.tx } := rfl
    _ = { t.loop with tx := unmarkedTx t.loop.tx } := by rw [htx]; rfl

theorem FromBlocks.station : t.station = b.station := by unfold State.station; rw [h.active]

theorem FromBlocks.role (f : Roles → Option Nat) : t.role f = b.role f := by
  unfold State.role State.roles; rw [h.station]

theorem FromBlocks.alarmTable : t.alarmTable = b.alarmTable := by unfold State.alarmTable; rw [h.active]

theorem FromBlocks.installedPumps : t.installedPumps = b.installedPumps := by
  unfold State.installedPumps State.installed; rw [h.station]

theorem FromBlocks.bands : t.bands = b.bands := by unfold State.bands State.bandTable; rw [h.active]

theorem FromBlocks.seq : t.seq = (startBlocks b).seq := by
  simpa [startKept] using congrArg State.seq h.kept

theorem FromBlocks.screens : t.screens = (startBlocks b).screens := by
  simpa [startKept] using congrArg State.screens h.kept

theorem FromBlocks.flow : t.flow = (startBlocks b).flow := by
  simpa [startKept] using congrArg State.flow h.kept

theorem FromBlocks.gate :
    t.transit.gate = ((t.station.map (·.actuators)).getD []).map fun e => ⟨e.node, e.channel, e.drive, 0⟩ := by
  have hg : t.transit.gate = gateOf ((b.station.map (·.actuators)).getD []) [] := by
    simpa [startKept, startBlocks] using congrArg (fun u : State => u.transit.gate) h.kept
  rw [hg, h.station]
  rfl

theorem FromBlocks.traffic : t.transit.queue = [] ∧ t.transit.response = [] ∧ t.transit.lap = [] ∧
    t.transit.nextSeq = 0 ∧ t.transit.fairness = 0 := by
  have hx := congrArg State.transit h.kept
  have hlap : t.transit.lap.map unmarked = [] := congrArg Transit.lap hx
  exact ⟨congrArg Transit.queue hx, congrArg Transit.response hx, List.map_eq_nil_iff.mp hlap,
    congrArg Transit.nextSeq hx, congrArg Transit.fairness hx⟩

theorem FromBlocks.pump (p : Pump) : t.pump p = (b.pump p).restarted := by
  unfold State.pump
  rw [h.seq]
  cases p <;> rfl

theorem FromBlocks.rake (r : Side) : t.rake r = (b.rake r).restarted := by
  unfold State.rake
  rw [h.screens]
  cases r <;> rfl

/-- The duty order after a start is one of the installed pumps (R96). -/
theorem FromBlocks.duty : t.seq.duty.Perm t.installedPumps := by
  have hduty : t.seq.duty = b.startDuty := by rw [h.seq]; rfl
  rw [hduty, h.installedPumps, State.startDuty]
  split
  · rename_i hd
    obtain ⟨hlen, hall⟩ := hd
    have hsub : b.installedPumps ⊆ b.seq.duty := fun p hp => by
      simpa using List.all_eq_true.mp hall p hp
    have hnodup : b.installedPumps.Nodup := List.Nodup.filter _ (by decide)
    exact ((List.subperm_of_subset hnodup hsub).perm_of_length_le hlen.le).symm
  · exact .refl _

end Fields

/-- The mode after a start (R176). -/
theorem FromBlocks.mode (hb : Restored b) (h : FromBlocks b t) :
    (t.tables.mode = .settling ∧ t.tables.settling = some t.now ∧
      t.tables.wanted = .automatic ∧ t.mandatoryFault = none) ∨
    (t.tables.mode = .standby ∧ t.tables.settling = none ∧
      (t.tables.wanted = .standby ∨ t.mandatoryFault ≠ none)) := by
  have htables := h.tables
  have hfault : t.mandatoryFault = (startBlocks b).mandatoryFault := mandatoryFault_congr h.active
  obtain ⟨-, -, -, -, hmode, hsettling⟩ := hb.fresh
  unfold startMode at htables
  split at htables
  · rename_i hc
    obtain ⟨hwanted, hnone⟩ := hc
    rw [htables, h.now, hfault]
    exact .inl ⟨rfl, rfl, hwanted, Option.isNone_iff_eq_none.mp hnone⟩
  · rename_i hc
    rw [htables, hfault]
    refine .inr ⟨hmode, hsettling, ?_⟩
    cases hw : (startBlocks b).tables.wanted with
    | standby => exact .inl rfl
    | automatic => exact .inr fun hnone => hc ⟨hw, by rw [hnone]; rfl⟩

/-- What every start leaves, given its alarms and its notices. -/
theorem started_of_alarms {closing : List OwnFrame} (hb : Restored b) (h : FromBlocks b t)
    (houtbox : t.transit.outbox = Outbox.empty)
    (hann : t.alarms.silence = false ∧ t.alarms.posted = some t.annMode ∧ t.alarms.confirmed = false ∧
      t.transit.actuator = match t.gateEntry .annunciator with
        | none => []
        | some g =>
          [⟨some g.node, [g.channel, 3, t.annMode.code], .command .annunciator .annunciate t.annMode.code, 0⟩])
    (hnotices : t.transit.notice =
        closing ++ (noticesAtStart t).drop (closing.length + (noticesAtStart t).length - 8) ∧
      t.transit.count =
        { TransitCounters.zero with noticesLost := closing.length + (noticesAtStart t).length - 8 })
    (halarms : ∀ n, 1 ≤ n → n ≤ 73 → t.alarm n = entryAtStart t n) : Started closing t where
  power := by rw [h.chip]; exact hb.on
  loop := h.loop
  traffic := by
    obtain ⟨h1, h2, h3, h4, h5⟩ := h.traffic
    exact ⟨h1, h2, h3, h4, h5, houtbox⟩
  gate := h.gate
  actuator := hann.2.2.2
  notices _ := hnotices
  points := by
    have hp : t.points = Points.start := congrArg State.points h.kept
    exact hp
  flow := by
    rw [h.flow, h.role]
    exact ⟨rfl, rfl, rfl, rfl⟩
  arbiter := congrArg State.arbiter h.kept
  pumps p := by rw [h.pump]; rfl
  orders := by
    refine ⟨by rw [h.seq]; rfl, h.duty, by rw [h.seq]; rfl, by rw [h.seq]; rfl, by rw [h.seq]; rfl⟩
  bands := by rw [h.seq, h.bands]; rfl
  rakes r := by rw [h.rake]; rfl
  screens r := by
    unfold State.screen
    rw [h.screens]
    cases r <;> rfl
  falseOnsets := congrArg (fun u : State => u.spill.falseOnsets) h.kept
  alarms _ := halarms
  annunciator := ⟨hann.1, hann.2.1, hann.2.2.1⟩
  summary := by
    rw [h.alarmTable, h.now]
    exact congrArg (fun u : State => u.report.summaryTimer) h.kept
  shadows x := by
    obtain ⟨hshadows, houtcomes, -⟩ := hb.fresh
    have h1 : t.tables.shadows = b.tables.shadows := by rw [h.tablesKept]
    have h2 : t.tables.outcomes = b.tables.outcomes := by rw [h.tablesKept]
    have h3 : t.tables.marks = b.tables.marks := by rw [h.tablesKept]
    refine ⟨?_, ?_, ?_⟩
    · rw [h1, hshadows]; cases x <;> rfl
    · rw [h2, houtcomes]; cases x <;> rfl
    · rw [h3, hb.mark, tableActive_eq, h.active]
  store := by
    have h1 : t.tables.writing = b.tables.writing := by rw [h.tablesKept]
    have h2 : t.tables.queue = b.tables.queue := by rw [h.tablesKept]
    have h3 : t.tables.stored = b.tables.stored := by rw [h.tablesKept]
    refine ⟨h1.trans hb.writes.1, h2.trans hb.writes.2, fun x => restoredFromStore_of_activeCopy ?_⟩
    rw [h3, h.active, hb.copy]
    exact congrArg (restoredIn · _ x)
      (restoredBefore_congr (fun _ => by rw [h.active]) (fun _ _ _ _ => by rw [h.active])).symm
  counters := by
    obtain ⟨-, -, hrefused, hfailures, -⟩ := hb.fresh
    have h1 : t.tables.refused = b.tables.refused := by rw [h.tablesKept]
    have h2 : t.tables.writeFailures = b.tables.writeFailures := by rw [h.tablesKept]
    exact ⟨h1.trans hrefused, h2.trans hfailures⟩
  requests := congrArg State.handler h.kept
  mode := h.mode hb

end Sys2Proof.Proofs
end

section
/-! PROOF. A cold start: the conditions present from it, its notices, and its cold values (R152, R164, R176). -/

namespace Sys2Proof.Proofs

open Sys2Proof.Machine Sys2Proof.Safety Sys2Proof.Laws

variable {s t u b : State}

/-! ### A condition stated at a start (R154, R164) -/

/-- A condition, where it is present, raises its entry: it is enabled. -/
def raises (s : State) (n : Nat) (present : Bool) : Bool := present && decide (s.priority n ≠ 0)

/-- A fresh entry with the count `c` once its condition is stated. -/
def statedEntry (s : State) (n : Nat) (present : Bool) (c : Nat) : AlarmEntry where
  condition := present
  state := if raises s n present then .activeUnack else .normal
  firstActive := if raises s n present then some s.clockTime else none
  lastChange := if raises s n present then some s.clockTime else none
  count := if raises s n present then addSat 255 c 1 else c
  renotify :=
    if raises s n present && s.notified n && decide (s.priority n = 1 ∧ renotifyIn s.alarmTable ≠ 0) then
      some s.now
    else none

theorem setAlarm_alarm {n : Nat} (h : Listed s n) : s.setAlarm n (s.alarm n) = s := by
  have hset : s.alarms.entries.set (n - 1) (s.alarm n) = s.alarms.entries := by
    have hlt : n - 1 < s.alarms.entries.length := by have := h.1; have := h.2; omega
    rw [State.alarm, List.getD_eq_getElem _ _ hlt, List.set_getElem_self]
  unfold State.setAlarm
  rw [hset]

theorem setAlarm_setAlarm (n : Nat) (e e' : AlarmEntry) (s : State) :
    (s.setAlarm n e).setAlarm n e' = s.setAlarm n e' := by
  simp [State.setAlarm, List.set_set]

theorem wakeHorn_of_unsilenced (h : s.alarms.silence = false) (n : Nat) (st : AlarmState) :
    wakeHorn n st s = s := by
  unfold wakeHorn
  split
  · rw [← h]
  · rfl

/-- A condition stated of a fresh entry (R154, R155, R158, R159). -/
theorem stateCondition_fresh {n c : Nat} (h : Listed s n) (hsilence : s.alarms.silence = false)
    (he : s.alarm n = AlarmEntry.start c) (present : Bool) :
    stateCondition n present s =
      if raises s n present then notifyChange n (s.setAlarm n (statedEntry s n present c))
      else s.setAlarm n (statedEntry s n present c) := by
  cases present with
  | false =>
    have hentry : statedEntry s n false c = s.alarm n := by rw [he]; rfl
    rw [hentry, setAlarm_alarm h, stateCondition, he]
    rfl
  | true =>
    by_cases hp : s.priority n = 0
    · have hr : raises s n true = false := by simp [raises, hp]
      have hentry : statedEntry s n true c = { s.alarm n with condition := true } := by
        simp [statedEntry, hr, he, AlarmEntry.start]
      have hp' : (s.setAlarm n { s.alarm n with condition := true }).priority n = 0 := hp
      rw [hr, hentry, stateCondition, followCondition, if_pos hp', he]
      rfl
    · have hr : raises s n true = true := by simp [raises, hp]
      rw [hr, if_pos rfl, stateCondition_appears h (by rw [he]; rfl) (by rw [he]; rfl) hp, changeAlarm,
        wakeHorn_of_unsilenced (by exact hsilence), setAlarm_setAlarm, changedEntry, alarm_setAlarm_self h, he]
      have hrenotify : s.renotifyAfter n .activeUnack = (statedEntry s n true c).renotify := by
        simp [statedEntry, hr, State.renotifyAfter, AlarmState.unack, and_assoc]
      have hstated : statedEntry s n true c =
          { condition := true, state := .activeUnack, firstActive := some s.clockTime
            lastChange := some s.clockTime, count := addSat 255 c 1
            renotify := s.renotifyAfter n .activeUnack } := by
        rw [hrenotify]; simp [statedEntry, hr]
      rw [hstated]
      rfl

/-- The notice of a condition that raises a notified entry joins the notices of the event (R158). -/
theorem outbox_stateCondition_fresh {n c : Nat} (h : Listed s n) (hsilence : s.alarms.silence = false)
    (he : s.alarm n = AlarmEntry.start c) (present : Bool) :
    (stateCondition n present s).transit.outbox = { s.transit.outbox with
      alarm := s.transit.outbox.alarm ++
        if raises s n present && s.notified n then [(n, alarmNotice n false (stateCondition n present s))]
        else [] } := by
  have hnotified : (s.setAlarm n (statedEntry s n present c)).notified n = s.notified n := rfl
  rw [stateCondition_fresh h hsilence he, notifyChange, hnotified]
  cases raises s n present
  · simp
  · cases s.notified n
    · simp
    · rfl

theorem entries_stateCondition_fresh {n c : Nat} (h : Listed s n) (hsilence : s.alarms.silence = false)
    (he : s.alarm n = AlarmEntry.start c) (present : Bool) :
    (stateCondition n present s).alarms.entries =
      s.alarms.entries.set (n - 1) (statedEntry s n present c) := by
  rw [stateCondition_fresh h hsilence he, notifyChange]
  repeat' split
  all_goals rfl

/-- A fresh entry once its condition is stated; every other entry stands. -/
theorem alarm_stateCondition_fresh {n c : Nat} (h : Listed s n) (hsilence : s.alarms.silence = false)
    (he : s.alarm n = AlarmEntry.start c) (present : Bool) {m : Nat} (hm : 1 ≤ m) :
    (stateCondition n present s).alarm m = if m = n then statedEntry s n present c else s.alarm m := by
  rw [State.alarm, entries_stateCondition_fresh h hsilence he]
  exact State.alarm_setAlarm s n m (statedEntry s n present c) h.1 h.2 hm

theorem stateCondition_same {n : Nat} {present : Bool} (h : (s.alarm n).condition = present) :
    stateCondition n present s = s := if_pos h

/-- The ALARM notice of an entry turns on the entry, the active tables and the clock. -/
theorem alarmNotice_congr {n : Nat} (ha : t.alarm n = s.alarm n) (ht : t.tables.active = s.tables.active)
    (hc : t.clock = s.clock) (b : Bool) : alarmNotice n b t = alarmNotice n b s := by
  unfold alarmNotice notice State.priority State.alarmTable State.gateway State.station
  rw [ha, ht, hc]

theorem statedEntry_congr {n : Nat} (ht : t.tables.active = s.tables.active) (hc : t.clock = s.clock)
    (hnow : t.chip = s.chip) (present : Bool) (c : Nat) : statedEntry t n present c = statedEntry s n present c := by
  unfold statedEntry raises State.notified State.notifyThreshold State.priority State.alarmTable State.clockTime
    State.now
  rw [ht, hc, hnow]

theorem notified_congr {n : Nat} (ht : t.tables.active = s.tables.active) : t.notified n = s.notified n := by
  unfold State.notified State.notifyThreshold State.priority State.alarmTable
  rw [ht]

theorem raises_congr {n : Nat} (ht : t.tables.active = s.tables.active) (present : Bool) :
    raises t n present = raises s n present := by
  unfold raises State.priority State.alarmTable
  rw [ht]

/-! ### Notices into a class with room (R27) -/

/-- Notices for which the class has room join its tail in their order. -/
theorem transit_foldl_postNotice (out : List OwnFrame) (htx : s.loop.tx.sendingNotice = false)
    (h : s.transit.notice.length + out.length ≤ 8) :
    (out.foldl (fun u o => postNotice o u) s).transit =
      { s.transit with notice := s.transit.notice ++ out } := by
  induction out generalizing s with
  | nil => simp
  | cons o out ih =>
    have hroom : s.noticeFull = false := by
      simp [State.noticeFull, Config.noticeCapacity, htx] at h ⊢
      omega
    have hpost : postNotice o s =
        { s with transit := { s.transit with notice := s.transit.notice ++ [o] } } := by
      simp [postNotice, hroom]
    rw [List.foldl_cons, hpost]
    refine (ih (s := { s with transit := { s.transit with notice := s.transit.notice ++ [o] } }) htx
      (by simp at h ⊢; omega)).trans ?_
    simp

theorem transit_flushNotices (htx : s.loop.tx.sendingNotice = false)
    (h : s.transit.notice.length + s.transit.outbox.ordered.length ≤ 8) :
    (flushNotices s).transit = { s.transit with
      notice := s.transit.notice ++ s.transit.outbox.ordered, outbox := Outbox.empty } := by
  unfold flushNotices
  exact transit_foldl_postNotice (s := { s with transit := { s.transit with outbox := Outbox.empty } }) _ htx h

/-! ### The conditions of a cold start -/

/-- The blocks' start values over cold retained fields: no drive is latched, no weir spills, no alarm entry has a
count. -/
structure ColdBlocks (u : State) : Prop where
  pumps : ∀ p, u.pump p = PumpRec.cold
  rakes : ∀ r, u.rake r = RakeRec.cold
  spill : u.spill = Spill.cold
  length : u.alarms.entries.length = 73
  entries : ∀ n, u.alarm n = AlarmEntry.start 0
  silence : u.alarms.silence = false
  transit : u.transit.notice = [] ∧ u.transit.outbox = Outbox.empty ∧ u.transit.count = TransitCounters.zero

theorem ColdBlocks.pumpConditions (h : ColdBlocks u) (p : Pump) :
    u.pumpFault p = false ∧ u.pumpTripped p = false := by
  constructor
  · have hsource : ∀ f, u.sourcePresent p f = false := by
      intro f
      cases f <;> simp [State.sourcePresent, h.pumps, PumpRec.cold, PumpRec.start, Sources.fresh, Sources.absent]
    simp [State.pumpFault, hsource]
  · simp [State.pumpTripped, h.pumps, PumpRec.cold, PumpRec.start]

/-- An operation that leaves the state for every element leaves it over a list. -/
theorem foldl_fixed {α : Type} {f : State → α → State} (hf : ∀ a, f s a = s) (as : List α) :
    as.foldl f s = s := by
  induction as with
  | nil => rfl
  | cons a as ih => rw [List.foldl_cons, hf, ih]

/-- At a cold start the store's faults and the loss of the log alone are stated present (R152, R164). -/
theorem startConditions_cold (h : ColdBlocks u) :
    startConditions u = stateLogLoss (stateStoreFault u) := by
  have habsent : ∀ n, stateCondition n false u = u := fun n => stateCondition_same (by rw [h.entries]; rfl)
  have hpump : ∀ p, statePumpConditions p u = u := fun p => by
    obtain ⟨hf, ht⟩ := h.pumpConditions p
    rw [statePumpConditions, hf, ht, habsent, habsent]
  have hrake : ∀ r, stateRakeJammed r u = u := fun r => by
    rw [stateRakeJammed, h.rakes]; exact habsent _
  have hspill : ∀ w, stateSpill w u = u := fun w => by
    rw [stateSpill, h.spill]; cases w <;> exact habsent _
  have hgone : ∀ w, weirGone w u = u := fun w => by
    have hdry : (u.weir w).state = .dry := by rw [State.weir, h.spill]; cases w <;> rfl
    simp only [weirGone, hdry]
  have hweir : ∀ w, startWeir w u = u := fun w => by
    rw [startWeir, hgone, hspill, ite_self]
  have hpumps : eachPump statePumpConditions u = u := foldl_fixed (f := fun s p => statePumpConditions p s) hpump pumps
  have hsides : eachSide stateRakeJammed u = u := 
    foldl_fixed (f := fun s r => stateRakeJammed r s) hrake sides
  have hweirs : eachWeir startWeir u = u := foldl_fixed (f := fun s w => startWeir w s) hweir weirs
  unfold startConditions
  dsimp only
  rw [hpumps, hsides, hweirs]

end Sys2Proof.Proofs
end

section
/-! PROOF. A cold start settled: its alarm list, its notices and its cold values (R152, R158, R164, R176). -/

namespace Sys2Proof.Proofs

open Sys2Proof.Machine Sys2Proof.Safety Sys2Proof.Laws

variable {s t u b : State}

/-! ### The alarm list and the notices of a cold start -/

/-- The store's faults are present (R173). -/
def storeFaulty (s : State) : Bool := tableIds.any s.tables.marks.get

theorem stateStoreFault_eq (s : State) : stateStoreFault s = stateCondition 24 (storeFaulty s) s := by
  have h : s.tables.marks.toList.any id = storeFaulty s := by
    simp [PerTable.toList, storeFaulty, tableIds, PerTable.get]
  rw [stateStoreFault, h]

/-- The conditions of a cold start: STORE_FAULT, where a table is not restored, and LOG_LOSS. -/
def presentCold (s : State) (n : Nat) : Bool := (decide (n = 24) && storeFaulty s) || decide (n = 25)

theorem ColdBlocks.listed (h : ColdBlocks u) {n : Nat} (h1 : 1 ≤ n) (h2 : n ≤ 73) : Listed u n :=
  ⟨h1, by rw [h.length]; exact h2⟩

theorem ColdBlocks.stateLogLoss (h : ColdBlocks u) :
    stateLogLoss (stateStoreFault u) = stateCondition 25 true (stateStoreFault u) := by
  have hspill : (stateStoreFault u).spill = u.spill :=
    spill_of_outsideDrives (outsideDrives_stateStoreFault u)
  rw [Machine.stateLogLoss, hspill, h.spill]
  rfl

/-- What stands of the alarm unit when LOG_LOSS is stated at a cold start. -/
theorem ColdBlocks.beforeLogLoss (h : ColdBlocks u) :
    Listed (stateStoreFault u) 25 ∧ (stateStoreFault u).alarms.silence = false ∧
      (stateStoreFault u).alarm 25 = AlarmEntry.start 0 := by
  have h24 := h.listed (n := 24) (by omega) (by omega)
  rw [stateStoreFault_eq]
  refine ⟨⟨by omega, ?_⟩, silence_stateCondition _ _ h.silence, ?_⟩
  · rw [entries_stateCondition_fresh h24 h.silence (h.entries 24), List.length_set, h.length]; omega
  · rw [alarm_stateCondition_fresh h24 h.silence (h.entries 24) _ (by omega), if_neg (by omega), h.entries]

theorem views_stateStoreFault (s : State) : (stateStoreFault s).tables = s.tables ∧
    (stateStoreFault s).clock = s.clock ∧ (stateStoreFault s).chip = s.chip := by
  have h := outsideDrives_stateStoreFault s
  exact ⟨tables_of_outsideDrives h, clock_of_outsideDrives h, chip_of_outsideDrives h⟩

/-- The alarm list of a cold start. -/
theorem ColdBlocks.alarm (h : ColdBlocks u) {n : Nat} (hn : 1 ≤ n) :
    (startConditions u).alarm n = statedEntry u n (presentCold u n) 0 := by
  have h24 := h.listed (n := 24) (by omega) (by omega)
  obtain ⟨hl, hsilence, he⟩ := h.beforeLogLoss
  obtain ⟨htables, hclock, hchip⟩ := views_stateStoreFault u
  rw [startConditions_cold h, h.stateLogLoss, alarm_stateCondition_fresh hl hsilence he _ hn,
    statedEntry_congr (by rw [htables]) hclock hchip, stateStoreFault_eq,
    alarm_stateCondition_fresh h24 h.silence (h.entries 24) _ hn, h.entries]
  by_cases hlog : n = 25
  · subst hlog; rfl
  · by_cases hstore : n = 24
    · subst hstore; simp [presentCold]
    · simp [presentCold, hlog, hstore, statedEntry, raises, AlarmEntry.start]

/-- Entry `n` has its notice posted by a cold start: it is raised and notified (R158). -/
def notifiedCold (s : State) (n : Nat) : Bool := raises s n (presentCold s n) && s.notified n

/-- The notices of a cold start wait for the end of its event. -/
theorem ColdBlocks.outbox (h : ColdBlocks u) : (startConditions u).transit.outbox =
    { Outbox.empty with alarm :=
      (if notifiedCold u 24 then [(24, alarmNotice 24 false (startConditions u))] else []) ++
        (if notifiedCold u 25 then [(25, alarmNotice 25 false (startConditions u))] else []) } := by
  have h24 := h.listed (n := 24) (by omega) (by omega)
  obtain ⟨hl, hsilence, he⟩ := h.beforeLogLoss
  obtain ⟨htables, hclock, hchip⟩ := views_stateStoreFault u
  have hnotice : alarmNotice 24 false (stateStoreFault u) = alarmNotice 24 false (startConditions u) := by
    have hf : outsideDrives (startConditions u) = outsideDrives (stateStoreFault u) := by
      rw [startConditions_cold h]; simp
    refine alarmNotice_congr ?_ (by rw [tables_of_outsideDrives hf]) (clock_of_outsideDrives hf).symm _
    rw [startConditions_cold h, h.stateLogLoss, alarm_stateCondition_fresh hl hsilence he _ (by omega)]
    rfl
  have hraised : (raises (stateStoreFault u) 25 true && (stateStoreFault u).notified 25) =
      notifiedCold u 25 := by
    rw [raises_congr (s := u) (by rw [htables]), notified_congr (s := u) (by rw [htables])]
    rfl
  rw [← hnotice, startConditions_cold h, h.stateLogLoss, outbox_stateCondition_fresh hl hsilence he,
    hraised, stateStoreFault_eq, outbox_stateCondition_fresh h24 h.silence (h.entries 24), h.transit.2.1]
  simp [notifiedCold, presentCold, Outbox.empty]

theorem ordered_two (x y : Bool) (o o' : OwnFrame) :
    ({ Outbox.empty with alarm := (if x then [(24, o)] else []) ++ (if y then [(25, o')] else []) } :
      Outbox).ordered = (if x then [o] else []) ++ (if y then [o'] else []) := by
  cases x <;> cases y <;> rfl

theorem filter_two (x y : Bool) :
    alarmNumbers.filter (fun n => (decide (n = 24) && x) || (decide (n = 25) && y)) =
      (if x then [24] else []) ++ (if y then [25] else []) := by
  cases x <;> cases y <;> decide

/-! ### The retained fields at their cold values (R96, R106, R108, R136, R152, R162, R164) -/

theorem restoreTables_frame (s : State) :
    restoreTables s = { s with tables := (restoreTables s).tables } := by
  have h := (restoredTo_restoreTables s).frame
  rw [h]
  rfl

/-- The retained fields of a cold start once the tables are restored. -/
structure ColdBase (b : State) : Prop where
  pumps : b.seq.pumps = Six.all PumpRec.cold
  duty : b.seq.duty = []
  rakes : b.screens.rakes = ⟨RakeRec.cold, RakeRec.cold⟩
  spill : b.spill = Spill.cold
  totals : b.flow.totals = Six.all 0
  clock : b.clock = ⟨0, 0, false⟩
  wanted : b.tables.wanted = .automatic
  length : b.alarms.entries.length = 73
  entries : ∀ e ∈ b.alarms.entries, e = AlarmEntry.start 0

theorem coldBase_startBase (addr : Byte) (rate : BitVec 2) (hcold : s.chip.checkAgrees = false)
    (hlen : s.alarms.entries.length = 73) : ColdBase (startBase addr rate s) := by
  have hsource : ∃ x : State, startSource addr rate s = coldRetained x ∧ x.alarms = s.alarms := by
    refine ⟨_, if_neg (by simp [hcold]), rfl⟩
  obtain ⟨x, hx, halarms⟩ := hsource
  have hwanted := congrArg (fun u : State => u.tables.wanted) (restoredTo_restoreTables (coldRetained x)).frame
  rw [startBase_eq, hx]
  refine ⟨?_, ?_, ?_, ?_, ?_, ?_, hwanted, ?_, ?_⟩
  · rw [restoreTables_frame]; rfl
  · rw [restoreTables_frame]; rfl
  · rw [restoreTables_frame]; rfl
  · rw [restoreTables_frame]; rfl
  · rw [restoreTables_frame]; rfl
  · rw [restoreTables_frame]; rfl
  · rw [restoreTables_frame]
    simp [coldRetained, halarms, hlen]
  · rw [restoreTables_frame]
    intro e he
    obtain ⟨_, _, rfl⟩ := List.mem_map.mp he
    rfl

theorem ColdBase.blocks (h : ColdBase b) : ColdBlocks (startBlocks b) where
  pumps p := by
    have hp : (startBlocks b).pump p = (b.seq.pumps.get p).restarted := by cases p <;> rfl
    rw [hp, h.pumps]
    cases p <;> rfl
  rakes r := by
    have hr : (startBlocks b).rake r = (b.screens.rakes.get r).restarted := by cases r <;> rfl
    rw [hr, h.rakes]
    cases r <;> rfl
  spill := by
    have hs : (startBlocks b).spill = b.spill.restarted := rfl
    rw [hs, h.spill]
    rfl
  length := by simp [startBlocks, Alarms.start, h.length]
  entries n := by
    have hall : ∀ e ∈ (startBlocks b).alarms.entries, e = AlarmEntry.start 0 := by
      intro e he
      simp only [startBlocks, Alarms.start, List.map_map, List.mem_map] at he
      obtain ⟨e', he', rfl⟩ := he
      rw [h.entries e' he']
      rfl
    unfold State.alarm
    rw [List.getD_eq_getElem?_getD]
    cases hg : (startBlocks b).alarms.entries[n - 1]? with
    | none => rfl
    | some e => exact hall e (List.mem_of_getElem? hg)
  silence := rfl
  transit := ⟨rfl, rfl, rfl⟩

/-! ### The cold start -/

/-- `t` is what a cold start leaves of `b`. -/
structure ColdStarted (b t : State) : Prop where
  restored : Restored b
  base : ColdBase b
  blocks : FromBlocks b t
  ending : t = finishAlarms (startMode (startConditions (startBlocks b)))

theorem coldStarted_start (addr : Byte) (rate : BitVec 2) (hcold : s.chip.checkAgrees = false)
    (hlen : s.alarms.entries.length = 73) : ColdStarted (startBase addr rate s) (start addr rate s) :=
  ⟨restored_startBase addr rate s, coldBase_startBase addr rate hcold hlen, fromBlocks_start addr rate s,
    start_eq addr rate s⟩

theorem views_startMode (s : State) : (startMode s).alarms = s.alarms ∧ (startMode s).transit = s.transit ∧
    (startMode s).spill = s.spill ∧ (startMode s).clock = s.clock ∧
    (startMode s).tables.active = s.tables.active := by
  unfold startMode enterSettling
  split <;> exact ⟨rfl, rfl, rfl, rfl, rfl⟩

theorem transit_postAnnunciate (m : AnnMode) (s : State) :
    (postAnnunciate m s).transit.notice = s.transit.notice ∧
      (postAnnunciate m s).transit.outbox = s.transit.outbox ∧
      (postAnnunciate m s).transit.count = s.transit.count := by
  unfold postAnnunciate postCommand
  split <;> exact ⟨rfl, rfl, rfl⟩

theorem unposted_ending (b : State) : Unposted (startMode (startConditions (startBlocks b))) :=
  unposted_startMode (unposted_startConditions ⟨rfl, rfl, rfl, rfl⟩)

/-- Conditions stated post no notice before the event ends. -/
theorem notice_startConditions (h : ColdBlocks u) :
    (startConditions u).transit.notice = u.transit.notice ∧
      (startConditions u).transit.count = u.transit.count := by
  have hf : outsideAlarms (startConditions u) = outsideAlarms u := by
    rw [startConditions_cold h]; simp
  exact ⟨by simpa [outsideAlarms] using congrArg (fun v : State => v.transit.notice) hf,
    by simpa [outsideAlarms] using congrArg (fun v : State => v.transit.count) hf⟩

section Cold
variable (h : ColdStarted b t)
include h

theorem ColdStarted.clock : t.clock = b.clock := by
  simpa [startKept, startBlocks] using congrArg State.clock h.blocks.kept

theorem ColdStarted.spill : t.spill = Spill.cold := by
  have hcold := h.base.blocks
  have hconditions : (startConditions (startBlocks b)).spill = (startBlocks b).spill := by
    rw [startConditions_cold hcold]
    exact spill_of_outsideDrives (by simp)
  rw [h.ending, spill_of_outsideDrives (outsideDrives_finishAlarms _), (views_startMode _).2.2.1,
    hconditions, hcold.spill]

theorem ColdStarted.alarm {n : Nat} (hn : 1 ≤ n) :
    t.alarm n = statedEntry t n (presentCold t n) 0 := by
  have halarm : t.alarm n = (startConditions (startBlocks b)).alarm n := by
    rw [h.ending, alarm_finishAlarms, State.alarm, (views_startMode _).1]
    rfl
  have hmarks : presentCold t n = presentCold (startBlocks b) n := by
    unfold presentCold storeFaulty
    rw [h.blocks.tablesKept]
    rfl
  rw [halarm, h.base.blocks.alarm hn, hmarks]
  exact (statedEntry_congr h.blocks.active h.clock h.blocks.chip _ _).symm

/-- The conditions present from a cold start (R164). -/
theorem ColdStarted.present (n : Nat) : presentFromStart t n = presentCold t n := by
  have hpump : ∀ p, (t.pump p).latch = none := fun p => by
    rw [h.blocks.pump, State.pump, h.base.pumps]; cases p <;> rfl
  have hrake : ∀ r, (t.rake r).latch = none := fun r => by
    rw [h.blocks.rake, State.rake, h.base.rakes]; cases r <;> rfl
  have hweir : ∀ w, (t.weir w).state = .dry := fun w => by
    rw [State.weir, h.spill]; cases w <;> rfl
  simp [presentFromStart, presentCold, storeFaulty, pumps, hpump, hrake, hweir, h.spill, Spill.cold]

theorem ColdStarted.entryAtStart {n : Nat} (hn : 1 ≤ n) : t.alarm n = entryAtStart t n := by
  have hraised : raisedAtStart t n = raises t n (presentCold t n) := by
    rw [raisedAtStart, h.present]; rfl
  rw [Safety.entryAtStart, hraised, h.present, h.alarm hn]
  rfl

/-- The notices of a cold start, in entry-number order. -/
theorem ColdStarted.noticesAtStart : noticesAtStart t =
    (if notifiedCold t 24 then [alarmNotice 24 false t] else []) ++
      (if notifiedCold t 25 then [alarmNotice 25 false t] else []) := by
  have hfilter : (fun n => raisedAtStart t n && t.notified n) =
      fun n => (decide (n = 24) && notifiedCold t 24) || (decide (n = 25) && notifiedCold t 25) := by
    funext n
    rw [raisedAtStart, h.present]
    by_cases hlog : n = 25
    · subst hlog; rfl
    · by_cases hstore : n = 24
      · subst hstore; simp [notifiedCold, raises]
      · simp [presentCold, hlog, hstore]
  rw [Safety.noticesAtStart, hfilter, filter_two, List.map_append]
  cases notifiedCold t 24 <;> cases notifiedCold t 25 <;> rfl

/-- The notices of a cold start as they wait for the end of its event. -/
theorem ColdStarted.ordered :
    (startConditions (startBlocks b)).transit.outbox.ordered = Safety.noticesAtStart t := by
  have hnotified : ∀ n, notifiedCold (startBlocks b) n = notifiedCold t n := fun n => by
    unfold notifiedCold presentCold storeFaulty
    rw [raises_congr (t := startBlocks b) (s := t) h.blocks.active.symm,
      notified_congr (t := startBlocks b) (s := t) h.blocks.active.symm, h.blocks.tablesKept]
    rfl
  have hnotice : ∀ n, alarmNotice n false (startConditions (startBlocks b)) = alarmNotice n false t := fun n => by
    have hf : outsideDrives (startConditions (startBlocks b)) = outsideDrives (startBlocks b) := by
      rw [startConditions_cold h.base.blocks]; simp
    refine alarmNotice_congr ?_ ?_ ?_ _
    · rw [h.ending, alarm_finishAlarms, State.alarm, State.alarm, (views_startMode _).1]
    · rw [tables_of_outsideDrives hf]; exact h.blocks.active.symm
    · rw [clock_of_outsideDrives hf]; exact h.clock.symm
  rw [h.base.blocks.outbox, ordered_two, h.noticesAtStart, hnotified, hnotified, hnotice, hnotice]

theorem ColdStarted.notices :
    t.transit.notice = Safety.noticesAtStart t ∧ t.transit.count = TransitCounters.zero ∧
      (Safety.noticesAtStart t).length ≤ 8 := by
  have hlen : (Safety.noticesAtStart t).length ≤ 8 := by
    rw [h.noticesAtStart]
    cases notifiedCold t 24 <;> cases notifiedCold t 25 <;> simp
  have hended := views_startMode (startConditions (startBlocks b))
  have hsending : (postAnnunciate (startMode (startConditions (startBlocks b))).annMode
      (startMode (startConditions (startBlocks b)))).loop.tx.sendingNotice = false := by
    have hworked := (worked_startMode (worked_startConditions (.refl (startBlocks b))))
    rw [← sendingNotice_unmarkedTx, (worked_postAnnunciate hworked _).tx]
    rfl
  obtain ⟨hnotice, houtbox, hcount⟩ := transit_postAnnunciate
    (startMode (startConditions (startBlocks b))).annMode (startMode (startConditions (startBlocks b)))
  obtain ⟨hempty, -, hzero⟩ := h.base.blocks.transit
  obtain ⟨hfirst, hsecond⟩ := notice_startConditions h.base.blocks
  rw [hended.2.1] at hnotice houtbox hcount
  have hflush := transit_flushNotices hsending (by
    rw [hnotice, houtbox, h.ordered, hfirst, hempty]; simpa using hlen)
  rw [← finishAlarms_unposted (unposted_ending b).posted, ← h.ending] at hflush
  refine ⟨?_, ?_, hlen⟩
  · rw [hflush]
    simp only [hnotice, houtbox, hfirst, hempty, h.ordered, List.nil_append]
  · rw [hflush]
    simp only [hcount, hsecond, hzero]

end Cold

/-- What a cold start leaves. -/
theorem ColdStarted.started (h : ColdStarted b t) : Started [] t := by
  obtain ⟨hnotices, hcount, hlen⟩ := h.notices
  refine started_of_alarms h.restored h.blocks ?_ ?_ ⟨?_, ?_⟩ fun n hn _ => h.entryAtStart hn
  · rw [h.ending, outbox_finishAlarms]
  · have hann := annunciator_finishAlarms (unposted_ending b)
    rw [← h.ending] at hann
    exact hann
  · simpa [hlen] using hnotices
  · simp only [List.length_nil, Nat.zero_add, Nat.sub_eq_zero_of_le hlen]
    exact hcount

/-- What stands intact in the store as a start restores the tables stood so before it (R173, R176). -/
theorem intact_of_startBase {addr : Byte} {rate : BitVec 2} {x : TableId} {image : List Byte}
    (h : (startBase addr rate s).tables.stored.get x = .intact image) :
    s.tables.stored.get x = .intact image := by
  have hstored : (startBase addr rate s).tables.stored = match s.tables.writing with
      | some (y, _) => s.tables.stored.set y .failing
      | none => s.tables.stored := by
    refine (congrArg (fun u : State => u.tables.stored)
      (restoredTo_restoreTables (startSource addr rate s)).frame).trans ?_
    unfold startSource
    cases s.chip.checkAgrees <;> rfl
  rw [hstored] at h
  cases hw : s.tables.writing with
  | none => simpa [hw] using h
  | some w =>
    simp only [hw, PerTable.get_set] at h
    split at h
    · cases h
    · exact h

/-- A table active after a start stood intact in the store before it, and is restored from there (R176). -/
theorem stored_of_active {addr : Byte} {rate : BitVec 2} {x : TableId}
    (hx : (start addr rate s).tableActive x = true) : ∃ image, s.tables.stored.get x = .intact image ∧
      (start addr rate s).activeImage x = some image := by
  have h := fromBlocks_start addr rate s
  rw [tableActive_eq, h.active, (restored_startBase addr rate s).copy] at hx
  obtain ⟨⟨image, d⟩, hd⟩ := Option.isSome_iff_exists.mp hx
  obtain ⟨hstored, -⟩ := restoredIn_eq_some hd
  refine ⟨image, intact_of_startBase hstored, ?_⟩
  rw [activeImage_eq, h.active, (restored_startBase addr rate s).copy, hd]
  rfl

/-- The count of an entry after a cold start (R164). -/
theorem ColdStarted.count (h : ColdStarted b t) {n : Nat} (hn : 1 ≤ n) : (t.alarm n).count =
    if (t.alarm n).condition = true ∧ t.priority n ≠ 0 then 1 else 0 := by
  rw [h.alarm hn]
  simp [statedEntry, raises, addSat]

/-- The cold values (R96, R106, R108, R121, R136, R152, R162, R164). -/
theorem ColdStarted.values (h : ColdStarted b t) :
    (∀ p, (t.pump p).mgmt = .auto ∧ (t.pump p).latch = none ∧ (t.pump p).history = [] ∧
        (t.pump p).runSeconds = 0) ∧
      t.seq.duty = t.installedPumps ∧
      (∀ r, (t.rake r).mgmt = .auto ∧ (t.rake r).latch = none ∧ (t.rake r).cycles = 0) ∧
      t.flow.totals = ⟨0, 0, 0, 0, 0, 0⟩ ∧ t.clock = ⟨0, 0, false⟩ ∧
      t.tables.wanted = .automatic ∧ t.spill = Spill.cold ∧ (t.alarm 25).condition = true ∧
      (∀ p : Pump, (t.alarm p.number).condition = false) ∧
      ∀ n, 1 ≤ n → n ≤ 73 → (t.alarm n).count =
        if (t.alarm n).condition = true ∧ t.priority n ≠ 0 then 1 else 0 := by
  refine ⟨fun p => ?_, ?_, fun r => ?_, ?_, h.clock.trans h.base.clock, ?_, h.spill, ?_, fun p => ?_,
    fun n hn _ => h.count hn⟩
  · rw [h.blocks.pump, State.pump, h.base.pumps]
    cases p <;> exact ⟨rfl, rfl, rfl, rfl⟩
  · have hduty : t.seq.duty = b.startDuty := by rw [h.blocks.seq]; rfl
    rw [hduty, h.blocks.installedPumps, State.startDuty, h.base.duty]
    split
    · rename_i hd
      exact (List.length_eq_zero_iff.mp hd.1.symm).symm
    · rfl
  · rw [h.blocks.rake, State.rake, h.base.rakes]
    cases r <;> exact ⟨rfl, rfl, rfl⟩
  · rw [h.blocks.flow]
    exact h.base.totals
  · rw [h.blocks.tablesKept]
    exact h.base.wanted
  · rw [h.alarm (by omega)]
    simp [statedEntry, presentCold]
  · rw [h.alarm (by cases p <;> decide)]
    cases p <;> rfl

/-- A command that begins a cold start starts from a state whose check word disagrees. -/
theorem exec_coldStart {c : Instr} {addr : Byte} {rate : BitVec 2}
    (hc : (c = .powerUp addr rate false ∧ s.chip.resetLow = false) ∨
      (s.chip.checkAgrees = false ∧
        ((c = .powerUp addr rate true ∧ s.chip.resetLow = false) ∨
          (c = .resetRelease addr rate ∧ s.chip.mainPower = true) ∨
          (c = .restartBegin addr rate ∧ s.on = true ∧ s.restartReady = true)))) :
    ∃ u : State, exec c s = .next (start addr rate u) ∧ u.chip.checkAgrees = false ∧
      u.alarms = s.alarms ∧ u.tables = s.tables := by
  have hup : ∀ held, s.chip.resetLow = false → exec (.powerUp addr rate held) s =
      .next (start addr rate { s with chip := { s.chip with
        mainPower := true, checkAgrees := s.chip.checkAgrees && held } }) := fun held hlow =>
    congrArg Host.Outcome.next (if_neg (by simp [hlow]))
  rcases hc with ⟨rfl, hlow⟩ | ⟨hagrees, ⟨rfl, hlow⟩ | ⟨rfl, hpower⟩ | ⟨rfl, hon, hready⟩⟩
  · exact ⟨_, hup false hlow, Bool.and_false _, rfl, rfl⟩
  · exact ⟨_, hup true hlow, by simp [hagrees], rfl, rfl⟩
  · exact ⟨s, congrArg Host.Outcome.next (if_pos hpower), hagrees, rfl, rfl⟩
  · exact ⟨s, congrArg Host.Outcome.next (if_pos ⟨hon, hready⟩), hagrees, rfl, rfl⟩

/-- Settles O42, by what every start leaves of the blocks' start values (`FromBlocks`) and the cold ones. -/
theorem coldStartSetsTheColdValues : Obligations.ColdStartSetsTheColdValues := by
  intro c addr rate s hshapes hc
  obtain ⟨u, hexec, hcold, halarms, htables⟩ := exec_coldStart hc
  have h := coldStarted_start addr rate hcold (by rw [halarms, hshapes.alarms])
  obtain ⟨hpumps, hduty, hrakes, htotals, hclock, hwanted, hspill, hlogLoss, htripped, hcounts⟩ := h.values
  refine ⟨_, hexec, h.started, by rw [chip_start], by rw [chip_start]; rfl, hpumps, hduty, hrakes, htotals,
    hclock, hwanted, hspill, hlogLoss, htripped, hcounts, fun x hx => ?_⟩
  exact htables ▸ stored_of_active hx

end Sys2Proof.Proofs
end

section
/-! PROOF. What the transmit arbiter offers, by class, and the transmitter's start. -/

namespace Sys2Proof.Proofs

open Sys2Proof.Machine Sys2Proof.Safety Sys2Proof.Laws

variable {s t u : State}

/-! ### The insertion candidate (R29) -/

/-- The unsent members of the classes in the order in which R29 reads them. -/
def unsent (x : Transit) : List OwnFrame := x.actuator ++ x.notice ++ x.response

theorem candidate_eq (x : Transit) :
    x.candidate = if 16 ≤ x.lap.length then none else (unsent x).head? := by
  unfold Transit.candidate unsent
  congr 1
  cases x.actuator <;> cases x.notice <;> cases x.response <;> rfl

theorem noUnsent_eq (x : Transit) : x.noUnsent = decide (unsent x = []) := by
  unfold Transit.noUnsent unsent
  cases x.actuator <;> cases x.notice <;> cases x.response <;> rfl

/-- A frame that starts leaves its class, and with it the head of the unsent members (R25). -/
theorem takeOwn_head (h : ClassesTrue s) {o : OwnFrame} (ho : (unsent s.transit).head? = some o) :
    unsent (s.transit.takeOwn o) = (unsent s.transit).tail ∧
      (s.transit.takeOwn o).actuator = s.transit.actuator.tail := by
  cases ha : s.transit.actuator with
  | cons a as =>
    obtain rfl : a = o := by simpa [unsent, ha] using ho
    obtain ⟨_, _, _, href⟩ := h.actuator a (by simp [ha])
    simp [Transit.takeOwn, unsent, href, ha]
  | nil =>
    cases hn : s.transit.notice with
    | cons n ns =>
      obtain rfl : n = o := by simpa [unsent, ha, hn] using ho
      obtain ⟨_, _, href⟩ := h.notice n (by simp [hn])
      simp [Transit.takeOwn, unsent, href, ha, hn]
    | nil =>
      cases hr : s.transit.response with
      | cons r rs =>
        obtain rfl : r = o := by simpa [unsent, ha, hn, hr] using ho
        obtain ⟨_, _, href⟩ := h.response r (by simp [hr])
        simp [Transit.takeOwn, unsent, href, ha, hn, hr]
      | nil => simp [unsent, ha, hn, hr] at ho

/-- A frame that starts leaves the transit queue and the lap list alone. -/
theorem takeOwn_keeps (x : Transit) (o : OwnFrame) :
    (x.takeOwn o).queue = x.queue ∧ (x.takeOwn o).lap = x.lap := by
  unfold Transit.takeOwn; split <;> exact ⟨rfl, rfl⟩

/-! ### The start (R29 to R31) -/

theorem exec_transmitStart (hon : s.on = true) (htx : s.loop.tx = .idle) (hin : s.chip.holdIn = false)
    (hbrk : s.loop.assembler ≠ .brk) : exec .transmitStart s = .next (startOffer s) := by
  simp [exec, execTransmitStart, hon, htx, hin, hbrk]

theorem startOffer_transit {f : Frame} (h : s.transit.offered = .transit f) : startOffer s = { s with
    loop := { s.loop with tx := .transit f }
    transit := { s.transit with
      fairness := if unsent s.transit = [] then s.transit.fairness else min 4 (s.transit.fairness + 1) } } := by
  simp [startOffer, h, noUnsent_eq]

theorem startOffer_own {o : OwnFrame} (h : s.transit.offered = .own o) : startOffer s = { s with
    loop := { s.loop with tx := .own o (ownSent s.chip.ownAddress o s.transit.nextSeq) false }
    transit := { s.transit.takeOwn o with nextSeq := s.transit.nextSeq + 1, fairness := 0 } } := by
  simp only [startOffer, h]

theorem startOffer_nothing (h : s.transit.offered = .nothing) : startOffer s = s := by
  simp only [startOffer, h]

/-- The offer by the candidate and the transit queue (R29): at fairness 4 the candidate goes before the transit
head, else after it. -/
theorem offered_eq (x : Transit) : x.offered = match x.candidate, x.queue with
    | some o, f :: _ => if x.fairness = 4 then .own o else .transit f
    | some o, [] => .own o
    | none, f :: _ => .transit f
    | none, [] => .nothing := by
  unfold Transit.offered Transit.plainOffer
  cases x.candidate <;> cases x.queue <;> simp

/-- An own frame that starts, by what it leaves of the loop port and the transit section (R25, R31). -/
theorem ownStarts (hclasses : ClassesTrue s) {o : OwnFrame} (ho : s.transit.candidate = some o)
    (h : s.transit.offered = .own o) : ∃ t, startOffer s = t ∧
      t.loop = { s.loop with tx := .own o (ownSent s.chip.ownAddress o s.transit.nextSeq) false } ∧
      unsent t.transit = (unsent s.transit).tail ∧
      t.transit.actuator = s.transit.actuator.tail ∧
      t.transit.nextSeq = s.transit.nextSeq + 1 ∧ t.transit.fairness = 0 ∧
      t.transit.queue = s.transit.queue ∧ t.transit.lap = s.transit.lap := by
  have hhead : (unsent s.transit).head? = some o := by
    rw [candidate_eq] at ho
    split at ho
    · simp at ho
    · exact ho
  obtain ⟨htail, hact⟩ := takeOwn_head hclasses hhead
  obtain ⟨hqueue, hlap⟩ := takeOwn_keeps s.transit o
  exact ⟨_, startOffer_own h, rfl, htail, hact, rfl, rfl, hqueue, hlap⟩

/-- Settles O10, by the candidate, the head of the transit queue and the fairness counter. -/
theorem transmitterStartsTheOffer : Obligations.TransmitterStartsTheOffer := by
  intro s hon hclasses
  refine ⟨fun hno => congrArg Host.Outcome.next (if_neg fun h => hno h.2), fun htx hin hbrk => ?_⟩
  rw [exec_transmitStart hon htx hin hbrk]
  simp only [Host.Outcome.next.injEq]
  have hcandidate := candidate_eq s.transit
  have hoffer := offered_eq s.transit
  rw [unsent] at hcandidate
  rw [← hcandidate]
  split
  · next o f q hc hq =>
    rw [hc, hq] at hoffer
    split
    · exact ownStarts hclasses hc (hoffer.trans (if_pos ‹_›))
    · exact startOffer_transit (hoffer.trans (if_neg ‹_›))
  · next o hc hq => exact ownStarts hclasses hc (by rw [hoffer, hc, hq])
  · next f q hc hq => exact startOffer_transit (by rw [hoffer, hc, hq])
  · next hc hq => exact startOffer_nothing (by rw [hoffer, hc, hq])

end Sys2Proof.Proofs
end

section
/-! PROOF. A frame arrives, is forwarded, or meets the command gate. -/

namespace Sys2Proof.Proofs

open Sys2Proof.Machine Sys2Proof.Safety Sys2Proof.Laws

variable {s t u : State}

/-! ### A frame arrives (R14, R17) -/

theorem onLoop_arrived (f : Frame) (s : State) : OnLoop s (arrived f s) :=
  (onLoop_takeHanded f s).trans (onLoop_countCompleted _)

/-- The arrival of a frame touches the loop port alone. -/
theorem arrived_eq (f : Frame) (s : State) : arrived f s = { s with loop := (arrived f s).loop } :=
  (onLoop_arrived f s).eq

@[simp] theorem transit_arrived (f : Frame) (s : State) : (arrived f s).transit = s.transit := by
  rw [arrived_eq]

@[simp] theorem chip_arrived (f : Frame) (s : State) : (arrived f s).chip = s.chip := by
  rw [arrived_eq]

/-- While Hold Out is RELEASED no completed frame is counted toward the re-strobe (R14). -/
theorem arrived_of_released (h : s.loop.holdOut = .released) (f : Frame) : arrived f s = takeHanded f s := by
  have hholdOut : (takeHanded f s).loop.holdOut = .released := by
    unfold takeHanded; split <;> exact h
  unfold arrived countCompleted
  rw [hholdOut]

theorem holdOut_arrived (h : s.loop.holdOut = .released) (f : Frame) :
    (arrived f s).loop.holdOut = .released := by
  rw [arrived_of_released h]
  unfold takeHanded; split <;> exact h

theorem takeHanded_of_none (h : s.loop.handed = []) (f : Frame) : takeHanded f s = s := by
  simp [takeHanded, h]

/-- A good frame is classified as it has arrived (R17). -/
theorem exec_frameReceived (hon : s.on = true) {f : Frame} (hgood : f.good = true) :
    exec (.frameReceived f) s = .next (classify f (arrived f s)) := by
  simp [exec, execFrameReceived, hon, hgood, arrived]

/-- A foreign frame that passes for the first time is classified by its kind (R17). -/
theorem exec_foreign {f : Frame} (h : Foreign s f) :
    exec (.frameReceived f) s = .next (classifyKind f (arrived f s)) := by
  rw [exec_frameReceived h.on h.good, classify, if_neg (by simpa using h.src), if_neg (by simp [h.fresh])]

/-! ### A frame forwarded (R23, R24) -/

/-- The transit queue after a frame is offered to it (R24). -/
def queueAfter (f : Frame) (q : List Frame) : List Frame :=
  if fill q + f.length ≤ 384 then q ++ [{ f with kindFlags := f.kindFlags ||| 0x10 }] else q

/-- The transit counters after a frame is offered to the queue (R24). -/
def countAfter (f : Frame) (q : List Frame) (c : TransitCounters) : TransitCounters :=
  { c with overflow := if fill q + f.length ≤ 384 then c.overflow else inc16 c.overflow }

theorem transit_forward (f : Frame) (s : State) : (forward f s).transit = { s.transit with
    queue := queueAfter f s.transit.queue
    count := countAfter f s.transit.queue s.transit.count } := by
  unfold forward queueAfter countAfter
  by_cases h : fill s.transit.queue + f.length ≤ 384
  · simp only [h, if_true]
    exact offer_admitted f.withPassMark s h
  · simp only [h, if_false]
    exact congrArg State.transit (offer_dropped f.withPassMark s (not_le.mp h))

/-- A frame forwarded touches the loop port and the transit section alone. -/
theorem forward_eq (f : Frame) (s : State) : forward f s = { s with
    loop := (forward f s).loop
    transit := (forward f s).transit } := by
  have h := offer_frame f.withPassMark s
  exact congrArg (fun v : State =>
    { v with loop := (forward f s).loop, transit := (forward f s).transit }) h

/-- A frame admitted to the transit queue asserts Hold Out where the fill then reaches the upper threshold (R13). -/
theorem forward_asserts (f : Frame) (hroom : fill s.transit.queue + f.length ≤ 384)
    (hreleased : s.loop.holdOut = .released) (hupper : s.upper ≤ fill (queueAfter f s.transit.queue)) :
    (forward f s).loop.holdOut = .asserted ∧ (forward f s).loop.restrobe = 0 := by
  have hqueue : queueAfter f s.transit.queue = s.transit.queue ++ [f.withPassMark] := if_pos hroom
  have hadmitted : forward f s = judgeHoldOut { s with transit := { s.transit with
      queue := queueAfter f s.transit.queue } } := by
    rw [hqueue]; exact if_pos hroom
  have hupper' : ({ s with transit := { s.transit with queue := queueAfter f s.transit.queue } } : State).upper ≤
      fill (queueAfter f s.transit.queue) := hupper
  rw [hadmitted, judgeHoldOut_eq]
  simp only [hreleased, hupper', if_true, and_self]

/-- What the classification of a frame leaves that counts it under some tests and forwards it. -/
theorem forwarded_arrived {f : Frame} (c : TransitCounters → TransitCounters) {t : State}
    (ht : t = forward f ((arrived f s).countTransit c)) :
    t.transit = { s.transit with
      queue := queueAfter f s.transit.queue
      count := countAfter f s.transit.queue (c s.transit.count) } ∧
    (s.loop.holdOut = .released → s.upper ≤ fill t.transit.queue → fill s.transit.queue + f.length ≤ 384 →
      t.loop.holdOut = .asserted ∧ t.loop.restrobe = 0) ∧
    { t with loop := s.loop, transit := s.transit } = s := by
  have htransit : t.transit = { s.transit with
      queue := queueAfter f s.transit.queue
      count := countAfter f s.transit.queue (c s.transit.count) } := by
    rw [ht, transit_forward]
    simp [State.countTransit]
  refine ⟨htransit, fun hreleased hupper hroom => ?_, ?_⟩
  · have hupper' : ((arrived f s).countTransit c).upper ≤
        fill (queueAfter f ((arrived f s).countTransit c).transit.queue) := by
      rw [htransit] at hupper
      rw [arrived_eq]
      exact hupper
    rw [ht]
    exact forward_asserts f (by simpa [State.countTransit] using hroom) (holdOut_arrived hreleased f) hupper'
  · rw [ht, forward_eq, arrived_eq]
    rfl

/-- What no other step takes is forwarded, a COMMAND without a channel counted first (R17, R20, R23). -/
theorem classifyKind_forwards {f : Frame} (h : f.kind = none ∨ f.kind = some .response ∨ f.kind = some .notice ∨
      (f.kind = some .manage ∧ f.dest ≠ s.chip.ownAddress) ∨
      (f.kind = some .command ∧ (f.dest = s.chip.ownAddress ∨ f.payload = [])) ∨
      (f.kind = some .time ∧ f.dest ≠ s.chip.ownAddress ∧ f.dest ≠ 0)) :
    classifyKind f s = forward f (s.countTransit fun c => { c with
      contentErrors :=
        if f.kind = some .command ∧ f.dest ≠ s.chip.ownAddress then inc16 c.contentErrors
        else c.contentErrors }) := by
  have hnone : s.countTransit (fun c => { c with contentErrors := c.contentErrors }) = s := rfl
  unfold classifyKind
  rcases h with hk | hk | hk | ⟨hk, hd⟩ | ⟨hk, hd⟩ | ⟨hk, hd, hz⟩
  · simp [hk, hnone]
  · simp [hk, hnone]
  · simp [hk, hnone]
  · simp [hk, hd, hnone]
  · by_cases hown : f.dest = s.chip.ownAddress
    · simp [hk, hown, hnone]
    · simp [hk, hown, judgeCommand, hd.resolve_left hown, countContent]
  · simp [hk, hd, hnone, show f.dest ≠ 0#8 from hz]

/-! ### The pass mark (R18, R179) -/

theorem passMark_withPassMark (f : Frame) : f.withPassMark.passMark = true := by
  simp [Frame.passMark, Frame.withPassMark]

theorem passMark_ownSent (src seq : Byte) (o : OwnFrame) : (ownSent src o seq).passMark = false := by
  unfold Frame.passMark ownSent OwnFrame.kindFlags
  cases o.ref <;> simp

/-- An own frame that returns is the same to the lap list with its pass mark cleared (R17 step 1). -/
theorem ownReturned_clearMark (f : Frame) (s : State) :
    ownReturned { f with kindFlags := f.kindFlags &&& 0xEF } s = ownReturned f s := by
  have htaken : ({ f with kindFlags := f.kindFlags &&& 0xEF } : Frame).takenMark = f.takenMark := by
    simp [Frame.takenMark]
  unfold ownReturned
  rw [htaken]

/-- Settles O14, by the frame that no other step takes (`classifyKind_forwards`). -/
theorem foreignFrameIsForwardedOnce : Obligations.ForeignFrameIsForwardedOnce := by
  refine ⟨⟨fun f s hon hgood hsrc hpass => ?_, passMark_withPassMark, passMark_ownSent,
    fun f s hnone hsrc => ?_⟩, fun f s h hkind => ?_⟩
  · rw [exec_frameReceived hon hgood, classify, if_neg (by simpa using hsrc), if_pos hpass]
    simp [State.countTransit]
  · have hgood : ({ f with kindFlags := f.kindFlags &&& 0xEF } : Frame).good = f.good := rfl
    have hchip : (countCompleted s).chip = s.chip := by rw [(onLoop_countCompleted s).eq]
    have hclassify : ∀ g : Frame, g.src = s.chip.ownAddress →
        classify g (countCompleted s) = finishDrives (ownReturned g (countCompleted s)) :=
      fun g hg => if_pos (by rw [hchip]; exact hg)
    simp only [exec, execFrameReceived, hgood, takeHanded_of_none hnone, hclassify f hsrc,
      hclassify { f with kindFlags := f.kindFlags &&& 0xEF } hsrc, ownReturned_clearMark]
  · refine ⟨_, exec_foreign h, ?_⟩
    have hclassified := classifyKind_forwards (s := arrived f s) (f := f) (by simpa using hkind)
    obtain ⟨htransit, hholdOut, hframe⟩ := forwarded_arrived _ hclassified
    refine ⟨?_, ?_, hholdOut, ?_⟩
    · rw [htransit]; rfl
    · rw [htransit]; simp [countAfter]
    · rw [htransit]
      exact hframe

/-! ### The command gate (R20, R36) -/

theorem owned_arrived (f : Frame) (s : State) (a : Actuator) : (arrived f s).owned a = s.owned a := by
  rw [arrived_eq]; cases a <;> rfl

theorem gateAt_arrived (f : Frame) (s : State) (node channel : Byte) :
    (arrived f s).gateAt node channel = s.gateAt node channel := by
  simp [State.gateAt]

theorem judgeCommand_stops {f : Frame} {channel : Byte} {rest : List Byte} {e : GateEntry}
    (hpayload : f.payload = channel :: rest) (he : s.gateAt f.dest channel = some e)
    (howned : s.owned e.drive = true) : judgeCommand f s = countForeign e.drive s := by
  simp [judgeCommand, hpayload, he, howned]

theorem judgeCommand_passes {f : Frame} {channel : Byte} {rest : List Byte}
    (hpayload : f.payload = channel :: rest)
    (hpass : ∀ e, s.gateAt f.dest channel = some e → s.owned e.drive = false) :
    judgeCommand f s = forward f s := by
  unfold judgeCommand
  rw [hpayload]
  dsimp only
  split
  · rfl
  · next e he => rw [hpass e he, if_neg Bool.false_ne_true]

/-- Settles O15, by the gate entry that the frame's node and channel name. -/
theorem commandGateStopsForeignCommands : Obligations.CommandGateStopsForeignCommands := by
  intro f channel rest s h hkind hdest hpayload
  have hclassified : classifyKind f (arrived f s) = judgeCommand f (arrived f s) := by
    simp [classifyKind, hkind, hdest]
  rw [exec_foreign h, hclassified]
  refine ⟨fun e he howned => ?_, fun hpass hroom => ?_⟩
  · rw [judgeCommand_stops hpayload (by rw [gateAt_arrived]; exact he) (by rw [owned_arrived]; exact howned)]
    simp [countForeign]
  · have hforward : judgeCommand f (arrived f s) = forward f (arrived f s) :=
      judgeCommand_passes hpayload fun e he => by
        rw [owned_arrived]; exact hpass e (by rw [gateAt_arrived] at he; exact he)
    obtain ⟨htransit, -, hframe⟩ := forwarded_arrived (s := s) (f := f) id rfl
    refine ⟨_, congrArg _ hforward, htransit.trans ?_, hframe⟩
    simp [queueAfter, countAfter, hroom]

end Sys2Proof.Proofs
end

section
/-! PROOF. The station clock set by a TIME frame. -/

namespace Sys2Proof.Proofs

open Sys2Proof.Machine Sys2Proof.Safety Sys2Proof.Laws

variable {s t u : State}

/-! ### The clock set (R150, R162) -/

/-- The clock that reads a value at the present running seconds (R162). -/
def clockReading (n : Nat) (c : Clock) : Clock :=
  { c with offset := (n + (4294967296 - c.running % 4294967296)) % 4294967296, set := true }

theorem time_clockReading {n : Nat} (h : n < 4294967296) (c : Clock) : (clockReading n c).time = n := by
  simp only [Clock.time, clockReading]
  omega

/-- The value of four characters is within 32 bits (R181). -/
theorem join32_lt (a b c d : Byte) : join32 a b c d < 4294967296 := by
  have ha := a.isLt
  have hb := b.isLt
  have hc := c.isLt
  have hd := d.isLt
  simp only [join32]
  omega

/-- `t` comes of `s` by marking weirs and records in the spill monitor for a clock set, and no more (R150). -/
structure ClockTold (s t : State) : Prop where
  frame : { t with spill := s.spill } = s
  state : ∀ w, (t.weir w).state = (s.weir w).state
  onset : ∀ w, (s.weir w).clockSetMark = true → (t.weir w).clockSetMark = true
  told : ∀ w, (∀ r ∈ s.spill.log, r.weir = w → r.state = .opened → r.flags.clockSet = true) →
    ∀ r ∈ t.spill.log, r.weir = w → r.state = .opened → r.flags.clockSet = true

theorem ClockTold.refl (s : State) : ClockTold s s := ⟨rfl, fun _ => rfl, fun _ h => h, fun _ h => h⟩

theorem ClockTold.trans (h : ClockTold s t) (h' : ClockTold t u) : ClockTold s u where
  frame := (congrArg (fun v : State => { v with spill := s.spill }) h'.frame).trans h.frame
  state w := (h'.state w).trans (h.state w)
  onset w hw := h'.onset w (h.onset w hw)
  told w hw := h'.told w (h.told w hw)

theorem ClockTold.transit (h : ClockTold s t) : t.transit = s.transit := by
  simpa using congrArg State.transit h.frame

theorem ClockTold.clock (h : ClockTold s t) : t.clock = s.clock := by
  simpa using congrArg State.clock h.frame

/-- The flag of a clock set on one record (R150). -/
def flagClock (r : SpillRec) : SpillRec := { r with flags := { r.flags with clockSet := true } }

/-- A record of the log once the open record of a weir is flagged CLOCK_SET is one that stood there, flagged where it
was that record. -/
theorem mem_changeOpen_flagClock {w : Weir} {r : SpillRec} (h : r ∈ (changeOpen w flagClock s).spill.log) :
    ∃ r' ∈ s.spill.log, r.weir = r'.weir ∧ r.state = r'.state ∧
      (r.flags.clockSet = true ∨ r.flags = r'.flags ∧ ¬(r'.weir = w ∧ r'.state = .opened)) := by
  obtain ⟨r', hr', rfl⟩ := List.mem_map.mp h
  refine ⟨r', hr', ?_⟩
  split
  · exact ⟨rfl, rfl, .inl rfl⟩
  · exact ⟨rfl, rfl, .inr ⟨rfl, ‹_›⟩⟩

theorem clockTold_flagClock (w : Weir) (s : State) : ClockTold s (changeOpen w flagClock s) := by
  refine ⟨rfl, fun _ => rfl, fun _ h => h, fun w' hlog r hr hweir hopen => ?_⟩
  obtain ⟨r', hr', hw, hs, hflag | ⟨hflags, -⟩⟩ := mem_changeOpen_flagClock hr
  · exact hflag
  · rw [hflags]
    exact hlog r' hr' (hw ▸ hweir) (hs ▸ hopen)

theorem clockTold_markOnset (w : Weir) (s : State) :
    ClockTold s (s.setWeir w { s.weir w with clockSetMark := true }) := by
  refine ⟨rfl, fun w' => ?_, fun w' h => ?_, fun _ h => h⟩
  · rw [State.weir_setWeir]
    split
    · next h => rw [h]
    · rfl
  · rw [State.weir_setWeir]
    split
    · rfl
    · exact h

/-- What the clock set leaves at one weir, by the weir's state (R150). -/
theorem weirClockSet_eq (w : Weir) (s : State) : weirClockSet w s =
    match (s.weir w).state with
    | .spilling | .receding => changeOpen w flagClock s
    | .onset => s.setWeir w { s.weir w with clockSetMark := true }
    | .dry => s := by
  unfold weirClockSet
  dsimp only
  cases (s.weir w).state <;> rfl

theorem clockTold_weirClockSet (w : Weir) (s : State) : ClockTold s (weirClockSet w s) := by
  rw [weirClockSet_eq]
  split
  · exact clockTold_flagClock w s
  · exact clockTold_flagClock w s
  · exact clockTold_markOnset w s
  · exact .refl s

/-- The open records of a weir that spills are flagged (R150). -/
theorem weirClockSet_flags {w : Weir} (h : (s.weir w).state = .spilling ∨ (s.weir w).state = .receding) :
    ∀ r ∈ (weirClockSet w s).spill.log, r.weir = w → r.state = .opened → r.flags.clockSet = true := by
  intro r hr hweir hopen
  have heq : weirClockSet w s = changeOpen w flagClock s := by
    rw [weirClockSet_eq]
    rcases h with h | h <;> rw [h]
  rw [heq] at hr
  obtain ⟨r', -, hw, hs, hflag | ⟨-, hnot⟩⟩ := mem_changeOpen_flagClock hr
  · exact hflag
  · exact absurd ⟨hw ▸ hweir, hs ▸ hopen⟩ hnot

/-- A weir in ONSET is marked (R150). -/
theorem weirClockSet_marks {w : Weir} (h : (s.weir w).state = .onset) :
    ((weirClockSet w s).weir w).clockSetMark = true := by
  rw [weirClockSet_eq, h]
  simp [State.weir_setWeir]

/-- What the clock set leaves at both weirs (R150). -/
theorem clockTold_eachWeir (s : State) : ClockTold s (eachWeir weirClockSet s) ∧ ∀ w,
    ((s.weir w).state = .spilling ∨ (s.weir w).state = .receding →
      ∀ r ∈ (eachWeir weirClockSet s).spill.log, r.weir = w → r.state = .opened → r.flags.clockSet = true) ∧
    ((s.weir w).state = .onset → ((eachWeir weirClockSet s).weir w).clockSetMark = true) := by
  have heq : eachWeir weirClockSet s = weirClockSet .w2 (weirClockSet .w1 s) := rfl
  have h1 := clockTold_weirClockSet .w1 s
  have h2 := clockTold_weirClockSet .w2 (weirClockSet .w1 s)
  rw [heq]
  refine ⟨h1.trans h2, fun w => ?_⟩
  cases w with
  | w1 => exact ⟨fun h => h2.told _ (weirClockSet_flags h), fun h => h2.onset _ (weirClockSet_marks h)⟩
  | w2 =>
    refine ⟨fun h => weirClockSet_flags ?_, fun h => weirClockSet_marks ?_⟩
    · rw [h1.state]; exact h
    · rw [h1.state]; exact h

/-! ### A TIME frame (R22) -/

/-- The clock set, by what it leaves of the clock and the spill monitor (R150, R162). -/
theorem clockTold_setClock (n : Nat) (s : State) :
    ClockTold { s with clock := clockReading n s.clock } (setClock n s) ∧ ∀ w,
      ((s.weir w).state = .spilling ∨ (s.weir w).state = .receding →
        ∀ r ∈ (setClock n s).spill.log, r.weir = w → r.state = .opened → r.flags.clockSet = true) ∧
      ((s.weir w).state = .onset → ((setClock n s).weir w).clockSetMark = true) :=
  clockTold_eachWeir { s with clock := clockReading n s.clock }

/-- A TIME frame taken, by the source's permission and the frame's LEN (R22, log 13). -/
theorem takeTime_eq (f : Frame) (s : State) : takeTime f s =
    match s.maySetClock f.src, timeValue f.payload with
    | true, some n => setClock n s
    | may, value => s.countTransit fun c => { c with
        timeRefused := if may then c.timeRefused else inc16 c.timeRefused
        contentErrors := if value.isSome then c.contentErrors else inc16 c.contentErrors } := by
  unfold takeTime
  cases s.maySetClock f.src <;> cases timeValue f.payload <;> rfl

theorem maySetClock_eq (src : Byte) :
    s.maySetClock src = !decide (s.permission src = none ∨ s.permission src = some .view) := by
  unfold State.maySetClock
  cases s.permission src with
  | none => rfl
  | some held => cases held <;> rfl

theorem isSome_timeValue (payload : List Byte) : (timeValue payload).isSome = decide (payload.length = 4) := by
  unfold timeValue
  split
  · rfl
  · next h =>
    match payload with
    | [] | [_] | [_, _] | [_, _, _] => rfl
    | [a, b, c, d] => exact absurd rfl (h a b c d)
    | _ :: _ :: _ :: _ :: _ :: _ => simp

/-- A TIME frame that fails a test is counted under each that it fails (R22, log 13). -/
theorem takeTime_refused {f : Frame} (h : s.maySetClock f.src = false ∨ f.payload.length ≠ 4) :
    takeTime f s = s.countTransit fun c => { c with
      timeRefused := if s.maySetClock f.src then c.timeRefused else inc16 c.timeRefused
      contentErrors := if f.payload.length = 4 then c.contentErrors else inc16 c.contentErrors } := by
  have hvalue := isSome_timeValue f.payload
  rw [takeTime_eq]
  split
  · next hmay hsome =>
    rw [hsome] at hvalue
    simp [hmay, of_decide_eq_true hvalue.symm] at h
  · simp [hvalue]

/-- A TIME frame taken touches neither the transit queue nor the running seconds (R22, R162). -/
theorem takeTime_keeps (f : Frame) (s : State) : (takeTime f s).transit.queue = s.transit.queue ∧
    (takeTime f s).clock.running = s.clock.running := by
  rw [takeTime_eq]
  split
  · next n _ _ =>
    have htold := (clockTold_setClock n s).1
    exact ⟨by rw [htold.transit], by rw [htold.clock]; rfl⟩
  · exact ⟨rfl, rfl⟩

theorem classifyKind_time {f : Frame} (hkind : f.kind = some .time)
    (hdest : f.dest = 0 ∨ f.dest = s.chip.ownAddress) :
    classifyKind f s = if f.dest = s.chip.ownAddress then takeTime f s else forward f (takeTime f s) := by
  simp only [classifyKind, hkind, decide_eq_true_eq]
  split
  · rfl
  · rw [if_pos (hdest.resolve_right ‹_›)]

/-- What a TIME frame for the controller leaves of a state: the clock, the spill monitor and the counts of `takeTime`,
and the queue by its destination (R22). -/
theorem time_classified {f : Frame} (hkind : f.kind = some .time)
    (hdest : f.dest = 0 ∨ f.dest = s.chip.ownAddress) :
    (classifyKind f s).clock = (takeTime f s).clock ∧ (classifyKind f s).spill = (takeTime f s).spill ∧
      (classifyKind f s).transit.count.timeRefused = (takeTime f s).transit.count.timeRefused ∧
      (classifyKind f s).transit.count.contentErrors = (takeTime f s).transit.count.contentErrors ∧
      (classifyKind f s).transit.queue =
        if f.dest = 0 ∧ f.dest ≠ s.chip.ownAddress ∧ fill s.transit.queue + f.length ≤ 384 then
          s.transit.queue ++ [{ f with kindFlags := f.kindFlags ||| 0x10 }]
        else s.transit.queue := by
  have hqueue := (takeTime_keeps f s).1
  rw [classifyKind_time hkind hdest]
  split
  · next hown => exact ⟨rfl, rfl, rfl, rfl, by simp [hqueue, hown]⟩
  · next hown =>
    have hzero := hdest.resolve_right hown
    refine ⟨by rw [forward_eq], by rw [forward_eq], ?_, ?_, ?_⟩
    · rw [transit_forward]; rfl
    · rw [transit_forward]; rfl
    · rw [transit_forward, hqueue]
      simp only [queueAfter, hzero, true_and, ne_eq, hzero ▸ hown, not_false_eq_true]

/-- Settles O16, by what `takeTime` leaves of the clock and the spill monitor. -/
theorem timeFrameSetsTheClock : Obligations.TimeFrameSetsTheClock := by
  intro f s h hkind hdest
  rw [exec_foreign h, arrived_eq]
  generalize (arrived f s).loop = l
  obtain ⟨hclock, hspill, hrefused, hcontent, hqueue⟩ :=
    time_classified (s := { s with loop := l }) hkind hdest
  refine ⟨_, rfl, ?_, ?_, fun hno => ?_, hqueue⟩
  · rw [hclock]
    exact (takeTime_keeps f _).2
  · intro a b c d held hpayload hheld hview
    have hmay : ({ s with loop := l } : State).maySetClock f.src = true := by
      rw [maySetClock_eq]
      change (!decide (s.permission f.src = none ∨ s.permission f.src = some .view)) = true
      simpa [hheld] using hview
    have htaken : takeTime f { s with loop := l } = setClock (join32 a b c d) { s with loop := l } := by
      rw [takeTime_eq, hmay, hpayload]; rfl
    obtain ⟨htold, hweirs⟩ := clockTold_setClock (join32 a b c d) { s with loop := l }
    rw [htaken] at hclock hspill
    refine ⟨by rw [hclock, htold.clock]; rfl, ?_, fun w hw => ?_, fun w hw => ?_⟩
    · rw [State.clockTime, hclock, htold.clock]
      exact time_clockReading (join32_lt a b c d) _
    · rw [hspill]
      exact (hweirs w).1 hw
    · rw [State.weir, hspill]
      exact (hweirs w).2 hw
  · have hmay : ({ s with loop := l } : State).maySetClock f.src =
        !decide (s.permission f.src = none ∨ s.permission f.src = some .view) := maySetClock_eq _
    have htaken := takeTime_refused (s := { s with loop := l }) (f := f) (by rw [hmay]; simp; tauto)
    rw [hclock, hspill, hrefused, hcontent, htaken, hmay]
    refine ⟨rfl, rfl, ?_, (ite_not _ _ _).symm⟩
    by_cases hview : s.permission f.src = none ∨ s.permission f.src = some .view
    · rw [if_pos hview]
      simp only [hview, State.countTransit, decide_true, Bool.not_true, Bool.false_eq_true, if_false]
    · rw [if_neg hview]
      simp only [hview, State.countTransit, decide_false, Bool.not_false, if_true]

end Sys2Proof.Proofs
end

section
/-! PROOF. A request judged by its source, by room and by permission, and answered once. -/

namespace Sys2Proof.Proofs

open Sys2Proof.Machine Sys2Proof.Safety Sys2Proof.Laws

variable {s t u : State}

/-! ### An answer fits one frame (R183) -/

/-- The data of an answer fits a response beside code, tag, status and part (R182, R183). -/
def FitsFrame (a : Answer) : Prop := a.data.length ≤ 36

theorem fitsFrame_plain (st : Status) : FitsFrame (Answer.plain st) := Nat.zero_le _

theorem fitsFrame_done : FitsFrame (Answer.done []) := Nat.zero_le _

theorem fitsFrame_rejected (r : Reason) (i : Nat) : FitsFrame (Answer.rejected r i) := by
  simp [FitsFrame, Answer.rejected, u8, u16]

/-- A part of a data image is at most 36 characters (R183). -/
theorem fitsFrame_answerPart (image : List Byte) (part : Option Byte) : FitsFrame (answerPart image part) := by
  unfold answerPart
  dsimp only
  split
  · simp [FitsFrame]
  · exact fitsFrame_plain _

theorem fitsFrame_answerCounters (g : Byte) (part : Option Byte) (s : State) :
    FitsFrame (answerCounters g part s) := by
  unfold answerCounters; split
  exacts [fitsFrame_plain _, fitsFrame_answerPart ..]

theorem fitsFrame_answerPoint (a b : Byte) (part : Option Byte) (s : State) :
    FitsFrame (answerPoint a b part s) := by
  unfold answerPoint; split
  exacts [fitsFrame_plain _, fitsFrame_answerPart ..]

theorem fitsFrame_answerPump (p : Byte) (part : Option Byte) (s : State) : FitsFrame (answerPump p part s) := by
  unfold answerPump; split
  exacts [fitsFrame_plain _, fitsFrame_answerPart ..]

theorem fitsFrame_answerRake (d : Byte) (part : Option Byte) (s : State) : FitsFrame (answerRake d part s) := by
  unfold answerRake; split
  exacts [fitsFrame_plain _, fitsFrame_answerPart ..]

theorem fitsFrame_answerAlarms (a b : Byte) (part : Option Byte) (s : State) :
    FitsFrame (answerAlarms a b part s) := by
  unfold answerAlarms; split
  exacts [fitsFrame_plain _, fitsFrame_answerPart ..]

theorem fitsFrame_answerSpill (form : Byte) (n : BitVec 16) (part : Option Byte) (s : State) :
    FitsFrame (answerSpill form n part s) := by
  unfold answerSpill
  split
  · exact fitsFrame_plain _
  · split
    exacts [fitsFrame_plain _, fitsFrame_answerPart ..]

theorem fitsFrame_answerTable (i c n : Byte) (part : Option Byte) (s : State) :
    FitsFrame (answerTable i c n part s) := by
  unfold answerTable
  split
  · exact fitsFrame_plain _
  · split
    · exact fitsFrame_plain _
    · split
      exacts [fitsFrame_plain _, fitsFrame_answerPart ..]

theorem fitsFrame_driveModeSet (d : Drive) (m : Mode) (s : State) : FitsFrame (driveModeSet d m s).1 := by
  unfold driveModeSet
  repeat' split
  exacts [fitsFrame_done, fitsFrame_plain _, fitsFrame_done, fitsFrame_plain _]

theorem fitsFrame_doSetDriveMode (d m : Byte) (s : State) : FitsFrame (doSetDriveMode d m s).1 := by
  unfold doSetDriveMode; split
  exacts [fitsFrame_driveModeSet .., fitsFrame_plain _]

theorem fitsFrame_doResetDrive (d : Byte) (s : State) : FitsFrame (doResetDrive d s).1 := by
  unfold doResetDrive
  repeat' split
  exacts [fitsFrame_plain _, fitsFrame_plain _, fitsFrame_plain _, fitsFrame_done, fitsFrame_plain _]

theorem fitsFrame_doRakeNow (d : Byte) (s : State) : FitsFrame (doRakeNow d s).1 := by
  unfold doRakeNow
  repeat' split
  exacts [fitsFrame_plain _, fitsFrame_plain _, fitsFrame_done, fitsFrame_plain _]

theorem fitsFrame_doForcePoint (n : Byte) (v : BitVec 16) (s : State) : FitsFrame (doForcePoint n v s).1 := by
  unfold doForcePoint
  repeat' split
  exacts [fitsFrame_plain _, fitsFrame_plain _, fitsFrame_done]

theorem fitsFrame_doReleasePoint (n : Byte) (s : State) : FitsFrame (doReleasePoint n s).1 := by
  unfold doReleasePoint
  repeat' split
  exacts [fitsFrame_plain _, fitsFrame_plain _, fitsFrame_done]

theorem fitsFrame_doAckAlarm (n : Byte) (s : State) : FitsFrame (doAckAlarm n s).1 := by
  unfold doAckAlarm
  repeat' split
  exacts [fitsFrame_plain _, fitsFrame_done, fitsFrame_done]

theorem fitsFrame_doCollectSpill (n : BitVec 16) (s : State) : FitsFrame (doCollectSpill n s).1 := by
  unfold doCollectSpill; split
  exacts [fitsFrame_plain _, fitsFrame_plain _]

theorem fitsFrame_doTableBegin (i n : Byte) (s : State) : FitsFrame (doTableBegin i n s).1 := by
  unfold doTableBegin
  repeat' split
  exacts [fitsFrame_plain _, fitsFrame_done, fitsFrame_plain _]

theorem fitsFrame_doTableSegment (i n : Byte) (d : List Byte) (s : State) :
    FitsFrame (doTableSegment i n d s).1 := by
  unfold doTableSegment
  repeat' split
  exacts [fitsFrame_plain _, fitsFrame_done, fitsFrame_plain _, fitsFrame_plain _]

theorem fitsFrame_doTableAbandon (i : Byte) (s : State) : FitsFrame (doTableAbandon i s).1 := by
  unfold doTableAbandon; split
  exacts [fitsFrame_plain _, fitsFrame_done]

theorem fitsFrame_commitImage (i : TableId) (m : Method) (gs : List (List Byte)) (c : BitVec 16) (s : State) :
    FitsFrame (commitImage i m gs c s).1 := by
  unfold commitImage
  dsimp only
  split
  · exact fitsFrame_rejected ..
  · split
    · exact fitsFrame_rejected ..
    · simp [FitsFrame, commitPassed, Answer.done, flag]

theorem fitsFrame_doTableCommit (i m : Byte) (c : BitVec 16) (s : State) :
    FitsFrame (doTableCommit i m c s).1 := by
  unfold doTableCommit
  repeat' split
  exacts [fitsFrame_plain _, fitsFrame_plain _, fitsFrame_commitImage .., fitsFrame_plain _, fitsFrame_plain _]

theorem fitsFrame_doSetStationMode (m : Byte) (s : State) : FitsFrame (doSetStationMode m s).1 := by
  unfold doSetStationMode toStandby toAutomatic
  repeat' split
  exacts [fitsFrame_done, fitsFrame_done, fitsFrame_rejected .., fitsFrame_done, fitsFrame_plain _]

/-- The answer to every request fits one frame (R166, R183). -/
theorem fitsFrame_carryOut (r : Request) (s : State) : FitsFrame (carryOut r s).1 := by
  cases r with
  | readStatus part => exact fitsFrame_answerPart ..
  | readCounters g part => exact fitsFrame_answerCounters ..
  | readPoint a b part => exact fitsFrame_answerPoint ..
  | readPump p part => exact fitsFrame_answerPump ..
  | readRake d part => exact fitsFrame_answerRake ..
  | readFlow part => exact fitsFrame_answerPart ..
  | readAlarms a b part => exact fitsFrame_answerAlarms ..
  | readSpill form n part => exact fitsFrame_answerSpill ..
  | readTable i c n part => exact fitsFrame_answerTable ..
  | setDriveMode d m => exact fitsFrame_doSetDriveMode ..
  | resetDrive d => exact fitsFrame_doResetDrive ..
  | rakeNow d => exact fitsFrame_doRakeNow ..
  | forcePoint n v => exact fitsFrame_doForcePoint ..
  | releasePoint n => exact fitsFrame_doReleasePoint ..
  | ackAlarm n => exact fitsFrame_doAckAlarm ..
  | silence => exact fitsFrame_done
  | collectSpill n => exact fitsFrame_doCollectSpill ..
  | tableBegin i n => exact fitsFrame_doTableBegin ..
  | tableSegment i n d => exact fitsFrame_doTableSegment ..
  | tableCommit i m c => exact fitsFrame_doTableCommit ..
  | tableAbandon i => exact fitsFrame_doTableAbandon ..
  | setStationMode m => exact fitsFrame_doSetStationMode ..
  | clearCounters => exact fitsFrame_done
  | restart => exact fitsFrame_done

/-! ### Intake (R21, R166) -/

/-- A request of a source that is listed, with room and a code that exists, is judged by its permission (R21, R166). -/
theorem request_judged (hon : s.on = true) {src tag : Byte} {r : Request} {held need : Permission}
    (hheld : s.permission src = some held) (hroom : s.responseFull = false)
    (hneed : permissionOfCode r.code = some need) :
    request src tag r s = judgeReadable src r.code tag held need r.params s := by
  simp [request, hon, intake, hheld, hroom, Request.payload, takeRequest, hneed]

@[simp] theorem transit_countStatus (st : Status) (s : State) : (countStatus st s).transit = s.transit := by
  unfold countStatus; split <;> rfl

/-- One response, within one frame, to the source of a request with its code and tag (R166, R182). -/
structure AnsweredOnce (s t : State) (src code tag : Byte) : Prop where
  once : ∃ o : OwnFrame, t.transit.response = s.transit.response ++ [o] ∧ o.dest = some src ∧
    o.payload.take 2 = [code, tag] ∧ 4 ≤ o.payload.length ∧ o.payload.length ≤ 40

theorem answeredOnce_respond (hresponse : u.transit.response = s.transit.response) {a : Answer}
    (ha : FitsFrame a) (src code tag : Byte) (restart : Bool) :
    AnsweredOnce s (respond src code tag restart a u) src code tag := by
  have hlength : (a.payload code tag).length = a.data.length + 4 := by simp [Answer.payload, u8]
  have hfits : a.data.length ≤ 36 := ha
  refine ⟨⟨{ dest := some src, payload := a.payload code tag, ref := .response tag restart, retry := 0 }, ?_, rfl,
    rfl, ?_, ?_⟩⟩
  · simp only [respond, transit_countStatus, hresponse]
  · dsimp only
    omega
  · dsimp only
    omega

/-- A request with enough permission brings one response (R166). -/
theorem answeredOnce_judgeReadable (src code tag : Byte) {held need : Permission}
    (hcovers : held.covers need = true) (params : List Byte) (s : State) :
    AnsweredOnce s (judgeReadable src code tag held need params s) src code tag := by
  unfold judgeReadable
  rw [if_neg (by simp [hcovers])]
  split
  · exact answeredOnce_respond rfl (fitsFrame_plain _) ..
  · next r _ => exact answeredOnce_respond (ended_carryOut r s).worked.response (fitsFrame_carryOut r s) ..

/-- A MANAGE frame of a request meets intake as the request's command does (log 6). -/
theorem exec_manage {c : Instr} {src tag : Byte} {r : Request} (hc : requestOf c = some (src, tag, r))
    (hhanded : s.loop.handed = []) (hholdOut : s.loop.holdOut = .released) {f : Frame} (hgood : f.good = true)
    (hpass : f.passMark = false) (hkind : f.kind = some .manage) (hsrc : f.src = src)
    (hdest : f.dest = s.chip.ownAddress) (hpayload : f.payload = r.payload tag)
    (hforeign : src ≠ s.chip.ownAddress) : exec (.frameReceived f) s = exec c s := by
  have harrived : arrived f s = s := by rw [arrived_of_released hholdOut, takeHanded_of_none hhanded]
  rw [exec_request hc, request]
  cases hon : s.on with
  | false => simp [exec, execFrameReceived, hgood, hon]
  | true =>
    rw [exec_frameReceived hon hgood, harrived, classify, if_neg (hsrc ▸ hforeign), if_neg (by simp [hpass])]
    simp [classifyKind, hkind, hdest, hsrc, hpayload]

/-- Settles O43, by the order in which intake judges a request: its source, room, permission. -/
theorem requestIsAnsweredOnce : Obligations.RequestIsAnsweredOnce := by
  intro c src tag r need s hc hneed hon
  rw [exec_request hc]
  refine ⟨fun hnone => ?_, fun held hheld => ⟨fun hfull => ?_, fun hroom hdenied => ?_, fun hroom hcovers => ?_⟩,
    fun seq hhanded hholdOut hsrc hvalid hown hlen => ?_⟩
  · simp [request, hon, intake, hnone, State.countTransit, inc16, addSat, max16]
  · simp [request, hon, intake, hheld, hfull, State.countTransit, inc16, addSat, max16]
  · rw [request_judged hon hheld hroom hneed, judgeReadable, if_pos (by simp [hdenied])]
    rfl
  · rw [request_judged hon hheld hroom hneed]
    obtain ⟨o, ho⟩ := (answeredOnce_judgeReadable src r.code tag hcovers r.params s).once
    exact ⟨_, o, rfl, ho⟩
  · rw [← exec_request hc]
    have hpass : (⟨s.chip.ownAddress, src, 3, seq, r.payload tag⟩ : Frame).passMark = false := by
      simp [Frame.passMark]
    exact exec_manage hc hhanded hholdOut (by simp [Frame.good, hvalid, hown, hlen]) hpass rfl rfl rfl rfl hsrc

end Sys2Proof.Proofs
end

section
/-! PROOF. A notice meets its class; the renotify and the summary timer. -/

namespace Sys2Proof.Proofs

open Sys2Proof.Machine Sys2Proof.Safety Sys2Proof.Laws

variable {s t u : State}

/-! ### One notice of an event (R27) -/

/-- A notice meeting its class, in one equation (R27). -/
theorem postNotice_eq (o : OwnFrame) (s : State) : postNotice o s = { s with transit := { s.transit with
    notice := metBy s o
    count := { s.transit.count with noticesLost := lostAfterOne s } } } := by
  unfold postNotice metBy lostAfterOne
  cases hfull : s.noticeFull <;> cases hany : s.transit.notice.any OwnFrame.isAlarm <;> rfl

/-- Where an event posts one notice, it meets the class at the event's end (R27, log 11). -/
theorem flushNotices_one {o : OwnFrame} (h : s.transit.outbox.ordered = [o]) :
    flushNotices s = { s with transit := { s.transit with
      notice := metBy s o
      count := { s.transit.count with noticesLost := lostAfterOne s }
      outbox := Outbox.empty } } := by
  unfold flushNotices
  rw [h, List.foldl_cons, List.foldl_nil, postNotice_eq]
  rfl

theorem flatMap_singleton_eq (n : Nat) (o : OwnFrame) (ks : List Nat) :
    (ks.flatMap fun k => if n = k then [o] else []) = List.replicate (ks.count n) o := by
  induction ks with
  | nil => rfl
  | cons k ks ih =>
    by_cases h : n = k
    · subst h; simp [ih, List.replicate_succ]
    · simp [ih, h, List.count_cons_of_ne (Ne.symm h)]

/-- The entry numbers are those of the alarm list, each once (R153). -/
theorem count_alarmNumbers {n : Nat} (h1 : 1 ≤ n) (h2 : n ≤ 73) : alarmNumbers.count n = 1 := by
  refine List.count_eq_one_of_mem (by decide) ?_
  simp only [alarmNumbers, List.mem_map, List.mem_range]
  exact ⟨n - 1, by omega, by omega⟩

/-- One ALARM notice of an entry among the 73 is all that the event posts. -/
theorem ordered_alarm {n : Nat} (h1 : 1 ≤ n) (h2 : n ≤ 73) (o : OwnFrame) :
    ({ Outbox.empty with alarm := [(n, o)] } : Outbox).ordered = [o] := by
  have hone : ∀ k, ([(n, o)].filter fun x : Nat × OwnFrame => decide (x.1 = k)).map (·.2) =
      if n = k then [o] else [] := by
    intro k; by_cases h : n = k <;> simp [h]
  simp only [Outbox.ordered, Outbox.empty, hone, flatMap_singleton_eq, count_alarmNumbers h1 h2]
  rfl

theorem ordered_summary (o : OwnFrame) : ({ Outbox.empty with summary := [o] } : Outbox).ordered = [o] := by
  have hnone : alarmNumbers.flatMap
      (fun n => (([] : List (Nat × OwnFrame)).filter fun x => decide (x.1 = n)).map (·.2)) = [] := by simp
  simp only [Outbox.ordered, Outbox.empty, hnone]
  rfl

/-! ### The notices' characters (R161, R185) -/

/-- A set of pumps as one figure is the sum of their bits (R183). -/
theorem bitSet_filter (f : Pump → Bool) (ps : List Pump) :
    bitSet ((ps.filter f).map Pump.number) = (ps.map fun p => if f p then 2 ^ (p.number - 1) else 0).sum := by
  unfold bitSet
  rw [← List.sum_eq_foldl]
  induction ps with
  | nil => rfl
  | cons p ps ih => cases hp : f p <;> simp [hp, ← ih]

theorem summaryPayload_eq (s : State) : s.summaryPayload =
    [4] ++ u32 s.clock.running ++ u32 s.clockTime ++ [if s.clock.set then 1 else 0] ++
      s16 s.flow.record.level ++ [BitVec.ofNat 8 s.flow.record.basis.code] ++
      u16 s.flow.record.qin.toNat ++
      [BitVec.ofNat 8 s.flow.record.qinQuality.code,
        BitVec.ofNat 8 (pumps.map fun p : Pump =>
          if s.feedbackActive p then 2 ^ (p.number - 1) else 0).sum,
        BitVec.ofNat 8 s.arbiter.supply.code,
        BitVec.ofNat 8 ((s.weir .w1).state.code + 4 * (s.weir .w2).state.code)] ++
      u16 (s.openNumber .w1) ++ u16 (s.openNumber .w2) ++ [BitVec.ofNat 8 s.unackCount] := by
  rw [State.summaryPayload, bitSet_filter]
  rfl

theorem length_summaryPayload (s : State) : s.summaryPayload.length = 24 := rfl

/-! ### The renotify and the summary timer (R159, R161) -/

theorem exec_renotifyTimerExpiry (hon : s.on = true) {n : Nat} (h1 : 1 ≤ n) (h2 : n ≤ 73)
    (htimer : (s.alarm n).renotify.isSome = true) :
    exec (.renotifyTimerExpiry n) s = .next (flushNotices (repeatAlarm n s)) := by
  simp [exec, execRenotifyTimerExpiry, hon, h1, h2, htimer]

theorem exec_summaryTimerExpiry (hon : s.on = true) (htimer : s.report.summaryTimer.isSome = true) :
    exec .summaryTimerExpiry s = .next (summaryDue s) := by
  simp [exec, execSummaryTimerExpiry, hon, htimer]

/-- Settles O37, by the one notice that each expiry posts. -/
theorem timersPostTheirNotices : Obligations.TimersPostTheirNotices := by
  intro s hon hempty
  have hadd : ∀ (o : OwnFrame) (n : Nat), ({ s.transit.outbox with
      alarm := s.transit.outbox.alarm ++ [(n, o)] } : Outbox) = { Outbox.empty with alarm := [(n, o)] } := by
    intro o n; rw [hempty]; rfl
  refine ⟨fun n h1 h2 htimer => ?_, fun htimer => ⟨s.summaryPayload, length_summaryPayload s,
    summaryPayload_eq s, ?_⟩⟩
  · rw [exec_renotifyTimerExpiry hon h1 h2 htimer, flushNotices_one (o := alarmNotice n true s)]
    · rw [← hempty]
      rfl
    · simp only [repeatAlarm, noteAlarm, State.setAlarm, hadd]
      exact ordered_alarm h1 h2 _
  · rw [exec_summaryTimerExpiry hon htimer, summaryDue,
      flushNotices_one (o := notice s .summary 0 s.summaryPayload)]
    · rw [← hempty]
      rfl
    · have hone : ({ s.transit.outbox with
          summary := s.transit.outbox.summary ++ [notice s .summary 0 s.summaryPayload] } : Outbox) =
          { Outbox.empty with summary := [notice s .summary 0 s.summaryPayload] } := by
        rw [hempty]; rfl
      simp only [noteSummary, hone]
      exact ordered_summary _

end Sys2Proof.Proofs
end

section
/-! PROOF. A change of an alarm entry, and what a statement of its condition or an acknowledgement makes of it. -/

namespace Sys2Proof.Proofs

open Sys2Proof.Machine Sys2Proof.Safety Sys2Proof.Laws

variable {s t u : State}

/-! ### A change of state (R154, R155, R157, R158) -/

theorem Listed.of_shapes (h : Shapes s) {n : Nat} (h1 : 1 ≤ n) (h2 : n ≤ 73) : Listed s n :=
  ⟨h1, by rw [h.alarms]; exact h2⟩

theorem alarm_changeAlarm_ne {n k : Nat} (h : Listed s n) (hk : 1 ≤ k) (hne : k ≠ n) (st : AlarmState) :
    (changeAlarm n st s).alarm k = s.alarm k := by
  rw [State.alarm, entries_changeAlarm]
  exact (State.alarm_setAlarm s n k (changedEntry n st s) h.1 h.2 hk).trans (if_neg hne)

theorem silence_changeAlarm (n : Nat) (st : AlarmState) (s : State) : (changeAlarm n st s).alarms.silence =
    if st = .activeUnack ∧ s.priority n = 1 then false else s.alarms.silence := by
  have hnotify : ∀ u, (notifyChange n u).alarms = u.alarms := by
    intro u; unfold notifyChange; split <;> rfl
  rw [changeAlarm, hnotify, wakeHorn]
  change (if st = .activeUnack ∧ s.priority n = 1 then _ else _ : State).alarms.silence = _
  split <;> rfl

/-- What a statement of conditions leaves of what an alarm notice and the threshold read. -/
theorem readers_of_outsideAlarms (h : outsideAlarms t = outsideAlarms s) :
    t.tables = s.tables ∧ t.clock = s.clock ∧ t.chip = s.chip := by
  refine ⟨?_, ?_, ?_⟩
  · simpa [outsideAlarms] using congrArg State.tables h
  · simpa [outsideAlarms] using congrArg State.clock h
  · simpa [outsideAlarms] using congrArg State.chip h

/-- The notice of a change, where the entry is notified, joins those of the event as the entry then stands (R158). -/
theorem outbox_changeAlarm (n : Nat) (st : AlarmState) (s : State) :
    (changeAlarm n st s).transit.outbox = { s.transit.outbox with
      alarm := s.transit.outbox.alarm ++
        if s.notified n then [(n, alarmNotice n false (changeAlarm n st s))] else [] } := by
  obtain ⟨htables, hclock, -⟩ := readers_of_outsideAlarms (outsideAlarms_changeAlarm n st s)
  have hwoken : (wakeHorn n st (s.setAlarm n (changedEntry n st s))).transit = s.transit ∧
      (wakeHorn n st (s.setAlarm n (changedEntry n st s))).tables = s.tables ∧
      (wakeHorn n st (s.setAlarm n (changedEntry n st s))).clock = s.clock := by
    unfold wakeHorn; split <;> exact ⟨rfl, rfl, rfl⟩
  obtain ⟨htransit, htables', hclock'⟩ := hwoken
  have hnotified : (wakeHorn n st (s.setAlarm n (changedEntry n st s))).notified n = s.notified n :=
    notified_congr (by rw [htables'])
  have hnotice : alarmNotice n false (wakeHorn n st (s.setAlarm n (changedEntry n st s))) =
      alarmNotice n false (changeAlarm n st s) := by
    refine alarmNotice_congr ?_ (by rw [htables, htables']) (by rw [hclock, hclock']) false
    rw [changeAlarm, notifyChange]
    split <;> rfl
  rw [← hnotice]
  unfold changeAlarm notifyChange
  rw [hnotified]
  cases s.notified n
  · simp [htransit]
  · simp [noteAlarm, htransit]

/-! ### A condition stated (R154) -/

/-- The state an entry comes to when its condition is stated (R154). -/
def followed (present : Bool) (st : AlarmState) : AlarmState :=
  match present, st with
  | true, .normal => .activeUnack
  | true, .returnedUnack => .activeUnack
  | false, .activeUnack => .returnedUnack
  | false, .activeAck => .normal
  | _, st => st

theorem followCondition_eq (n : Nat) (present : Bool) (s : State) :
    followCondition n present s =
      if s.priority n = 0 ∨ followed present (s.alarm n).state = (s.alarm n).state then s
      else changeAlarm n (followed present (s.alarm n).state) s := by
  unfold followCondition conditionAppears conditionClears
  by_cases hp : s.priority n = 0
  · simp [hp]
  · cases present <;> cases (s.alarm n).state <;> simp [followed, hp]

/-- A condition stated as it did not stand, at an entry whose state it does not change (R154). -/
theorem stateCondition_unfollowed {n : Nat} (h : Listed s n) {present : Bool}
    (hne : (s.alarm n).condition ≠ present)
    (hstays : s.priority n = 0 ∨ followed present (s.alarm n).state = (s.alarm n).state) :
    stateCondition n present s = s.setAlarm n { s.alarm n with condition := present } := by
  rw [stateCondition, if_neg hne, followCondition_eq, alarm_setAlarm_self h]
  exact if_pos hstays

/-- A condition stated that changes its entry's state (R154). -/
theorem stateCondition_followed {n : Nat} (h : Listed s n) {present : Bool}
    (hne : (s.alarm n).condition ≠ present) (hp : s.priority n ≠ 0)
    (hmoves : followed present (s.alarm n).state ≠ (s.alarm n).state) :
    stateCondition n present s = changeAlarm n (followed present (s.alarm n).state)
      (s.setAlarm n { s.alarm n with condition := present }) := by
  rw [stateCondition, if_neg hne, followCondition_eq, alarm_setAlarm_self h]
  exact if_neg (not_or.mpr ⟨hp, hmoves⟩)

/-- A statement of one entry's condition leaves every other entry (R154). -/
theorem alarm_stateCondition_ne {n k : Nat} (h : Listed s n) (hk : 1 ≤ k) (hne : k ≠ n) (present : Bool) :
    (stateCondition n present s).alarm k = s.alarm k := by
  have hset : (s.setAlarm n { s.alarm n with condition := present }).alarm k = s.alarm k :=
    (State.alarm_setAlarm s n k _ h.1 h.2 hk).trans (if_neg hne)
  unfold stateCondition
  split
  · rfl
  · rw [followCondition_eq]
    split
    · exact hset
    · rw [alarm_changeAlarm_ne (h.setAlarm n _) hk hne]
      exact hset

/-- An entry that follows its condition, as it then stands (R154, R159). -/
def followedEntry (n : Nat) (present : Bool) (s : State) : AlarmEntry where
  condition := present
  state := followed present (s.alarm n).state
  firstActive := if (s.alarm n).state = .normal then some s.clockTime else (s.alarm n).firstActive
  lastChange := some s.clockTime
  count := if (s.alarm n).state = .normal then min 255 ((s.alarm n).count + 1) else (s.alarm n).count
  renotify := s.renotifyAfter n (followed present (s.alarm n).state)

theorem alarm_stateCondition_followed {n : Nat} (h : Listed s n) {present : Bool}
    (hne : (s.alarm n).condition ≠ present) (hp : s.priority n ≠ 0)
    (hmoves : followed present (s.alarm n).state ≠ (s.alarm n).state) :
    (stateCondition n present s).alarm n = followedEntry n present s := by
  rw [stateCondition_followed h hne hp hmoves, alarm_changeAlarm (h.setAlarm n _), changedEntry,
    alarm_setAlarm_self h]
  simp only [decide_eq_true_eq]
  rfl

/-! ### Notified entries and their notices, in the terms of the rules (R158, R159, R185) -/

theorem notified_iff (s : State) (n : Nat) : s.notified n = true ↔
    1 ≤ s.priority n ∧ s.priority n ≤ (s.alarmTable.map (·.threshold)).getD 2 := by
  simp only [State.notified, Bool.and_eq_true, decide_eq_true_eq]
  rfl

theorem renotifyAfter_eq (n : Nat) (st : AlarmState) (s : State) : s.renotifyAfter n st =
    if (st = .activeUnack ∨ st = .returnedUnack) ∧
        (1 ≤ s.priority n ∧ s.priority n ≤ (s.alarmTable.map (·.threshold)).getD 2) ∧ s.priority n = 1 ∧
        (s.alarmTable.map (·.renotify)).getD 15 ≠ 0 then some s.now
    else none := by
  have hunack : st.unack = true ↔ st = .activeUnack ∨ st = .returnedUnack := by cases st <;> simp [AlarmState.unack]
  simp only [State.renotifyAfter, ← hunack, ← notified_iff, Bool.and_eq_true, decide_eq_true_eq, and_assoc]
  rfl

/-- The ALARM notice of an entry as it stands, in its characters (R185). -/
theorem alarmNotice_eq (n : Nat) (s : State) : alarmNotice n false s =
    ⟨s.gateway,
      [1, BitVec.ofNat 8 n, BitVec.ofNat 8 (s.alarm n).state.code, BitVec.ofNat 8 (s.priority n),
        BitVec.ofNat 8 ((s.alarm n).condition.toNat + 2 * s.clock.set.toNat +
          8 * (s.alarm n).firstActive.isSome.toNat + 16 * (s.alarm n).lastChange.isSome.toNat)] ++
        u32 ((s.alarm n).firstActive.getD 0) ++ u32 ((s.alarm n).lastChange.getD 0) ++
        [BitVec.ofNat 8 (s.alarm n).count],
      .notice .alarm n, 0⟩ := rfl

/-! ### The end of an event that posts at most one notice (R27, R156) -/

theorem outbox_judgeAnnunciator (s : State) : (judgeAnnunciator s).transit.outbox = s.transit.outbox := by
  unfold judgeAnnunciator
  split
  · rfl
  · simp [postAnnunciate]

/-- A posted command leaves the NOTICE class and its room. -/
theorem metBy_judgeAnnunciator (s : State) : (∀ o, metBy (judgeAnnunciator s) o = metBy s o) ∧
    (judgeAnnunciator s).transit.notice = s.transit.notice := by
  unfold judgeAnnunciator postAnnunciate postCommand
  split
  · exact ⟨fun _ => rfl, rfl⟩
  · split
    · exact ⟨fun _ => rfl, rfl⟩
    · refine ⟨fun o => ?_, rfl⟩
      have htx : ∀ x : Tx, (x.supersede .annunciator).sendingNotice = x.sendingNotice := by
        intro x; cases x <;> rfl
      unfold metBy State.noticeFull
      simp only [supersede, htx]
      rfl

theorem notice_finishAlarms_none (h : s.transit.outbox = Outbox.empty) :
    (finishAlarms s).transit.notice = s.transit.notice := by
  rw [finishAlarms, flushNotices_empty _ ((outbox_judgeAnnunciator s).trans h)]
  exact (metBy_judgeAnnunciator s).2

theorem notice_finishAlarms_one {o : OwnFrame} (h : s.transit.outbox.ordered = [o]) :
    (finishAlarms s).transit.notice = metBy s o := by
  rw [finishAlarms, flushNotices_one (o := o) (by rw [outbox_judgeAnnunciator, h])]
  exact (metBy_judgeAnnunciator s).1 o

/-- What the end of an event leaves of the alarm unit and the drives: the annunciator mode then derived is the one
posted (R156). -/
structure AnnunciatorJudged (s t : State) : Prop where
  entries : t.alarms.entries = s.alarms.entries
  silence : t.alarms.silence = s.alarms.silence
  posted : t.alarms.posted = some t.annMode
  seq : t.seq = s.seq
  screens : t.screens = s.screens
  arbiter : t.arbiter = s.arbiter
  frame : outsideDrives t = outsideDrives s

theorem annunciatorJudged_finishAlarms (s : State) : AnnunciatorJudged s (finishAlarms s) := by
  have hframe := outsideDrives_finishAlarms s
  have hkept : (judgeAnnunciator s).alarms.silence = s.alarms.silence ∧
      (judgeAnnunciator s).alarms.posted = some s.annMode ∧ (judgeAnnunciator s).seq = s.seq ∧
      (judgeAnnunciator s).screens = s.screens ∧ (judgeAnnunciator s).arbiter = s.arbiter := by
    unfold judgeAnnunciator
    split
    · exact ⟨rfl, ‹_›, rfl, rfl, rfl⟩
    · simp [postAnnunciate]
  obtain ⟨hsilence, hposted, hseq, hscreens, harbiter⟩ := hkept
  have hflush : ∀ u, (flushNotices u).seq = u.seq ∧ (flushNotices u).screens = u.screens ∧
      (flushNotices u).arbiter = u.arbiter := by
    intro u
    have hview : ∀ {β : Type} (E : State → β), (∀ v o, E (postNotice o v) = E v) →
        E (flushNotices u) = E { u with transit := { u.transit with outbox := Outbox.empty } } := 
      fun E hE => foldl_view E _ hE _ _
    exact ⟨hview State.seq fun v o => by rw [postNotice_eq], hview State.screens fun v o => by rw [postNotice_eq],
      hview State.arbiter fun v o => by rw [postNotice_eq]⟩
  have hsil : (finishAlarms s).alarms.silence = s.alarms.silence := by
    rw [finishAlarms, alarms_flushNotices, hsilence]
  have hmode : (finishAlarms s).annMode = s.annMode :=
    annMode_congr (entries_finishAlarms s) hsil (by rw [tables_of_outsideDrives hframe])
  refine ⟨entries_finishAlarms s, hsil, ?_, ?_, ?_, ?_, hframe⟩
  · rw [hmode, finishAlarms, alarms_flushNotices, hposted]
  · rw [finishAlarms, (hflush _).1, hseq]
  · rw [finishAlarms, (hflush _).2.1, hscreens]
  · rw [finishAlarms, (hflush _).2.2, harbiter]

end Sys2Proof.Proofs
end

section
/-! PROOF. Alarm entries follow their conditions; LOOP_STALL stated by the hold line. -/

namespace Sys2Proof.Proofs

open Sys2Proof.Machine Sys2Proof.Safety Sys2Proof.Laws

variable {s t u : State}

/-! ### What a statement of a condition leaves (R154, R157, R158) -/

/-- An entry once its condition is stated (R154). -/
def stated (n : Nat) (present : Bool) (s : State) : AlarmEntry :=
  if (s.alarm n).condition = present then s.alarm n
  else if s.priority n = 0 ∨ followed present (s.alarm n).state = (s.alarm n).state then
    { s.alarm n with condition := present }
  else followedEntry n present s

/-- A statement of a condition leaves of the alarm list that entry as stated (R154). -/
theorem entries_stateCondition {n : Nat} (h : Listed s n) (present : Bool) :
    (stateCondition n present s).alarms.entries = s.alarms.entries.set (n - 1) (stated n present s) := by
  by_cases hsame : (s.alarm n).condition = present
  · rw [stateCondition_same hsame, stated, if_pos hsame]
    exact congrArg (fun u : State => u.alarms.entries) (setAlarm_alarm h).symm
  · rw [stated, if_neg hsame]
    by_cases hstays : s.priority n = 0 ∨ followed present (s.alarm n).state = (s.alarm n).state
    · rw [if_pos hstays, stateCondition_unfollowed h hsame hstays]
      rfl
    · obtain ⟨hp, hmoves⟩ := not_or.mp hstays
      have hentry := alarm_stateCondition_followed h hsame hp hmoves
      rw [stateCondition_followed h hsame hp hmoves, alarm_changeAlarm (h.setAlarm n _)] at hentry
      rw [if_neg hstays, stateCondition_followed h hsame hp hmoves, entries_changeAlarm, hentry]
      simp [State.setAlarm]

theorem alarm_stateCondition {n : Nat} (h : Listed s n) (present : Bool) :
    (stateCondition n present s).alarm n = stated n present s := by
  rw [State.alarm, entries_stateCondition h]
  exact alarm_setAlarm_self h _

/-- A statement of a condition clears the silence flag where it takes an entry of priority 1 to ACTIVE_UNACK (R157). -/
theorem silence_stateCondition_eq {n : Nat} (h : Listed s n) (present : Bool) :
    (stateCondition n present s).alarms.silence =
      if (stated n present s).state ≠ (s.alarm n).state ∧ (stated n present s).state = .activeUnack ∧
        s.priority n = 1 then false else s.alarms.silence := by
  by_cases hsame : (s.alarm n).condition = present
  · simp [stateCondition_same hsame, stated, hsame]
  · by_cases hstays : s.priority n = 0 ∨ followed present (s.alarm n).state = (s.alarm n).state
    · rw [stateCondition_unfollowed h hsame hstays]
      simp [stated, hsame, hstays]
    · obtain ⟨hp, hmoves⟩ := not_or.mp hstays
      have hstate : (stated n present s).state = followed present (s.alarm n).state := by
        rw [stated, if_neg hsame, if_neg hstays]; rfl
      rw [stateCondition_followed h hsame hp hmoves, silence_changeAlarm, hstate,
        if_congr (and_iff_right hmoves) rfl rfl]
      rfl

/-- A statement of a condition brings its entry's notice where it changes the state of a notified entry (R158). -/
theorem outbox_stateCondition {n : Nat} (h : Listed s n) (present : Bool) :
    (stateCondition n present s).transit.outbox = { s.transit.outbox with
      alarm := s.transit.outbox.alarm ++
        if (stated n present s).state ≠ (s.alarm n).state ∧ s.notified n then
          [(n, alarmNotice n false (stateCondition n present s))] else [] } := by
  by_cases hsame : (s.alarm n).condition = present
  · simp [stateCondition_same hsame, stated, hsame]
  · by_cases hstays : s.priority n = 0 ∨ followed present (s.alarm n).state = (s.alarm n).state
    · rw [stateCondition_unfollowed h hsame hstays]
      simp [stated, hsame, hstays]
    · obtain ⟨hp, hmoves⟩ := not_or.mp hstays
      have hstate : (stated n present s).state ≠ (s.alarm n).state := by
        rw [stated, if_neg hsame, if_neg hstays]; exact hmoves
      rw [if_congr (and_iff_right hstate) rfl rfl, stateCondition_followed h hsame hp hmoves, outbox_changeAlarm]
      rfl

/-! ### LOOP_STALL (R12) -/

/-- The end of an event that stated one condition: the entry as stated, the annunciator judged, and the notice of a
change of state (R154, R156, R158). -/
theorem finishAlarms_stated {n : Nat} (h : Listed s n) (h73 : n ≤ 73) (hempty : s.transit.outbox = Outbox.empty)
    (present : Bool) : (finishAlarms (stateCondition n present s)).transit.notice =
      if (stated n present s).state ≠ (s.alarm n).state ∧ s.notified n then
        metBy (stateCondition n present s) (alarmNotice n false (stateCondition n present s))
      else (stateCondition n present s).transit.notice := by
  have hout := outbox_stateCondition h present
  rw [hempty] at hout
  split
  · next hchanged =>
    rw [if_pos hchanged] at hout
    exact notice_finishAlarms_one (by rw [hout]; exact ordered_alarm h.1 h73 _)
  · next hsame =>
    rw [if_neg hsame] at hout
    exact notice_finishAlarms_none hout

/-- A statement of a condition leaves the NOTICE class and its room. -/
theorem metBy_of_outsideAlarms (h : outsideAlarms t = outsideAlarms s) :
    t.transit.notice = s.transit.notice ∧ ∀ o, metBy t o = metBy s o := by
  have hnotice : t.transit.notice = s.transit.notice := by
    simpa [outsideAlarms] using congrArg (fun u : State => u.transit.notice) h
  refine ⟨hnotice, fun o => ?_⟩
  unfold metBy State.noticeFull
  rw [hnotice, loop_of_outsideAlarms h]

/-- The end of an event that states LOOP_STALL at the line `l` of a state whose hold line and loop port alone differ
from `s`. -/
theorem loopStall_stated (h : Shapes s) (hempty : s.transit.outbox = Outbox.empty) (present b : Bool)
    {l : LoopPort} (htx : l.tx = s.loop.tx) {v t : State}
    (hv : { s with chip := { s.chip with holdIn := b }, loop := l } = v)
    (ht : t = finishAlarms (stateCondition 23 present v)) :
    t.alarms.entries = (stateCondition 23 present s).alarms.entries ∧
      t.alarms.silence = (stateCondition 23 present s).alarms.silence ∧ t.alarms.posted = some t.annMode ∧
      t.transit.notice =
        (if ((stateCondition 23 present s).alarm 23).state ≠ (s.alarm 23).state ∧ s.notified 23 then
          metBy s (alarmNotice 23 false (stateCondition 23 present s))
        else s.transit.notice) ∧
      t.seq = s.seq ∧ t.screens = s.screens ∧ t.arbiter = s.arbiter := by
  subst ht
  have hs : Listed s 23 := .of_shapes h (by omega) (by omega)
  have hlisted : Listed v 23 := by rw [← hv]; exact hs
  have hstated : stated 23 present v = stated 23 present s := by rw [← hv]; rfl
  have hentries : (stateCondition 23 present v).alarms.entries =
      (stateCondition 23 present s).alarms.entries := by
    rw [entries_stateCondition hlisted, entries_stateCondition hs, hstated, ← hv]
  have hframe : outsideAlarms (stateCondition 23 present v) = outsideAlarms v :=
    outsideAlarms_stateCondition 23 present v
  obtain ⟨htables, hclock, -⟩ := readers_of_outsideAlarms hframe
  obtain ⟨htables', hclock', -⟩ := readers_of_outsideAlarms (outsideAlarms_stateCondition 23 present s)
  have hend := annunciatorJudged_finishAlarms (stateCondition 23 present v)
  refine ⟨hend.entries.trans hentries, ?_, hend.posted, ?_, ?_, ?_, ?_⟩
  · rw [hend.silence, silence_stateCondition_eq hlisted, silence_stateCondition_eq hs, hstated, ← hv]
    rfl
  · have hnotice : alarmNotice 23 false (stateCondition 23 present v) =
        alarmNotice 23 false (stateCondition 23 present s) := by
      refine alarmNotice_congr ?_ (by rw [htables, htables', ← hv]) (by rw [hclock, hclock', ← hv]) false
      unfold State.alarm
      rw [hentries]
    have hmet : metBy v = metBy s := by
      funext o
      rw [← hv]
      unfold metBy State.noticeFull
      simp only [htx]
    obtain ⟨hclass, hroom⟩ := metBy_of_outsideAlarms hframe
    rw [finishAlarms_stated hlisted (by omega) (by rw [← hv]; exact hempty), hclass, hroom, hmet, hnotice, hstated,
      alarm_stateCondition hs, ← hv]
    rfl
  · rw [hend.seq, seq_of_outsideAlarms hframe, ← hv]
  · rw [hend.screens, screens_of_outsideAlarms hframe, ← hv]
  · rw [hend.arbiter, arbiter_of_outsideAlarms hframe, ← hv]

end Sys2Proof.Proofs
end

section
/-! PROOF. Alarm entries acknowledged, and the horn silenced. -/

namespace Sys2Proof.Proofs

open Sys2Proof.Machine Sys2Proof.Safety Sys2Proof.Laws

variable {s t u : State}

/-! ### One entry acknowledged (R155) -/

/-- An entry once it is acknowledged at a clock time (R155). -/
def acknowledged (time : Nat) (e : AlarmEntry) : AlarmEntry :=
  match e.state with
  | .activeUnack => { e with state := .activeAck, lastChange := some time, renotify := none }
  | .returnedUnack => { e with state := .normal, lastChange := some time, renotify := none }
  | _ => e

/-- An acknowledgement changes no entry's state, or it changes the state to one that is acknowledged (R155). -/
theorem ackEntry_cases (n : Nat) (s : State) :
    (ackEntry n s = s ∧ acknowledged s.clockTime (s.alarm n) = s.alarm n) ∨
    ∃ st, ackEntry n s = changeAlarm n st s ∧ st ≠ (s.alarm n).state ∧ st ≠ .activeUnack ∧
      changedEntry n st s = acknowledged s.clockTime (s.alarm n) := by
  cases hst : (s.alarm n).state with
  | normal => exact .inl ⟨by simp [ackEntry, hst], by simp [acknowledged, hst]⟩
  | activeAck => exact .inl ⟨by simp [ackEntry, hst], by simp [acknowledged, hst]⟩
  | activeUnack =>
    refine .inr ⟨.activeAck, by simp [ackEntry, hst], by simp, by simp, ?_⟩
    simp [changedEntry, acknowledged, hst, State.renotifyAfter, AlarmState.unack]
  | returnedUnack =>
    refine .inr ⟨.normal, by simp [ackEntry, hst], by simp, by simp, ?_⟩
    simp [changedEntry, acknowledged, hst, State.renotifyAfter, AlarmState.unack]

theorem alarm_ackEntry {n k : Nat} (h : Listed s n) (hk : 1 ≤ k) :
    (ackEntry n s).alarm k = if k = n then acknowledged s.clockTime (s.alarm k) else s.alarm k := by
  rcases ackEntry_cases n s with ⟨heq, hsame⟩ | ⟨st, heq, -, -, hentry⟩
  · rw [heq]
    split
    · next hkn => rw [hkn, hsame]
    · rfl
  · rw [heq]
    split
    · next hkn => rw [hkn, alarm_changeAlarm h, hentry]
    · next hkn => exact alarm_changeAlarm_ne h hk hkn st

theorem outsideAlarms_ackEntry (n : Nat) (s : State) : outsideAlarms (ackEntry n s) = outsideAlarms s := by
  rcases ackEntry_cases n s with ⟨heq, -⟩ | ⟨st, heq, -⟩ <;> rw [heq]
  exact outsideAlarms_changeAlarm n st s

theorem silence_ackEntry (n : Nat) (s : State) : (ackEntry n s).alarms.silence = s.alarms.silence := by
  rcases ackEntry_cases n s with ⟨heq, -⟩ | ⟨st, heq, -, hst, -⟩ <;> rw [heq]
  rw [silence_changeAlarm, if_neg fun h => hst h.1]

theorem length_ackEntry (n : Nat) (s : State) :
    (ackEntry n s).alarms.entries.length = s.alarms.entries.length := by
  rcases ackEntry_cases n s with ⟨heq, -⟩ | ⟨st, heq, -⟩ <;> rw [heq]
  rw [entries_changeAlarm]
  simp

/-- The notice that an acknowledgement brings (R158): the entry's, where it changes the state of a notified one. -/
theorem outbox_ackEntry {n : Nat} (h : Listed s n) : (ackEntry n s).transit.outbox = { s.transit.outbox with
    alarm := s.transit.outbox.alarm ++
      if ((ackEntry n s).alarm n).state ≠ (s.alarm n).state ∧ s.notified n then
        [(n, alarmNotice n false (ackEntry n s))] else [] } := by
  rcases ackEntry_cases n s with ⟨heq, -⟩ | ⟨st, heq, hst, -⟩
  · simp [heq]
  · have hmoves : ((changeAlarm n st s).alarm n).state ≠ (s.alarm n).state := by
      rw [alarm_changeAlarm h]; exact hst
    rw [heq, if_congr (and_iff_right hmoves) rfl rfl, outbox_changeAlarm]

/-! ### All entries acknowledged (R155) -/

/-- `t` is `s` with the entries `ns` acknowledged. -/
structure Acknowledged (s : State) (ns : List Nat) (t : State) : Prop where
  alarm : ∀ k, 1 ≤ k → t.alarm k = if k ∈ ns then acknowledged s.clockTime (s.alarm k) else s.alarm k
  silence : t.alarms.silence = s.alarms.silence
  length : t.alarms.entries.length = s.alarms.entries.length
  frame : outsideAlarms t = outsideAlarms s

theorem acknowledged_one {n : Nat} (h : Listed s n) : Acknowledged s [n] (ackEntry n s) where
  alarm k hk := by simpa using alarm_ackEntry h hk
  silence := silence_ackEntry n s
  length := length_ackEntry n s
  frame := outsideAlarms_ackEntry n s

/-- Acknowledging an entry twice does what once does. -/
theorem acknowledged_acknowledged (time : Nat) (e : AlarmEntry) :
    acknowledged time (acknowledged time e) = acknowledged time e := by
  unfold acknowledged
  cases h : e.state <;> simp [h]

theorem Acknowledged.trans {ns ms : List Nat} (h : Acknowledged s ns t) (h' : Acknowledged t ms u) :
    Acknowledged s (ns ++ ms) u where
  alarm k hk := by
    have hclock : t.clockTime = s.clockTime := by
      rw [State.clockTime, (readers_of_outsideAlarms h.frame).2.1]; rfl
    rw [h'.alarm k hk, h.alarm k hk, hclock]
    by_cases hn : k ∈ ns <;> by_cases hm : k ∈ ms <;> simp [hn, hm, acknowledged_acknowledged]
  silence := h'.silence.trans h.silence
  length := h'.length.trans h.length
  frame := h'.frame.trans h.frame

theorem acknowledged_foldl {ns : List Nat} (hlisted : ∀ n ∈ ns, Listed s n) :
    Acknowledged s ns (ns.foldl (fun u n => ackEntry n u) s) := by
  induction ns generalizing s with
  | nil => exact ⟨fun _ _ => by simp, rfl, rfl, rfl⟩
  | cons n ns ih =>
    have hone := acknowledged_one (hlisted n (by simp))
    refine hone.trans (ih fun m hm => ?_)
    have := hlisted m (by simp [hm])
    exact ⟨this.1, by rw [hone.length]; exact this.2⟩

/-- What ACK_ALARM acknowledges (R155): the entry named, or all. -/
def ackTargets (n : Nat) : List Nat := if n = 0 then alarmNumbers else [n]

theorem mem_alarmNumbers {k : Nat} : k ∈ alarmNumbers ↔ 1 ≤ k ∧ k ≤ 73 := by
  simp only [alarmNumbers, List.mem_map, List.mem_range]
  exact ⟨fun ⟨a, ha, hk⟩ => by omega, fun ⟨h1, h2⟩ => ⟨k - 1, by omega, by omega⟩⟩

/-- ACK_ALARM of an entry number that exists (R155). -/
theorem doAckAlarm_eq {entry : Byte} (h : entry.toNat ≤ 73) (s : State) : doAckAlarm entry s =
    (Answer.done [], finishAlarms ((ackTargets entry.toNat).foldl (fun u n => ackEntry n u) s)) := by
  unfold doAckAlarm ackTargets
  rw [if_neg (not_lt.mpr h)]
  split <;> rfl

/-! ### The requests (R155, R157) -/

/-- A request without data answered DONE: what it does, and one response (R166). -/
theorem request_done {src tag : Byte} {r : Request} {need : Permission} (h : Taken s src need)
    (hp : parseParams r.code r.params = some r) (hn : permissionOfCode r.code = some need) (hr : r ≠ .restart)
    (hdone : carryOut r s = (Answer.done [], u)) :
    request src tag r s = withReply u src r.code tag [0, 0] := by
  have hrestart : s.startsRestart r = false := by simp [State.startsRestart, hr]
  rw [request_taken src tag r need hp hn h, hdone, hrestart]
  exact respond_reply src r.code tag (Answer.done []) u (by simp [Answer.done]) (by simp [Answer.done])

/-- What the end of an event at the alarm unit leaves, with one response after it. -/
theorem answered_withReply (h : AnnunciatorJudged s t) (hframe : outsideAlarms s = outsideAlarms u)
    (src code tag : Byte) (rest : List Byte) :
    (withReply t src code tag rest).alarms.posted = some (withReply t src code tag rest).annMode ∧
      Answered u (withReply t src code tag rest) src code tag rest ∧
      (withReply t src code tag rest).seq = u.seq ∧ (withReply t src code tag rest).screens = u.screens ∧
      outsideDrives { withReply t src code tag rest with transit :=
        { (withReply t src code tag rest).transit with response := u.transit.response } } = outsideDrives u := by
  have hdrives := h.frame.trans (outsideDrives_of_outsideAlarms hframe)
  have hresponse := response_of_outsideDrives hdrives
  refine ⟨h.posted, ?_, h.seq.trans (seq_of_outsideAlarms hframe), h.screens.trans (screens_of_outsideAlarms hframe),
    ?_⟩
  · simp only [Answered, withReply, hresponse]
  · refine Eq.trans ?_ hdrives
    rw [← hresponse]
    rfl

/-- ACK_ALARM of an entry number that exists, by what it leaves of the alarm list and the NOTICE class (R155, R158). -/
theorem ackAlarm_leaves {src tag entry : Byte} (h : Taken s src .operate) (hshapes : Shapes s)
    (hentry : entry.toNat ≤ 73) : ∃ t, exec (.ackAlarm src tag entry) s = .next t ∧
      (∀ n, 1 ≤ n → n ≤ 73 → t.alarm n =
        if entry.toNat = 0 ∨ entry.toNat = n then acknowledged s.clockTime (s.alarm n) else s.alarm n) ∧
      t.alarms.silence = s.alarms.silence ∧ t.alarms.posted = some t.annMode ∧
      (1 ≤ entry.toNat → s.transit.outbox = Outbox.empty → t.transit.notice =
        if (t.alarm entry.toNat).state ≠ (s.alarm entry.toNat).state ∧ s.notified entry.toNat then
          metBy s (alarmNotice entry.toNat false t)
        else s.transit.notice) ∧
      Answered s t src 21 tag [0, 0] ∧ t.seq = s.seq ∧ t.screens = s.screens ∧
      outsideDrives { t with transit := { t.transit with response := s.transit.response } } =
        outsideDrives s := by
  have hlisted : ∀ n, 1 ≤ n → n ≤ 73 → Listed s n := fun n => .of_shapes hshapes
  generalize hu : (ackTargets entry.toNat).foldl (fun u n => ackEntry n u) s = u
  have hack : Acknowledged s (ackTargets entry.toNat) u := by
    rw [← hu]
    refine acknowledged_foldl fun n hn => ?_
    unfold ackTargets at hn
    split at hn
    · exact hlisted n (mem_alarmNumbers.mp hn).1 (mem_alarmNumbers.mp hn).2
    · next hzero =>
      rw [List.mem_singleton.mp hn]
      exact hlisted _ (by omega) hentry
  have hexec : exec (.ackAlarm src tag entry) s = .next (withReply (finishAlarms u) src 21 tag [0, 0]) := by
    refine congrArg Host.Outcome.next (request_done (r := .ackAlarm entry) h rfl rfl (by simp) ?_)
    rw [← hu]
    exact doAckAlarm_eq hentry s
  have hjudged := annunciatorJudged_finishAlarms u
  obtain ⟨hposted, hanswered, hseq, hscreens, hframe⟩ := answered_withReply hjudged hack.frame src 21 tag [0, 0]
  have halarm : ∀ n, (withReply (finishAlarms u) src 21 tag [0, 0]).alarm n = u.alarm n :=
    fun n => alarm_finishAlarms n u
  refine ⟨_, hexec, fun n h1 h2 => ?_, hjudged.silence.trans hack.silence, hposted, fun hpos hempty => ?_,
    hanswered, hseq, hscreens, hframe⟩
  · rw [halarm, hack.alarm n h1]
    refine if_congr ?_ rfl rfl
    unfold ackTargets
    split
    · next hzero => simp [hzero, mem_alarmNumbers, h1, h2]
    · next hzero => simp [hzero, eq_comm]
  · have hone : u = ackEntry entry.toNat s := by
      rw [← hu, ackTargets, if_neg (by omega)]; rfl
    have hout := outbox_ackEntry (hlisted _ hpos hentry)
    rw [hempty, ← hone] at hout
    obtain ⟨hclass, hroom⟩ := metBy_of_outsideAlarms hack.frame
    have hnotice : alarmNotice entry.toNat false (withReply (finishAlarms u) src 21 tag [0, 0]) =
        alarmNotice entry.toNat false u := by
      refine alarmNotice_congr (halarm _) ?_ ?_ false
      · exact congrArg Tables.active (tables_of_outsideDrives (t := finishAlarms u) hjudged.frame)
      · exact clock_of_outsideDrives (t := finishAlarms u) hjudged.frame
    rw [halarm, hnotice, ← hclass, ← hroom]
    change (finishAlarms u).transit.notice = _
    split
    · next hchanged =>
      rw [if_pos hchanged] at hout
      exact notice_finishAlarms_one (by rw [hout]; exact ordered_alarm hpos hentry _)
    · next hsame =>
      rw [if_neg hsame] at hout
      exact notice_finishAlarms_none hout

/-- While the horn is silenced FLASH_HORN is not derived (R156, R157). -/
theorem annMode_ne_flashHorn (h : s.alarms.silence = true) : s.annMode ≠ .flashHorn := by
  unfold State.annMode
  rw [h]
  simp only [Bool.not_true, Bool.false_and, Bool.false_eq_true, if_false]
  split
  · simp
  · split <;> simp

/-- SILENCE, by what it leaves of the alarm unit (R157). -/
theorem silence_leaves {src tag : Byte} (h : Taken s src .operate) : ∃ t, exec (.silence src tag) s = .next t ∧
    t.alarms.silence = true ∧ t.alarms.entries = s.alarms.entries ∧ t.alarms.posted = some t.annMode ∧
    t.annMode ≠ .flashHorn ∧ Answered s t src 22 tag [0, 0] ∧ t.seq = s.seq ∧ t.screens = s.screens ∧
    outsideDrives { t with transit := { t.transit with response := s.transit.response } } = outsideDrives s := by
  generalize hu : ({ s with alarms := { s.alarms with silence := true } } : State) = u
  have hexec : exec (.silence src tag) s = .next (withReply (finishAlarms u) src 22 tag [0, 0]) := by
    refine congrArg Host.Outcome.next (request_done (r := .silence) h rfl rfl (by simp) ?_)
    rw [← hu]; rfl
  have hjudged := annunciatorJudged_finishAlarms u
  have hframe : outsideAlarms u = outsideAlarms s := by rw [← hu]; rfl
  have hsilence : (finishAlarms u).alarms.silence = true := hjudged.silence.trans (by rw [← hu])
  obtain ⟨hposted, hanswered, hseq, hscreens, hdrives⟩ := answered_withReply hjudged hframe src 22 tag [0, 0]
  exact ⟨_, hexec, hsilence, hjudged.entries.trans (by rw [← hu]), hposted, annMode_ne_flashHorn hsilence,
    hanswered, hseq, hscreens, hdrives⟩

/-! ### The obligation -/

/-- The first part of O36: a condition stated, by the entry's state and priority (R154). -/
theorem stateCondition_cases {n : Nat} {present : Bool} (h : Listed s n) (hne : (s.alarm n).condition ≠ present) :
    (s.priority n = 0 ∨ followed present (s.alarm n).state = (s.alarm n).state →
      (stateCondition n present s).alarm n = { s.alarm n with condition := present } ∧
      (stateCondition n present s).alarms.silence = s.alarms.silence ∧
      (stateCondition n present s).transit.outbox = s.transit.outbox) ∧
    (s.priority n ≠ 0 → followed present (s.alarm n).state ≠ (s.alarm n).state →
      (stateCondition n present s).alarm n = followedEntry n present s ∧
      (stateCondition n present s).alarms.silence =
        (if followed present (s.alarm n).state = .activeUnack ∧ s.priority n = 1 then false
        else s.alarms.silence) ∧
      (stateCondition n present s).transit.outbox = { s.transit.outbox with
        alarm := s.transit.outbox.alarm ++
          if s.notified n then [(n, alarmNotice n false (stateCondition n present s))] else [] }) := by
  refine ⟨fun hstays => ?_, fun hp hmoves => ?_⟩
  · rw [stateCondition_unfollowed h hne hstays]
    exact ⟨alarm_setAlarm_self h _, rfl, rfl⟩
  · have hstated : stated n present s = followedEntry n present s := by
      rw [stated, if_neg hne, if_neg (not_or.mpr ⟨hp, hmoves⟩)]
    have hstate : (stated n present s).state = followed present (s.alarm n).state := by rw [hstated]; rfl
    refine ⟨(alarm_stateCondition h present).trans hstated, ?_, ?_⟩
    · rw [silence_stateCondition_eq h, hstate, if_congr (and_iff_right hmoves) rfl rfl]
    · rw [outbox_stateCondition h, hstate, if_congr (and_iff_right hmoves) rfl rfl]

/-- The second part of O36: LOOP_STALL stated by the release of Hold In or the stall timer's expiry (R12). -/
theorem loopStall_events {c : Instr} {present : Bool} (hon : s.on = true) (h : Shapes s)
    (hempty : s.transit.outbox = Outbox.empty)
    (hc : (c = .holdInReleased ∧ present = false) ∨ (c = .stallTimerExpiry ∧ present = true ∧
      s.loop.stallTimer.isSome = true ∧ s.loop.loopStall = false)) : ∃ t, exec c s = .next t ∧
    t.alarms.entries = (stateCondition 23 present s).alarms.entries ∧
      t.alarms.silence = (stateCondition 23 present s).alarms.silence ∧ t.alarms.posted = some t.annMode ∧
      t.transit.notice =
        (if ((stateCondition 23 present s).alarm 23).state ≠ (s.alarm 23).state ∧ s.notified 23 then
          metBy s (alarmNotice 23 false (stateCondition 23 present s))
        else s.transit.notice) ∧
      t.seq = s.seq ∧ t.screens = s.screens ∧ t.arbiter = s.arbiter := by
  rcases hc with ⟨rfl, rfl⟩ | ⟨rfl, rfl, htimer, hstall⟩
  · have hexec : exec .holdInReleased s = .next (finishAlarms (stateCondition 23 false { s with
        chip := { s.chip with holdIn := false }
        loop := { s.loop with stallTimer := none, loopStall := false } })) := by
      simp [exec, execHoldInReleased, hon]
    exact ⟨_, hexec, loopStall_stated h hempty false false (by rfl) rfl rfl⟩
  · have hexec : exec .stallTimerExpiry s = .next (finishAlarms (stallReached s)) := by
      simp [exec, execStallTimerExpiry, hon, htimer, hstall]
    exact ⟨_, hexec, loopStall_stated (l := { s.loop with loopStall := true }) h hempty true s.chip.holdIn rfl
      rfl rfl⟩

/-- Settles O36. -/
theorem alarmsFollowConditionsAndAcknowledgements : Obligations.AlarmsFollowConditionsAndAcknowledgements := by
  refine ⟨fun n present s h1 h73 hshapes => ?_, fun c present s hon hshapes hempty hc => ?_,
    fun src tag entry s h hshapes => ⟨fun hbig => ?_, fun hentry => ?_, silence_leaves h⟩⟩
  · have h : Listed s n := .of_shapes hshapes h1 h73
    intro t e next
    have hnext : next = followed present (s.alarm n).state := by
      unfold followed
      cases present <;> cases hst : (s.alarm n).state <;> simp only [next, e, hst]
    clear_value next
    subst hnext
    refine ⟨stateCondition_same, fun hne => ⟨fun k hk _ hkn => alarm_stateCondition_ne h hk hkn present,
      outsideAlarms_stateCondition n present s, (stateCondition_cases h hne).1, fun hp hmoves => ?_⟩⟩
    obtain ⟨halarm, hsilence, houtbox⟩ := (stateCondition_cases h hne).2 hp hmoves
    refine ⟨halarm.trans ?_, hsilence, houtbox.trans ?_⟩
    · rw [followedEntry, renotifyAfter_eq]
    · simp only [notified_iff, alarmNotice_eq]
      rfl
  · have hevent := loopStall_events hon hshapes hempty hc
    simp only [notified_iff, alarmNotice_eq] at hevent
    exact hevent
  · have hmalformed : carryOut (.ackAlarm entry) s = (Answer.plain .malformed, s) := if_pos hbig
    refine congrArg Host.Outcome.next ?_
    rw [request_taken src tag (.ackAlarm entry) .operate rfl rfl h, hmalformed]
    rfl
  · have hack := ackAlarm_leaves (tag := tag) h hshapes hentry
    simp only [notified_iff, alarmNotice_eq] at hack
    exact hack

end Sys2Proof.Proofs
end

section
/-! PROOF. What the shedding check and the grant pass leave of a drive that they do not move, and of the ACTUATOR
class. -/

namespace Sys2Proof.Proofs

open Sys2Proof.Machine Sys2Proof.Safety Sys2Proof.Laws

variable {s t u : State}

/-! ### Commands posted for one drive (R26) -/

/-- The commands that wait for an actuator (R26). -/
def commandsFor (a : Actuator) (s : State) : List OwnFrame := s.transit.actuator.filter (OwnFrame.isFor a)

theorem commandsFor_ne_nil {a : Actuator} : commandsFor a s ≠ [] ↔
    s.transit.actuator.any (OwnFrame.isFor a) = true := by
  simp [commandsFor, List.filter_eq_nil_iff]

/-- What is posted for an actuator turns on its gate entry and the commands that wait for it. -/
theorem posted_congr {a : Actuator} (h : commandsFor a t = commandsFor a s) (hg : t.transit.gate = s.transit.gate)
    {c : CommandCode} (hs : Posted s a c) : Posted t a c := by
  intro hentry
  obtain ⟨o, ho, arg, href⟩ := hs (by simpa only [State.gateEntry, hg] using hentry)
  have hmem : o ∈ commandsFor a s := List.mem_filter.mpr ⟨ho, by simp [OwnFrame.isFor, href]⟩
  rw [← h] at hmem
  exact ⟨o, (List.mem_filter.mp hmem).1, arg, href⟩

/-- `t` comes of `s` by work that posts commands for the actuator `d` alone and withdraws none. -/
structure PostsFor (d : Actuator) (s t : State) : Prop where
  others : ∀ a, a ≠ d → commandsFor a t = commandsFor a s
  stays : commandsFor d s ≠ [] → commandsFor d t ≠ []

theorem PostsFor.trans {d : Actuator} (h : PostsFor d s t) (h' : PostsFor d t u) : PostsFor d s u :=
  ⟨fun a ha => (h'.others a ha).trans (h.others a ha), h'.stays ∘ h.stays⟩

/-- Work that leaves the ACTUATOR class. -/
theorem PostsFor.of_class {d : Actuator} (h : PostsFor d s t) (hu : u.transit.actuator = t.transit.actuator) :
    PostsFor d s u :=
  h.trans ⟨fun a _ => by rw [commandsFor, hu, commandsFor], by rw [commandsFor, commandsFor, hu]; exact id⟩

theorem PostsFor.refl (d : Actuator) (s : State) : PostsFor d s s := ⟨fun _ _ => rfl, id⟩

/-- No command that waits is lost. -/
theorem PostsFor.waits {d a : Actuator} (h : PostsFor d s t) (hs : commandsFor a s ≠ []) : commandsFor a t ≠ [] := by
  by_cases ha : a = d
  · exact ha ▸ h.stays (ha ▸ hs)
  · rwa [h.others a ha]

theorem commandsFor_postCommand {a : Actuator} (c : CommandCode) (g : Byte) (n : Option Nat)
    (h : (s.gateEntry a).isSome = true) : commandsFor a (postCommand a c g n s) ≠ [] := by
  obtain ⟨o, ho, href⟩ := mem_postCommand c g n h
  exact List.ne_nil_of_mem (List.mem_filter.mpr ⟨ho, by simp [OwnFrame.isFor, href]⟩)

theorem postsFor_postCommand (d : Actuator) (c : CommandCode) (g : Byte) (n : Option Nat) (s : State) :
    PostsFor d s (postCommand d c g n s) := by
  refine ⟨fun a ha => filter_postCommand (Ne.symm ha) c g n s, fun hs => ?_⟩
  cases hg : s.gateEntry d with
  | none => rwa [commandsFor, actuator_postCommand, hg]
  | some e => exact commandsFor_postCommand c g n (by rw [hg]; rfl)

section Moves
variable {p : Pump} {r : Side} {d : Actuator}

theorem PostsFor.postPump (h : PostsFor (.pump p) s t) (c : CommandCode) : PostsFor (.pump p) s (postPump p c t) :=
  (h.of_class (u := t.setPump p { t.pump p with command := c, confirmed := false }) rfl).trans
    (postsFor_postCommand ..)

theorem PostsFor.postRake (h : PostsFor (.rake r) s t) (c : CommandCode) : PostsFor (.rake r) s (postRake r c t) :=
  (h.of_class (u := t.setRake r { t.rake r with command := c, confirmed := false }) rfl).trans
    (postsFor_postCommand ..)

theorem PostsFor.setPump (h : PostsFor d s t) (q : Pump) (v : PumpRec) : PostsFor d s (t.setPump q v) :=
  h.of_class rfl

theorem PostsFor.setRake (h : PostsFor d s t) (q : Side) (v : RakeRec) : PostsFor d s (t.setRake q v) :=
  h.of_class rfl

theorem PostsFor.releaseDrive (h : PostsFor d s t) (q : Pump) : PostsFor d s (releaseDrive q t) :=
  h.of_class (by unfold Machine.releaseDrive; split <;> rfl)

theorem PostsFor.protectTo (h : PostsFor (.pump p) s t) (st : PumpState) : PostsFor (.pump p) s (protectTo st p t) :=
  ((h.releaseDrive p).setPump p _).postPump .stop

theorem PostsFor.tripInhibited (h : PostsFor (.pump p) s t) : PostsFor (.pump p) s (tripInhibited p t) := by
  unfold Machine.tripInhibited
  split
  · exact h.protectTo .tripped
  · exact h

theorem PostsFor.enterRunning (h : PostsFor d s t) (q : Pump) : PostsFor d s (enterRunning q t) :=
  h.of_class rfl

theorem PostsFor.startPump (h : PostsFor (.pump p) s t) : PostsFor (.pump p) s (startPump p t) := by
  unfold Machine.startPump
  dsimp only
  split
  · exact ((h.setPump p _).postPump .run).enterRunning p
  · exact (h.setPump p _).postPump .run

theorem PostsFor.pumpStopped (h : PostsFor (.pump p) s t) : PostsFor (.pump p) s (pumpStopped p t) :=
  PostsFor.tripInhibited (h.of_class rfl)

theorem PostsFor.enterStopping (h : PostsFor (.pump p) s t) : PostsFor (.pump p) s (enterStopping p t) := by
  unfold Machine.enterStopping
  dsimp only
  split
  · exact ((h.releaseDrive p).setPump p _).postPump .stop
  · exact (((h.releaseDrive p).setPump p _).postPump .stop).pumpStopped

theorem PostsFor.shedPump (h : PostsFor (.pump p) s t) : PostsFor (.pump p) s (shedPump p t) := by
  unfold Machine.shedPump
  split
  · exact h.enterStopping
  · exact h

theorem PostsFor.shedRake (h : PostsFor (.rake r) s t) : PostsFor (.rake r) s (shedRake r t) := by
  unfold Machine.shedRake
  split
  · exact (h.setRake r _).postRake .stop
  · exact h

theorem PostsFor.judgeJamTimer (h : PostsFor d s t) (q : Side) : PostsFor d s (judgeJamTimer q t) := by
  refine h.of_class ?_
  unfold Machine.judgeJamTimer
  dsimp only
  split_ifs <;> rfl

theorem PostsFor.grantRake (h : PostsFor (.rake r) s t) : PostsFor (.rake r) s (grantRake r t) := by
  unfold Machine.grantRake
  refine PostsFor.judgeJamTimer (PostsFor.postRake ?_ .run) r
  exact PostsFor.of_class h rfl

theorem PostsFor.grantCandidate (h : PostsFor (.pump p) s t) : PostsFor (.pump p) s (grantCandidate p t) := by
  unfold Machine.grantCandidate
  split_ifs
  · exact h.startPump
  · exact h.setPump p _
  · exact h

theorem PostsFor.grantIfFree (h : PostsFor (.rake r) s t) : PostsFor (.rake r) s (grantIfFree r t) := by
  unfold Machine.grantIfFree
  split
  · exact h.grantRake
  · exact h

theorem postsFor_grantOther (r : Side) (s : State) : PostsFor (.rake r) s (grantOther r s) := by
  unfold grantOther
  split
  · exact (PostsFor.refl _ s).grantIfFree
  · exact .refl _ s

end Moves

/-- A grant pass and a shedding check withdraw no command (R79 to R81). -/
theorem commandsFor_settleDrives {a : Actuator} (h : commandsFor a s ≠ []) :
    commandsFor a (settleDrives s) ≠ [] := by
  have hshed : commandsFor a (shedCheck s) ≠ [] :=
    foldl_keeps (P := fun u => commandsFor a u ≠ []) (fun u d hu => by
      split
      · cases d with
        | pump p => exact (PostsFor.refl _ u).shedPump.waits hu
        | rake r => exact (PostsFor.refl _ u).shedRake.waits hu
      · exact hu) h _
  have hurgent : ∀ (r : Side) (u : State), commandsFor a u ≠ [] → commandsFor a (grantUrgent r u) ≠ [] := by
    intro r u hu
    unfold grantUrgent preempt
    split_ifs
    · split
      · exact (PostsFor.refl _ u).grantIfFree.waits hu
      · next p _ =>
        have hshed := (PostsFor.refl (.pump p) u).shedPump.waits hu
        exact (PostsFor.refl _ (setPreempt r true (shedPump p u))).grantIfFree.waits hshed
    · exact (PostsFor.refl _ u).grantIfFree.waits hu
    · exact hu
  have h1 := foldl_keeps (P := fun u => commandsFor a u ≠ []) (fun u r hu => hurgent r u hu) hshed sides
  have h2 := foldl_keeps (P := fun u => commandsFor a u ≠ [])
    (fun u p hu => (PostsFor.refl (.pump p) u).grantCandidate.waits hu) h1 (eachSide grantUrgent (shedCheck s)).seq.duty
  exact foldl_keeps (P := fun u => commandsFor a u ≠ []) (fun u r hu => (postsFor_grantOther r u).waits hu) h2 sides

/-! ### A rake that is not moved (R79 to R81) -/

/-- A rake's record and the commands that wait for it stand. -/
structure RakeStands (r : Side) (s t : State) : Prop where
  rake : t.rake r = s.rake r
  commands : commandsFor (.rake r) t = commandsFor (.rake r) s

theorem RakeStands.trans {r : Side} (h : RakeStands r s t) (h' : RakeStands r t u) : RakeStands r s u :=
  ⟨h'.rake.trans h.rake, h'.commands.trans h.commands⟩

theorem RakeStands.refl (r : Side) (s : State) : RakeStands r s s := ⟨rfl, rfl⟩

/-- Work on another drive. -/
theorem RakeStands.of_postsFor {r : Side} {d : Actuator} (h : PostsFor d s t) (hd : .rake r ≠ d)
    (hr : t.rake r = s.rake r) : RakeStands r s t := ⟨hr, h.others _ hd⟩

section Rake
variable {r : Side}

theorem rakeStands_shedPump (p : Pump) (s : State) : RakeStands r s (shedPump p s) :=
  .of_postsFor (PostsFor.refl _ s).shedPump (by simp) (by unfold shedPump; split <;> simp)

theorem rakeStands_shedDrive (hs : (s.rake r).state.granted = false) (d : Drive) :
    RakeStands r s (shedDrive d s) := by
  cases d with
  | pump p => exact rakeStands_shedPump p s
  | rake y =>
    by_cases hy : r = y
    · subst hy
      simp only [shedDrive, shedRake, hs]
      exact .refl r s
    · exact .of_postsFor (PostsFor.refl _ s).shedRake (by simpa using hy) (rake_shedRake_other hy s)

/-- The shedding check leaves a rake without a grant (R80). -/
theorem rakeStands_shedCheck (hs : (s.rake r).state.granted = false) : RakeStands r s (shedCheck s) :=
  foldl_keeps (P := RakeStands r s) (fun u d hu => by
    split
    · exact hu.trans (rakeStands_shedDrive (by rw [hu.rake]; exact hs) d)
    · exact hu) (.refl r s) _

theorem rakeStands_grantIfFree {y : Side} (hy : r ≠ y) (s : State) : RakeStands r s (grantIfFree y s) :=
  .of_postsFor (PostsFor.refl _ s).grantIfFree (by simpa using hy)
    (by unfold grantIfFree; split <;> simp [hy])

theorem waiting_eq_false (hs : (s.rake r).state ≠ .waitSlot) (b : Bool) : s.waiting b r = false := by
  simp [State.waiting, hs]

theorem rakeStands_grantUrgent (hs : (s.rake r).state ≠ .waitSlot) (y : Side) :
    RakeStands r s (grantUrgent y s) := by
  by_cases hy : r = y
  · subst hy
    rw [grantUrgent, waiting_eq_false hs]
    exact .refl r s
  · have hpreempt : RakeStands r s (preempt y s) := by
      unfold preempt
      split
      · split
        · exact .refl r s
        · exact (rakeStands_shedPump _ s).trans ⟨by simp, rfl⟩
      · exact .refl r s
    unfold grantUrgent
    split
    · exact hpreempt.trans (rakeStands_grantIfFree hy _)
    · exact .refl r s

theorem rakeStands_grantCandidate (p : Pump) (s : State) : RakeStands r s (grantCandidate p s) :=
  .of_postsFor (PostsFor.refl _ s).grantCandidate (by simp) (by unfold grantCandidate; split_ifs <;> simp)

theorem rakeStands_grantOther (hs : (s.rake r).state ≠ .waitSlot) (y : Side) :
    RakeStands r s (grantOther y s) := by
  by_cases hy : r = y
  · subst hy
    rw [grantOther, waiting_eq_false hs]
    exact .refl r s
  · unfold grantOther
    split
    · exact rakeStands_grantIfFree hy s
    · exact .refl r s

/-- The grant pass leaves a rake that does not wait (R79). -/
theorem rakeStands_grantPass (hs : (s.rake r).state ≠ .waitSlot) : RakeStands r s (grantPass s) := by
  have hkeep : ∀ u, RakeStands r s u → (u.rake r).state ≠ .waitSlot := fun u hu => by rw [hu.rake]; exact hs
  have h1 := foldl_keeps (P := RakeStands r s)
    (fun u y hu => hu.trans (rakeStands_grantUrgent (hkeep u hu) y)) (.refl r s) sides
  have h2 := foldl_keeps (P := RakeStands r s)
    (fun u p hu => hu.trans (rakeStands_grantCandidate p u)) h1 (eachSide grantUrgent s).seq.duty
  exact foldl_keeps (P := RakeStands r s)
    (fun u y hu => hu.trans (rakeStands_grantOther (hkeep u hu) y)) h2 sides

/-- A rake that neither waits nor holds a grant is left by the end of an event. -/
theorem rakeStands_settleDrives (hw : (s.rake r).state ≠ .waitSlot) (hg : (s.rake r).state.granted = false) :
    RakeStands r s (settleDrives s) := by
  have hshed := rakeStands_shedCheck hg
  exact hshed.trans (rakeStands_grantPass (by rw [hshed.rake]; exact hw))

end Rake

/-- The end of an event leaves the drives and the commands that wait for them. -/
theorem commandsFor_finishAlarms {a : Actuator} (ha : a ≠ .annunciator) (s : State) :
    commandsFor a (finishAlarms s) = commandsFor a s := by
  have hjudge : commandsFor a (judgeAnnunciator s) = commandsFor a s := by
    unfold judgeAnnunciator
    split
    · rfl
    · exact filter_postCommand (Ne.symm ha) ..
  rw [← hjudge, finishAlarms, commandsFor, actuator_flushNotices, commandsFor]

/-- The end of an event withdraws no command. -/
theorem waits_finishAlarms {a : Actuator} (h : commandsFor a s ≠ []) : commandsFor a (finishAlarms s) ≠ [] := by
  by_cases ha : a = .annunciator
  · subst ha
    have hjudge : commandsFor .annunciator (judgeAnnunciator s) ≠ [] := by
      unfold judgeAnnunciator
      split
      · exact h
      · exact (postsFor_postCommand ..).stays h
    rwa [finishAlarms, commandsFor, actuator_flushNotices]
  · rwa [commandsFor_finishAlarms ha]

end Sys2Proof.Proofs
end

section
/-! PROOF. What a grant pass keeps of the records, of the classes and of the notices; the lap list's outcomes. -/

namespace Sys2Proof.Proofs

open Sys2Proof.Machine Sys2Proof.Safety Sys2Proof.Laws

variable {s t u : State}

/-! ### What is kept outside the grants (R79 to R81) -/

theorem alarms_of_outsideGrants (h : outsideGrants t = outsideGrants s) : t.alarms = s.alarms := by
  simpa [outsideGrants] using congrArg State.alarms h

theorem tx_of_outsideGrants (h : outsideGrants t = outsideGrants s) :
    unmarkedTx t.loop.tx = unmarkedTx s.loop.tx := by
  simpa [outsideGrants] using congrArg (fun u : State => u.loop.tx) h

theorem notice_of_outsideGrants (h : outsideGrants t = outsideGrants s) :
    t.transit.notice = s.transit.notice := by
  simpa [outsideGrants] using congrArg (fun u : State => u.transit.notice) h

theorem outbox_of_outsideGrants (h : outsideGrants t = outsideGrants s) :
    t.transit.outbox = s.transit.outbox := by
  simpa [outsideGrants] using congrArg (fun u : State => u.transit.outbox) h

theorem count_of_outsideGrants (h : outsideGrants t = outsideGrants s) :
    t.transit.count = s.transit.count := by
  simpa [outsideGrants] using congrArg (fun u : State => u.transit.count) h

/-- What the grants keep of a pump's record: latch, sources and uncommanded count among it. -/
theorem keptByGrants_of_outsideGrants (h : outsideGrants t = outsideGrants s) (p : Pump) :
    keptByGrants (t.pump p) = keptByGrants (s.pump p) := by
  have hpumps : t.seq.pumps.map keptByGrants = s.seq.pumps.map keptByGrants := by
    simpa [outsideGrants] using congrArg (fun u : State => u.seq.pumps) h
  have hget : ∀ x : Six PumpRec, (x.map keptByGrants).get p = keptByGrants (x.get p) := by
    intro x; cases p <;> rfl
  rw [State.pump, State.pump, ← hget, hpumps, hget]

/-- What the grants keep of a rake's record: latch, cause and the mark of a command lost among it. -/
theorem rakeKeptByGrants_of_outsideGrants (h : outsideGrants t = outsideGrants s) (r : Side) :
    rakeKeptByGrants (t.rake r) = rakeKeptByGrants (s.rake r) := by
  have hrakes := congrArg (fun u : State => u.screens.rakes) h
  cases r <;> simp_all [outsideGrants, State.rake, Two.get]

theorem sources_settleDrives (p : Pump) (s : State) :
    ((settleDrives s).pump p).sources = (s.pump p).sources := by
  have h := congrArg PumpRec.sources (keptByGrants_of_outsideGrants (outsideGrants_settleDrives s) p)
  exact h

/-- A judgement of a pump leaves its sources (R115 to R117). -/
theorem sources_judgePump (p : Pump) (s : State) :
    ((judgePump p s).pump p).sources = (s.pump p).sources := by
  have hmove := congrArg PumpRec.sources (keptByGrants_of_outsideGrants
    (outsideGrants_judgeMove p (statePumpConditions p (judgeLatch p s))) p)
  have hlatch : ((judgeLatch p s).pump p).sources = (s.pump p).sources := by
    unfold judgeLatch
    split
    · rw [State.pump_setPump_same]
    · rfl
  have hcond : ((statePumpConditions p (judgeLatch p s)).pump p) = (judgeLatch p s).pump p := by
    simp only [State.pump, seq_of_outsideAlarms (outsideAlarms_statePumpConditions p (judgeLatch p s))]
  exact hmove.trans ((congrArg PumpRec.sources hcond).trans hlatch)

/-! ### The room of the NOTICE class (R27) -/

/-- The room of the NOTICE class turns on its members and on the frame being sent. -/
theorem noticeFull_congr (hn : t.transit.notice = s.transit.notice)
    (htx : unmarkedTx t.loop.tx = unmarkedTx s.loop.tx) : t.noticeFull = s.noticeFull := by
  rw [State.noticeFull, State.noticeFull, hn, ← sendingNotice_unmarkedTx t.loop.tx, htx, sendingNotice_unmarkedTx]

theorem metBy_congr (hn : t.transit.notice = s.transit.notice)
    (htx : unmarkedTx t.loop.tx = unmarkedTx s.loop.tx) (o : OwnFrame) : metBy t o = metBy s o := by
  rw [metBy, metBy, noticeFull_congr hn htx, hn]

theorem lostAfterOne_congr (hn : t.transit.notice = s.transit.notice)
    (htx : unmarkedTx t.loop.tx = unmarkedTx s.loop.tx)
    (hc : t.transit.count.noticesLost = s.transit.count.noticesLost) : lostAfterOne t = lostAfterOne s := by
  rw [lostAfterOne, lostAfterOne, noticeFull_congr hn htx, hc]

/-- The annunciator's judgement leaves the counters and, but for its mark, the frame being sent. -/
theorem room_judgeAnnunciator (s : State) :
    unmarkedTx (judgeAnnunciator s).loop.tx = unmarkedTx s.loop.tx ∧
      (judgeAnnunciator s).transit.count = s.transit.count := by
  unfold judgeAnnunciator postAnnunciate postCommand
  split
  · exact ⟨rfl, rfl⟩
  · split
    · exact ⟨rfl, rfl⟩
    · exact ⟨unmarkedTx_supersede _ _, rfl⟩

/-- An event that posts no notice leaves the counters at its end. -/
theorem count_finishAlarms_none (h : s.transit.outbox = Outbox.empty) :
    (finishAlarms s).transit.count = s.transit.count := by
  rw [finishAlarms, flushNotices_empty _ ((outbox_judgeAnnunciator s).trans h)]
  exact (room_judgeAnnunciator s).2

/-- An event that posts one notice loses one where the class is full (R27). -/
theorem count_finishAlarms_one {o : OwnFrame} (h : s.transit.outbox.ordered = [o]) :
    (finishAlarms s).transit.count = { s.transit.count with noticesLost := lostAfterOne s } := by
  obtain ⟨htx, hcount⟩ := room_judgeAnnunciator s
  rw [finishAlarms, flushNotices_one (o := o) (by rw [outbox_judgeAnnunciator, h])]
  dsimp only
  rw [hcount, lostAfterOne_congr (metBy_judgeAnnunciator s).2 htx (by rw [hcount])]

/-! ### The counters and the lap list outside the drives -/

theorem count_of_outsideDrives (h : outsideDrives t = outsideDrives s) :
    { t.transit.count with noticesLost := 0 } = { s.transit.count with noticesLost := 0 } := by
  simpa [outsideDrives] using congrArg (fun u : State => u.transit.count) h

/-- The counters of lap outcomes and of stray frames agree (R34, R39). -/
structure SameLapCounters (c d : TransitCounters) : Prop where
  strayOwn : c.strayOwn = d.strayOwn
  retries : c.retries = d.retries
  undelivered : c.undelivered = d.undelivered
  unconfirmed : c.unconfirmed = d.unconfirmed
  givenUp : c.givenUp = d.givenUp

theorem lapCounters_of_outsideDrives (h : outsideDrives t = outsideDrives s) :
    SameLapCounters t.transit.count s.transit.count := by
  have hcount := count_of_outsideDrives h
  generalize t.transit.count = c at hcount ⊢
  generalize s.transit.count = d at hcount ⊢
  cases c
  cases d
  simp_all only [TransitCounters.mk.injEq]
  constructor <;> simp_all

theorem lap_of_outsideDrives (h : outsideDrives t = outsideDrives s) :
    t.transit.lap.map unmarked = s.transit.lap.map unmarked := by
  simpa [outsideDrives] using congrArg (fun u : State => u.transit.lap) h

theorem gate_of_outsideDrives (h : outsideDrives t = outsideDrives s) : t.transit.gate = s.transit.gate := by
  simpa [outsideDrives] using congrArg (fun u : State => u.transit.gate) h

theorem outsideDrives_countTransit (h : outsideDrives t = outsideDrives s) {f : TransitCounters → TransitCounters}
    (hf : ∀ c n, f { c with noticesLost := n } = { f c with noticesLost := n }) :
    outsideDrives (t.countTransit f) = outsideDrives (s.countTransit f) := by
  have hcount : ∀ u : State, outsideDrives (u.countTransit f) = { outsideDrives u with
      transit := { (outsideDrives u).transit with count := f (outsideDrives u).transit.count } } := by
    intro u
    have hu : { f u.transit.count with noticesLost := 0 } = f { u.transit.count with noticesLost := 0 } :=
      (hf _ 0).symm
    simp only [outsideDrives, State.countTransit]
    rw [hu]
  rw [hcount, hcount, h]

/-! ### Outcomes of lap entries (R34, R35, R161) -/

/-- What a lap entry lost or not taken adds to the counters (R34, R161). -/
def failedCount (e : LapEntry) (s : State) (c : TransitCounters) : TransitCounters :=
  match e.own.ref with
  | .response _ _ => { c with unconfirmed := inc16 c.unconfirmed }
  | .notice type _ =>
    if 2 ≤ e.own.retry then { c with undelivered := inc16 c.undelivered }
    else if type = .summary then c
    else { c with retries := inc16 c.retries }
  | .command a _ _ =>
    if e.superseded then c
    else if 2 ≤ e.own.retry then { c with givenUp := inc16 c.givenUp }
    else if (s.gateEntry a).isNone then c
    else { c with retries := inc16 c.retries }

@[simp] theorem outsideDrives_clearConfirmed (a : Actuator) (s : State) :
    outsideDrives (clearConfirmed a s) = outsideDrives s := by
  cases a
  · exact outsideDrives_setPump _ _ _ rfl
  · exact outsideDrives_setRake _ _ _ rfl
  · rfl

theorem outsideDrives_finalLoss (a : Actuator) (s : State) : outsideDrives (finalLoss a s) =
    outsideDrives (s.countTransit fun c => { c with givenUp := inc16 c.givenUp }) := by
  cases a <;> simp [finalLoss]

/-- A lap entry lost or not taken touches the drives, the classes of its kind and its counter. -/
theorem outsideDrives_failedOutcome (e : LapEntry) (s : State) :
    outsideDrives (failedOutcome e s) = outsideDrives (s.countTransit (failedCount e s)) := by
  have hretry : ∀ u : State, outsideDrives u = outsideDrives s → outsideDrives (countRetry u) =
      outsideDrives (s.countTransit fun c => { c with retries := inc16 c.retries }) :=
    fun u hu => outsideDrives_countTransit hu fun _ _ => rfl
  unfold failedOutcome failedCount
  cases href : e.own.ref with
  | response tag b => rfl
  | command a code arg =>
    unfold failedCommand
    dsimp only
    split_ifs
    · rfl
    · exact outsideDrives_finalLoss a s
    · rfl
    · exact hretry _ (by simp)
  | notice type n =>
    dsimp only
    obtain ⟨h, hf⟩ | ⟨h, hs, hf⟩ | ⟨h, hs, hf⟩ := failedNotice_cases type e s
    · simp only [hf, h, if_true]
    · rw [hf]
      simp only [hs, show ¬ 2 ≤ e.own.retry by omega, if_false, if_true]
      rfl
    · simp only [hf, hs, show ¬ 2 ≤ e.own.retry by omega, if_false]
      exact hretry _ (by simp)

/-- A lap entry taken touches the drives and the alarm unit alone (R34). -/
theorem outsideDrives_takenOutcome (e : LapEntry) (s : State) :
    outsideDrives (takenOutcome e s) = outsideDrives s := by
  unfold takenOutcome
  split
  · simp
  · simp
  · unfold annunciateTaken
    split <;> rfl
  · rfl
  · rfl

/-- The state with another lap list. -/
def withLap (l : List LapEntry) (s : State) : State := { s with transit := { s.transit with lap := l } }

theorem resolveOldest_lost {e : LapEntry} {rest : List LapEntry} (h : s.transit.lap = e :: rest) :
    resolveOldest .lost s = failedOutcome e (withLap rest s) := by
  simp only [resolveOldest, h]
  rfl

theorem resolveOldest_mark {e : LapEntry} {rest : List LapEntry} (h : s.transit.lap = e :: rest) (b : Bool) :
    resolveOldest (if b then .taken else .notTaken) s =
      if b then takenOutcome e (withLap rest s) else failedOutcome e (withLap rest s) := by
  cases b <;> simp only [resolveOldest, h] <;> rfl

/-- No entry expires where no timeout has passed (R33). -/
theorem expirePassed_eq {rest : List LapEntry} (hlap : t.transit.lap.map unmarked = rest.map unmarked)
    (htables : t.tables = s.tables) (hchip : t.chip = s.chip)
    (hfresh : ∀ e ∈ rest, s.nowMs - e.sentAt < s.lapTimeout) : expirePassed t = t := by
  have hnone : t.oldestPassed = false := by
    unfold State.oldestPassed
    cases hl : t.transit.lap with
    | nil => rfl
    | cons e l =>
      rw [hl] at hlap
      cases rest with
      | nil => simp at hlap
      | cons e' rest =>
        have he : (unmarked e).sentAt = (unmarked e').sentAt := by rw [(List.cons.inj hlap).1]
        change e.sentAt = e'.sentAt at he
        have h := hfresh e' List.mem_cons_self
        have hnow : t.nowMs = s.nowMs := by unfold State.nowMs; rw [hchip]
        have hlimit : t.lapTimeout = s.lapTimeout := by unfold State.lapTimeout State.station; rw [htables]
        dsimp only
        rw [hnow, hlimit, he]
        exact decide_eq_false (by omega)
  unfold expirePassed
  cases t.transit.lap.length with
  | zero => rfl
  | succ n => rw [expireSome, hnone]; rfl

end Sys2Proof.Proofs
end

section
/-! PROOF. A lap timeout, by the class of the frame lost (R33 to R35). -/

namespace Sys2Proof.Proofs

open Sys2Proof.Machine Sys2Proof.Safety Sys2Proof.Laws

variable {s t u : State}

/-! ### The end of the event -/

/-- The end of an event at which no activation waits: the drives settle, then the alarms (log 11). -/
def ended (s : State) : State := finishAlarms (settleDrives s)

theorem outsideDrives_ended (s : State) : outsideDrives (ended s) = outsideDrives s := by
  rw [ended, outsideDrives_finishAlarms, outsideDrives_settleDrives]

theorem seq_ended (s : State) : (ended s).seq = (settleDrives s).seq :=
  (annunciatorJudged_finishAlarms _).seq

theorem screens_ended (s : State) : (ended s).screens = (settleDrives s).screens :=
  (annunciatorJudged_finishAlarms _).screens

theorem pump_ended (s : State) (p : Pump) : (ended s).pump p = (settleDrives s).pump p := by
  rw [State.pump, seq_ended, State.pump]

theorem rake_ended (s : State) (r : Side) : (ended s).rake r = (settleDrives s).rake r := by
  rw [State.rake, screens_ended, State.rake]

theorem entries_ended (s : State) : (ended s).alarms.entries = s.alarms.entries := by
  rw [ended, entries_finishAlarms, alarms_of_outsideGrants (outsideGrants_settleDrives s)]

/-- The lap entry resolved, the end of the event follows, no other entry's timeout having passed. -/
theorem finishDrives_expirePassed {rest : List LapEntry} {f : TransitCounters → TransitCounters}
    (hq : s.awaits .quiet = false) (hfresh : ∀ e ∈ rest, s.nowMs - e.sentAt < s.lapTimeout)
    (hframe : outsideDrives u = outsideDrives ((withLap rest s).countTransit f)) :
    finishDrives (expirePassed u) = ended u := by
  have htables : u.tables = s.tables := (tables_of_outsideDrives hframe).trans rfl
  have hchip : u.chip = s.chip := (chip_of_outsideDrives hframe).trans rfl
  rw [expirePassed_eq (lap_of_outsideDrives hframe) htables hchip hfresh]
  exact finishDrives_eq u (by rw [awaits_of_outsideDrives hframe]; exact hq)

theorem exec_lapTimeout {e : LapEntry} {rest : List LapEntry} (hon : s.on = true) (hq : s.awaits .quiet = false)
    (hlap : s.transit.lap = e :: rest) (hfresh : ∀ e' ∈ rest, s.nowMs - e'.sentAt < s.lapTimeout) :
    exec .lapTimeout s = .next (ended (failedOutcome e (withLap rest s))) := by
  have hexec : exec .lapTimeout s = .next (finishDrives (expirePassed (failedOutcome e (withLap rest s)))) := by
    simp [exec, execLapTimeout, hon, lapTimedOut, hlap, resolveOldest_lost hlap]
  rw [hexec, finishDrives_expirePassed hq hfresh (outsideDrives_failedOutcome e _)]

/-! ### A notice lost (R34, R161) -/

/-- An event that posts one notice alone has it meet the NOTICE class at its end (R27). -/
theorem notice_ended_one {o : OwnFrame} (hout : u.transit.outbox.ordered = [o])
    (hn : u.transit.notice = s.transit.notice) (htx : u.loop = s.loop)
    (hlost : u.transit.count.noticesLost = s.transit.count.noticesLost) :
    (ended u).transit.notice = metBy s o ∧ (ended u).transit.count.noticesLost = lostAfterOne s := by
  have hsettle := outsideGrants_settleDrives u
  have hout' : (settleDrives u).transit.outbox.ordered = [o] := by rw [outbox_of_outsideGrants hsettle, hout]
  have hn' := (notice_of_outsideGrants hsettle).trans hn
  have htx' : unmarkedTx (settleDrives u).loop.tx = unmarkedTx s.loop.tx := by
    rw [tx_of_outsideGrants hsettle, htx]
  constructor
  · rw [ended, notice_finishAlarms_one hout', metBy_congr hn' htx']
  · rw [ended, count_finishAlarms_one hout', ← lostAfterOne_congr hn' htx'
      (by rw [count_of_outsideGrants hsettle, hlost])]

/-- An event that posts no notice leaves the NOTICE class and the counters at its end. -/
theorem notice_ended_none (hout : u.transit.outbox = Outbox.empty) :
    (ended u).transit.notice = u.transit.notice ∧ (ended u).transit.count = u.transit.count := by
  have hsettle := outsideGrants_settleDrives u
  have hout' := (outbox_of_outsideGrants hsettle).trans hout
  rw [ended, notice_finishAlarms_none hout', count_finishAlarms_none hout']
  exact ⟨notice_of_outsideGrants hsettle, count_of_outsideGrants hsettle⟩

theorem ordered_retried (o : OwnFrame) : ({ Outbox.empty with retried := [o] } : Outbox).ordered = [o] := by
  have hnone : alarmNumbers.flatMap
      (fun n => (([] : List (Nat × OwnFrame)).filter fun x => decide (x.1 = n)).map (·.2)) = [] := by simp
  simp only [Outbox.ordered, Outbox.empty, hnone]
  rfl

/-- A notice posted again after a failed lap (R25, R34). -/
def reposted (e : LapEntry) (s : State) : OwnFrame := { e.own with dest := s.gateway, retry := e.own.retry + 1 }

theorem repostNotice_lost (e : LapEntry) (rest : List LapEntry) (h : s.transit.outbox = Outbox.empty) :
    (ended (repostNotice e (withLap rest s))).transit.notice = metBy s (reposted e s) ∧
      (ended (repostNotice e (withLap rest s))).transit.count.noticesLost = lostAfterOne s := by
  refine notice_ended_one ?_ rfl rfl rfl
  have hadd : (repostNotice e (withLap rest s)).transit.outbox =
      { Outbox.empty with retried := [reposted e s] } := by
    have hempty : s.transit.outbox.retried = [] := by rw [h]; rfl
    rw [← h]
    exact congrArg (fun l => { s.transit.outbox with retried := l ++ [reposted e s] }) hempty
  rw [hadd, ordered_retried]

/-! ### A command lost for the last time (R35, R113, R130, R132) -/

/-- COMMAND_LOST becomes present at the last loss of an installed pump's command (R113). -/
theorem commandLost_finalLoss {p : Pump} (hinstalled : s.installed p = true) :
    ((finalLoss (.pump p) s).pump p).sources.commandLost = true := by
  unfold finalLoss pumpCommandLost
  dsimp only
  split
  · rw [sources_judgePump, State.setSources, State.pump_setPump_same]
  · next h =>
    exact Bool.eq_true_of_not_eq_false fun hl => h ⟨hinstalled, hl⟩

/-- A rake as it enters JAMMED (R130). -/
theorem rake_enterJammed (r : Side) (c : JamCause) (s : State) : (enterJammed r c s).rake r = { s.rake r with
    state := .jammed, latch := some c, travel := none, jam := none, reverse := none, command := .stop
    confirmed := false } := by
  have hcond : ∀ u : State, (stateRakeJammed r u).rake r = u.rake r := fun u => by
    rw [State.rake, screens_of_outsideAlarms (outsideAlarms_stateRakeJammed r u), State.rake]
  rw [enterJammed, hcond, rake_postRake, if_pos rfl, State.rake_setRake_same]

theorem posted_enterJammed (r : Side) (c : JamCause) (s : State) : Posted (enterJammed r c s) (.rake r) .stop := by
  have hclass : ∀ u : State, (stateRakeJammed r u).transit.actuator = u.transit.actuator ∧
      (stateRakeJammed r u).transit.gate = u.transit.gate := fun u => by
    have h := outsideAlarms_stateRakeJammed r u
    exact ⟨by simpa [outsideAlarms] using congrArg (fun u : State => u.transit.actuator) h,
      by simpa [outsideAlarms] using congrArg (fun u : State => u.transit.gate) h⟩
  obtain ⟨hactuator, hgate⟩ := hclass (postRake r .stop (s.setRake r { s.rake r with
    state := .jammed, latch := some c, travel := none, jam := none, reverse := none }))
  exact posted_congr (by rw [commandsFor, commandsFor]; exact congrArg _ hactuator) hgate (posted_postRake r .stop _)

/-- RAKE_JAMMED is present once the rake is JAMMED (R133). -/
theorem condition_enterJammed (h : s.alarms.entries.length = 73) (r : Side) (c : JamCause) :
    ((enterJammed r c s).alarm (jammedEntry r)).condition = true := by
  have hlength : ∀ v, (postRake r .stop (s.setRake r v)).alarms.entries.length = 73 := fun v => by
    rw [alarms_of_outsideGrants (outsideGrants_postRake r .stop (s.setRake r v))]
    exact h
  have hlatch : ∀ v : RakeRec, v.latch.isSome = true →
      ((postRake r .stop (s.setRake r v)).rake r).latch.isSome = true := fun v hv => by
    rw [rake_postRake, if_pos rfl, State.rake_setRake_same]
    exact hv
  unfold enterJammed stateRakeJammed
  rw [condition_stateCondition, hlatch _ rfl]
  rw [Listed, hlength]
  cases r <;> simp [jammedEntry]

/-- The last loss of a command of a rake in RAKING or REVERSING, at the end of its event (R130, R132). -/
theorem rake_lost_granted {r : Side} (hg : (s.rake r).state.granted = true) :
    RakeStands r (enterJammed r .commandLost (s.countTransit fun c => { c with givenUp := inc16 c.givenUp }))
      (settleDrives (finalLoss (.rake r) s)) := by
  have hloss : finalLoss (.rake r) s =
      enterJammed r .commandLost (s.countTransit fun c => { c with givenUp := inc16 c.givenUp }) :=
    if_pos hg
  rw [hloss]
  have hstate := congrArg RakeRec.state (rake_enterJammed r .commandLost
    (s.countTransit fun c => { c with givenUp := inc16 c.givenUp }))
  exact rakeStands_settleDrives (by rw [hstate]; simp) (by rw [hstate]; rfl)

/-- The last loss of a command of a rake without a grant marks it (R132). -/
theorem rake_lost_ungranted {r : Side} (hg : (s.rake r).state.granted = false) :
    (finalLoss (.rake r) s).rake r = { s.rake r with lost := true } := by
  have hloss : finalLoss (.rake r) s = (s.countTransit fun c => { c with givenUp := inc16 c.givenUp }).setRake r
      { s.rake r with lost := true } := if_neg (Bool.eq_false_iff.mp hg)
  rw [hloss, State.rake_setRake_same]

/-- What the last loss of a rake's command comes to at the end of its event (R35, R130, R132). -/
theorem ended_finalLoss_rake (r : Side) (s : State) :
    let t := ended (finalLoss (.rake r) s)
    ((s.rake r).state = .raking ∨ (s.rake r).state = .reversing →
      (t.rake r).state = .jammed ∧ (t.rake r).latch = some .commandLost ∧
      (t.rake r).travel = none ∧ (t.rake r).reverse = none ∧ (t.rake r).jam = none ∧
      Posted t (.rake r) .stop ∧
      (s.alarms.entries.length = 73 → (t.alarm (jammedEntry r)).condition = true)) ∧
    ((s.rake r).state ≠ .raking → (s.rake r).state ≠ .reversing →
      (t.rake r).lost = true ∧ (t.rake r).latch = (s.rake r).latch ∧
      ((s.rake r).state ≠ .waitSlot → t.rake r = { s.rake r with lost := true })) := by
  intro t
  have hrake : t.rake r = (settleDrives (finalLoss (.rake r) s)).rake r := rake_ended _ r
  refine ⟨fun hstate => ?_, fun h1 h2 => ?_⟩
  · have hg : (s.rake r).state.granted = true := by rcases hstate with h | h <;> rw [h] <;> rfl
    have hloss : finalLoss (.rake r) s =
        enterJammed r .commandLost (s.countTransit fun c => { c with givenUp := inc16 c.givenUp }) := if_pos hg
    have hstands := rake_lost_granted hg
    have hcommands := (commandsFor_finishAlarms (a := .rake r) (by simp) _).trans hstands.commands
    rw [hrake, hstands.rake, rake_enterJammed]
    refine ⟨rfl, rfl, rfl, rfl, rfl, posted_congr hcommands ?_ (posted_enterJammed r _ _), fun h73 => ?_⟩
    · rw [← hloss]
      exact gate_of_outsideDrives (outsideDrives_ended _)
    · have halarm : t.alarm (jammedEntry r) = (finalLoss (.rake r) s).alarm (jammedEntry r) := by
        simp only [State.alarm, t, entries_ended]
      rw [halarm, hloss]
      have h73' : (s.countTransit fun c => { c with givenUp := inc16 c.givenUp }).alarms.entries.length = 73 := h73
      exact condition_enterJammed h73' r .commandLost
  · have hg : (s.rake r).state.granted = false := by
      cases h : (s.rake r).state <;> simp_all [RakeState.granted]
    have hlost := rake_lost_ungranted hg
    have hkept := rakeKeptByGrants_of_outsideGrants (outsideGrants_settleDrives (finalLoss (.rake r) s)) r
    rw [hlost] at hkept
    rw [hrake]
    refine ⟨?_, ?_, fun hw => ?_⟩
    · have h := congrArg RakeRec.lost hkept
      exact h
    · have h := congrArg RakeRec.latch hkept
      exact h
    · rw [(rakeStands_settleDrives (by rw [hlost]; exact hw) (by rw [hlost]; exact hg)).rake, hlost]

/-! ### The timeout (R33) -/

/-- A command posted again after a failed lap waits, its gate entry standing (R34). -/
theorem waits_failedCommand {e : LapEntry} {a : Actuator} {code : CommandCode} {arg : Byte}
    (hgate : (s.gateEntry a).isSome = true) :
    commandsFor a (countRetry (postCommand a code arg (some (e.own.retry + 1)) (clearConfirmed a s))) ≠ [] :=
  commandsFor_postCommand code arg _ (by cases a <;> exact hgate)

/-- Settles O13, by the class of the frame lost. -/
theorem lapTimeoutActsByClass : Obligations.LapTimeoutActsByClass := by
  intro e rest s hon hsettled hlap hfresh
  refine ⟨_, exec_lapTimeout hon hsettled.quiet hlap hfresh, ?_⟩
  have hframe := (outsideDrives_ended _).trans (outsideDrives_failedOutcome e (withLap rest s))
  have hcount := lapCounters_of_outsideDrives hframe
  change SameLapCounters _ (failedCount e (withLap rest s) s.transit.count) at hcount
  refine ⟨lap_of_outsideDrives hframe, (queue_of_outsideDrives hframe).trans rfl,
    (response_of_outsideDrives hframe).trans rfl, ?_⟩
  cases href : e.own.ref with
  | response tag b =>
    simp only [failedCount, href] at hcount
    exact hcount.unconfirmed
  | notice type n =>
    have hfailed : failedOutcome e (withLap rest s) = failedNotice type e (withLap rest s) := by
      rw [failedOutcome, href]
    simp only [failedCount, href] at hcount
    obtain ⟨h, -⟩ | ⟨h, hsummary, hf⟩ | ⟨h, hsummary, hf⟩ := failedNotice_cases type e (withLap rest s)
    · simp only [h, if_true] at hcount ⊢
      exact hcount.undelivered
    · simp only [show ¬ 2 ≤ e.own.retry by omega, hsummary, if_false, if_true]
      rw [hfailed, hf]
      exact notice_ended_none (u := withLap rest s) hsettled.outbox
    · simp only [show ¬ 2 ≤ e.own.retry by omega, hsummary, if_false] at hcount ⊢
      rw [hfailed, hf] at hcount ⊢
      exact ⟨hcount.retries, repostNotice_lost e rest hsettled.outbox⟩
  | command a code arg =>
    have hfailed : failedOutcome e (withLap rest s) = failedCommand e a code arg (withLap rest s) := by
      rw [failedOutcome, href]
    simp only [failedCount, href] at hcount
    dsimp only
    split_ifs with hsuperseded hretry hgate
    · simp only [hsuperseded, if_true] at hcount
      exact ⟨hcount.retries, hcount.givenUp⟩
    · simp only [hsuperseded, hretry, if_true] at hcount
      refine ⟨hcount.givenUp, ?_⟩
      have hloss : failedCommand e a code arg (withLap rest s) = finalLoss a (withLap rest s) := by
        simp [failedCommand, hsuperseded, hretry]
      rw [hfailed, hloss]
      refine ⟨fun p ha hinstalled => ?_, fun r ha => ?_⟩
      · subst ha
        rw [pump_ended, sources_settleDrives]
        exact commandLost_finalLoss hinstalled
      · subst ha
        obtain ⟨hgranted, hungranted⟩ := ended_finalLoss_rake r (withLap rest s)
        refine ⟨fun hstate => ?_, hungranted⟩
        obtain ⟨h1, h2, h3, h4, h5, h6, hcondition⟩ := hgranted hstate
        refine ⟨h1, h2, h3, h4, h5, h6, fun hshapes => ?_⟩
        cases r <;> exact hcondition hshapes.alarms
    · simp only [hsuperseded, hretry, show (withLap rest s).gateEntry a = s.gateEntry a from rfl,
        Option.isNone_eq_false_iff.mpr hgate, if_false] at hcount
      refine ⟨hcount.retries, ?_⟩
      rw [hfailed, failedCommand, if_neg hsuperseded, if_neg hretry,
        if_neg (by simpa [Option.isSome_iff_ne_none] using (show ((withLap rest s).gateEntry a).isSome from hgate))]
      exact commandsFor_ne_nil.mp (waits_finishAlarms (commandsFor_settleDrives (waits_failedCommand hgate)))
    · simp only [hsuperseded, hretry, show (withLap rest s).gateEntry a = s.gateEntry a from rfl,
        show (s.gateEntry a).isNone = true by simpa using hgate, if_false, if_true] at hcount
      exact hcount.retries

end Sys2Proof.Proofs
end

section
/-! PROOF. A returned own frame, and the lap entries it resolves (R32, R34, R35). -/

namespace Sys2Proof.Proofs

open Sys2Proof.Machine Sys2Proof.Safety Sys2Proof.Laws

variable {s t u : State} {failed failed' : List LapEntry} {l l' : List LapEntry}

/-! ### Lap entries resolved one after another -/

/-- A count after the entries of a kind among those failed are added to it. -/
def amongst (c : LapEntry → Bool) (failed : List LapEntry) (n : Nat) : Nat := inc16^[(failed.filter c).length] n

theorem amongst_append (c : LapEntry → Bool) (n : Nat) :
    amongst c (failed ++ failed') n = amongst c failed' (amongst c failed n) := by
  rw [amongst, List.filter_append, List.length_append, Nat.add_comm, Function.iterate_add_apply]
  rfl

/-- A notice among the entries failed that is counted undelivered (R34). -/
def isUndelivered (e : LapEntry) : Bool := isNoticeEntry e && decide (2 ≤ e.own.retry)

/-- A notice among the entries failed that is posted again (R34, R161). -/
def isReposted (e : LapEntry) : Bool := isNoticeEntry e && !isSummaryEntry e && decide (e.own.retry < 2)

/-- The lap list is left with `l`, the entries `failed` resolved lost or not taken and others taken: the drives and
the classes of their kinds are touched, and the counters by what failed. -/
structure Resolved (failed l : List LapEntry) (s t : State) : Prop where
  frame : outsideDrives t = outsideDrives ((withLap l s).countTransit fun _ => t.transit.count)
  strayOwn : t.transit.count.strayOwn = s.transit.count.strayOwn
  unconfirmed : t.transit.count.unconfirmed = amongst isResponseEntry failed s.transit.count.unconfirmed
  undelivered : t.transit.count.undelivered = amongst isUndelivered failed s.transit.count.undelivered
  commandless : (∀ x ∈ failed, isResponseEntry x = true ∨ isNoticeEntry x = true) →
    t.transit.count.givenUp = s.transit.count.givenUp ∧
      t.transit.count.retries = amongst isReposted failed s.transit.count.retries

/-- The state outside the drives with another lap list and other counters. -/
theorem outsideDrives_withLap (l : List LapEntry) (c : TransitCounters) (s : State) :
    outsideDrives ((withLap l s).countTransit fun _ => c) = { outsideDrives s with
      transit := { (outsideDrives s).transit with
        lap := l.map unmarked
        count := { c with noticesLost := 0 } } } := rfl

/-- The counters of a frame may be read off the later state. -/
theorem outsideDrives_ownCount {f : TransitCounters → TransitCounters}
    (h : outsideDrives t = outsideDrives ((withLap l s).countTransit f)) :
    outsideDrives t = outsideDrives ((withLap l s).countTransit fun _ => t.transit.count) := by
  have hcount : { t.transit.count with noticesLost := 0 } =
      { f s.transit.count with noticesLost := 0 } := count_of_outsideDrives h
  have hf : (withLap l s).countTransit f = (withLap l s).countTransit fun _ => f s.transit.count := rfl
  rw [h, hf, outsideDrives_withLap, outsideDrives_withLap, hcount]

theorem Resolved.trans (h : Resolved failed l s t) (h' : Resolved failed' l' t u) :
    Resolved (failed ++ failed') l' s u where
  frame := by
    rw [h'.frame, outsideDrives_withLap, outsideDrives_withLap, h.frame, outsideDrives_withLap]
  strayOwn := h'.strayOwn.trans h.strayOwn
  unconfirmed := by rw [h'.unconfirmed, h.unconfirmed, amongst_append]
  undelivered := by rw [h'.undelivered, h.undelivered, amongst_append]
  commandless hx := by
    obtain ⟨hgiven, hretries⟩ := h.commandless fun x hm => hx x (List.mem_append_left _ hm)
    obtain ⟨hgiven', hretries'⟩ := h'.commandless fun x hm => hx x (List.mem_append_right _ hm)
    exact ⟨hgiven'.trans hgiven, by rw [hretries', hretries, amongst_append]⟩

theorem Resolved.lap (h : Resolved failed l s t) : t.transit.lap.map unmarked = l.map unmarked :=
  lap_of_outsideDrives h.frame

/-- A lap list is read without the superseded marks of its entries. -/
theorem Resolved.congr (h : Resolved failed l s t) (hl : l.map unmarked = l'.map unmarked) :
    Resolved failed l' s t :=
  { h with frame := by rw [h.frame, outsideDrives_withLap, outsideDrives_withLap, hl] }

theorem amongst_one (c : LapEntry → Bool) (e : LapEntry) (n : Nat) :
    amongst c [e] n = if c e then inc16 n else n := by
  cases hc : c e <;> simp [amongst, hc]

/-- What a response or a notice failed adds to the counters, by its kind (R34, R161). -/
theorem failedCount_commandless {e : LapEntry} (h : isResponseEntry e = true ∨ isNoticeEntry e = true) (s : State)
    (c : TransitCounters) : failedCount e s c = { c with
      unconfirmed := if isResponseEntry e then inc16 c.unconfirmed else c.unconfirmed
      undelivered := if isUndelivered e then inc16 c.undelivered else c.undelivered
      retries := if isReposted e then inc16 c.retries else c.retries } := by
  unfold failedCount isUndelivered isReposted isResponseEntry isNoticeEntry isSummaryEntry
  cases href : e.own.ref with
  | response tag b => rfl
  | command a code arg => simp [isResponseEntry, isNoticeEntry, href] at h
  | notice type n =>
    by_cases hretry : 2 ≤ e.own.retry
    · simp [hretry, show ¬ e.own.retry < 2 by omega]
    · cases type <;> simp [hretry, show e.own.retry < 2 by omega]

/-- What a command failed leaves of the counters (R34, R35). -/
theorem failedCount_command {e : LapEntry} (hr : isResponseEntry e = false) (hn : isNoticeEntry e = false) (s : State)
    (c : TransitCounters) : (failedCount e s c).strayOwn = c.strayOwn ∧
      (failedCount e s c).unconfirmed = c.unconfirmed ∧ (failedCount e s c).undelivered = c.undelivered := by
  unfold failedCount
  cases href : e.own.ref with
  | response tag b => simp [isResponseEntry, href] at hr
  | notice type n => simp [isNoticeEntry, href] at hn
  | command a code arg => dsimp only; split_ifs <;> exact ⟨rfl, rfl, rfl⟩

/-- One entry resolved lost or not taken (R34). -/
theorem resolved_failed (e : LapEntry) (l : List LapEntry) (s : State) :
    Resolved [e] l s (failedOutcome e (withLap l s)) := by
  have hframe := outsideDrives_failedOutcome e (withLap l s)
  have hcount := lapCounters_of_outsideDrives hframe
  change SameLapCounters _ (failedCount e (withLap l s) s.transit.count) at hcount
  by_cases hkind : isResponseEntry e = true ∨ isNoticeEntry e = true
  · rw [failedCount_commandless hkind] at hcount
    refine ⟨outsideDrives_ownCount hframe, hcount.strayOwn, ?_, ?_, fun _ => ⟨hcount.givenUp, ?_⟩⟩
    · rw [amongst_one, hcount.unconfirmed]
    · rw [amongst_one, hcount.undelivered]
    · rw [amongst_one, hcount.retries]
  · obtain ⟨hr, hn⟩ : isResponseEntry e = false ∧ isNoticeEntry e = false := by simpa using hkind
    obtain ⟨hstray, hunconfirmed, hundelivered⟩ := failedCount_command hr hn (withLap l s) s.transit.count
    refine ⟨outsideDrives_ownCount hframe, hcount.strayOwn.trans hstray, ?_, ?_,
      fun hnone => absurd (hnone e List.mem_cons_self) hkind⟩
    · rw [amongst_one, hr, hcount.unconfirmed, hunconfirmed]
      rfl
    · rw [amongst_one, isUndelivered, hn, hcount.undelivered, hundelivered]
      rfl

/-- What an entry counts turns on its own frame, not on its superseded mark. -/
theorem Resolved.of_own {e e' : LapEntry} (hown : e'.own = e.own) (h : Resolved [e'] l s t) : Resolved [e] l s t := by
  have hcounts : ∀ n, amongst isResponseEntry [e'] n = amongst isResponseEntry [e] n ∧
      amongst isUndelivered [e'] n = amongst isUndelivered [e] n ∧
      amongst isReposted [e'] n = amongst isReposted [e] n := by
    intro n
    simp only [amongst_one, isResponseEntry, isUndelivered, isReposted, isNoticeEntry, isSummaryEntry, hown]
    exact ⟨rfl, rfl, rfl⟩
  refine ⟨h.frame, h.strayOwn, ?_, ?_, fun hkind => ?_⟩
  · obtain ⟨hresponse, -, -⟩ := hcounts s.transit.count.unconfirmed
    rw [h.unconfirmed, hresponse]
  · obtain ⟨-, hnotice, -⟩ := hcounts s.transit.count.undelivered
    rw [h.undelivered, hnotice]
  · have hkind' : ∀ x ∈ [e'], isResponseEntry x = true ∨ isNoticeEntry x = true := by
      simpa [isResponseEntry, isNoticeEntry, hown] using hkind
    obtain ⟨-, -, hreposted⟩ := hcounts s.transit.count.retries
    rw [← hreposted]
    exact h.commandless hkind'

/-- One entry resolved taken (R34). -/
theorem resolved_taken (e : LapEntry) (l : List LapEntry) (s : State) :
    Resolved [] l s (takenOutcome e (withLap l s)) := by
  have hframe := outsideDrives_takenOutcome e (withLap l s)
  have hcount := lapCounters_of_outsideDrives hframe
  exact ⟨outsideDrives_ownCount (f := id) hframe, hcount.strayOwn, hcount.unconfirmed, hcount.undelivered,
    fun _ => ⟨hcount.givenUp, hcount.retries⟩⟩

theorem unmarked_own {e e' : LapEntry} (h : unmarked e' = unmarked e) : e'.own = e.own :=
  show (unmarked e').own = (unmarked e).own by rw [h]

/-- The oldest entry of a lap list read without its marks. -/
theorem exists_oldest {e : LapEntry} (h : s.transit.lap.map unmarked = (e :: l).map unmarked) :
    ∃ e' l', s.transit.lap = e' :: l' ∧ e'.own = e.own ∧ l'.map unmarked = l.map unmarked := by
  cases hlap : s.transit.lap with
  | nil => simp [hlap] at h
  | cons e' l' =>
    rw [hlap, List.map_cons, List.map_cons] at h
    obtain ⟨he, hl⟩ := List.cons.inj h
    exact ⟨e', l', rfl, unmarked_own he, hl⟩

/-- Older entries are resolved lost (R32). -/
theorem resolved_lost (older : List LapEntry) (h : s.transit.lap.map unmarked = (older ++ l).map unmarked) :
    Resolved older l s (resolveLost older.length s) := by
  induction older generalizing s with
  | nil =>
    refine ⟨?_, rfl, rfl, rfl, fun _ => ⟨rfl, rfl⟩⟩
    rw [outsideDrives_withLap]
    simp only [List.nil_append] at h
    simp only [List.length_nil, resolveLost, outsideDrives, h]
  | cons e older ih =>
    obtain ⟨e', l', hlap, hown, hl⟩ := exists_oldest h
    have hone : Resolved [e] l' s (resolveOldest .lost s) := by
      rw [resolveOldest_lost hlap]
      exact (resolved_failed e' l' s).of_own hown
    exact hone.trans (ih (hone.lap.trans hl))

/-! ### The entry that the returned frame matches (R32) -/

/-- The entries that a return fails: those older than the match, and the match where it is not taken (R32). -/
def failedBy (takenMark : Bool) (older : List LapEntry) (e : LapEntry) : List LapEntry :=
  if takenMark then older else older ++ [e]

/-- What a taken command clears (R107, R113, R132). -/
structure LossCleared (e : LapEntry) (t : State) : Prop where
  pump : ∀ p code arg, e.own.ref = .command (.pump p) code arg → (t.pump p).sources.commandLost = false
  rake : ∀ r code arg, e.own.ref = .command (.rake r) code arg → (t.rake r).lost = false

theorem lossCleared_takenOutcome {e e' : LapEntry} (hown : e'.own = e.own) (s : State) :
    LossCleared e (takenOutcome e' s) := by
  constructor
  · intro p code arg href
    have hcond : ∀ u : State, (statePumpConditions p u).pump p = u.pump p := fun u => by
      rw [State.pump, seq_of_outsideAlarms (outsideAlarms_statePumpConditions p u), State.pump]
    rw [takenOutcome, hown, href]
    dsimp only
    rw [pumpCommandTaken, hcond, State.pump_setPump_same]
  · intro r code arg href
    rw [takenOutcome, hown, href]
    dsimp only
    rw [rakeCommandTaken, State.rake_setRake_same]

theorem LossCleared.ended {e : LapEntry} (h : LossCleared e t) : LossCleared e (ended t) := by
  constructor
  · intro p code arg href
    rw [pump_ended, sources_settleDrives]
    exact h.pump p code arg href
  · intro r code arg href
    have hkept := congrArg RakeRec.lost (rakeKeptByGrants_of_outsideGrants (outsideGrants_settleDrives t) r)
    rw [rake_ended]
    exact Eq.trans hkept (h.rake r code arg href)

/-- The older entries and the match resolved (R32). -/
theorem resolved_match {older : List LapEntry} {e : LapEntry} (h : s.transit.lap = older ++ e :: l) (b : Bool) :
    let u := resolveOldest (if b then .taken else .notTaken) (resolveLost older.length s)
    Resolved (failedBy b older e) l s u ∧ (b = true → LossCleared e u) := by
  intro u
  have holder := resolved_lost (l := e :: l) older (by rw [h])
  obtain ⟨e', l', hlap, hown, hl⟩ := exists_oldest holder.lap
  have hu : u = if b then takenOutcome e' (withLap l' (resolveLost older.length s))
      else failedOutcome e' (withLap l' (resolveLost older.length s)) := resolveOldest_mark hlap b
  rw [hu]
  cases b
  · exact ⟨(holder.trans ((resolved_failed e' l' _).of_own hown)).congr hl, by simp⟩
  · refine ⟨?_, fun _ => lossCleared_takenOutcome hown _⟩
    have hresolved := (holder.trans (resolved_taken e' l' _)).congr hl
    rwa [List.append_nil] at hresolved

/-- The returned frame's match is the oldest entry of its sequence number. -/
theorem findIdx?_match {older rest : List LapEntry} {e : LapEntry} {n : Byte}
    (holder : ∀ x ∈ older, x.frame.seq ≠ n) (he : e.frame.seq = n) :
    (older ++ e :: rest).findIdx? (fun e => decide (e.frame.seq = n)) = some older.length := by
  induction older with
  | nil => simp [List.findIdx?_cons, he]
  | cons x older ih =>
    have hx := holder x List.mem_cons_self
    simp [List.findIdx?_cons, hx, ih fun y hy => holder y (List.mem_cons_of_mem x hy)]

theorem exec_ownReturned (hon : s.on = true) {f : Frame} (hgood : f.good = true) (hsrc : f.src = s.chip.ownAddress) :
    exec (.frameReceived f) s = .next (finishDrives (ownReturned f (arrived f s))) := by
  rw [exec_frameReceived hon hgood, classify, if_pos (by simpa using hsrc)]

theorem awaits_arrived (f : Frame) (s : State) (m : Method) : (arrived f s).awaits m = s.awaits m := by
  rw [arrived_eq]
  rfl

theorem fresh_arrived {f : Frame} {rest : List LapEntry} (h : ∀ e ∈ rest, s.nowMs - e.sentAt < s.lapTimeout) :
    ∀ e ∈ rest, (arrived f s).nowMs - e.sentAt < (arrived f s).lapTimeout := by
  rw [arrived_eq]
  exact h

/-- A returned own frame that matches an entry resolves it and the older ones (R32). -/
theorem exec_matched (hon : s.on = true) {f : Frame} (hgood : f.good = true) (hsrc : f.src = s.chip.ownAddress)
    (hq : s.awaits .quiet = false) {older rest : List LapEntry} {e : LapEntry}
    (hlap : s.transit.lap = older ++ e :: rest) (holder : ∀ x ∈ older, x.frame.seq ≠ f.seq)
    (he : e.frame.seq = f.seq) (hfresh : ∀ e' ∈ rest, s.nowMs - e'.sentAt < s.lapTimeout) :
    ∃ u, exec (.frameReceived f) s = .next (ended u) ∧
      Resolved (failedBy f.takenMark older e) rest (arrived f s) u ∧ (f.takenMark = true → LossCleared e u) := by
  have hlap' : (arrived f s).transit.lap = older ++ e :: rest := by rw [transit_arrived, hlap]
  obtain ⟨hresolved, hcleared⟩ := resolved_match hlap' f.takenMark
  refine ⟨_, ?_, hresolved, hcleared⟩
  rw [exec_ownReturned hon hgood hsrc, ownReturned, hlap', findIdx?_match holder he]
  dsimp only
  rw [finishDrives_expirePassed (by rw [awaits_arrived, hq]) (fresh_arrived hfresh) hresolved.frame]

/-- Settles O12, by the entries resolved one after another. -/
theorem returnedFrameResolvesItsLapEntry : Obligations.ReturnedFrameResolvesItsLapEntry := by
  intro f s hon hgood hsrc hsettled
  refine ⟨fun hnone => ?_, fun older e rest hlap holder he hfresh => ?_, fun e rest hlap he hmark => ?_⟩
  · have hstray : ownReturned f (arrived f s) =
        (arrived f s).countTransit fun c => { c with strayOwn := inc16 c.strayOwn } := by
      rw [ownReturned, List.findIdx?_eq_none_iff.mpr (by simpa using hnone)]
    have hquiet : (ownReturned f (arrived f s)).awaits .quiet = false := by
      rw [hstray]
      exact (awaits_arrived f s .quiet).trans hsettled.quiet
    have hframe := outsideDrives_finishDrives _ hquiet
    refine ⟨_, exec_ownReturned hon hgood hsrc, ?_, ?_, ?_⟩
    · rw [(lapCounters_of_outsideDrives hframe).strayOwn, hstray, State.countTransit, transit_arrived]
    · rw [queue_of_outsideDrives hframe, hstray, State.countTransit, transit_arrived]
    · rw [lap_of_outsideDrives hframe, hstray, State.countTransit, transit_arrived]
  · obtain ⟨u, hexec, hresolved, hcleared⟩ :=
      exec_matched hon hgood hsrc hsettled.quiet hlap holder he hfresh
    have hframe := (outsideDrives_ended u).trans hresolved.frame
    have hcount := lapCounters_of_outsideDrives (outsideDrives_ended u)
    refine ⟨_, hexec, lap_of_outsideDrives hframe, ?_, ?_, ?_, ⟨?_, ?_, fun hkinds => ?_⟩, fun htaken => ?_⟩
    · rw [queue_of_outsideDrives hframe, State.countTransit, withLap, transit_arrived]
    · rw [response_of_outsideDrives hframe, State.countTransit, withLap, transit_arrived]
    · rw [hcount.strayOwn, hresolved.strayOwn, transit_arrived]
    · rw [hcount.unconfirmed, hresolved.unconfirmed, transit_arrived]
      rfl
    · rw [hcount.undelivered, hresolved.undelivered, transit_arrived]
      rfl
    · obtain ⟨hgiven, hretries⟩ := hresolved.commandless hkinds
      rw [hcount.givenUp, hgiven, hcount.retries, hretries, transit_arrived]
      exact ⟨rfl, rfl⟩
    · exact ⟨(hcleared htaken).ended.pump, (hcleared htaken).ended.rake⟩
  · have hlap' : (arrived f s).transit.lap = e :: rest := by rw [transit_arrived, hlap]
    have hmatch : (arrived f s).transit.lap.findIdx? (fun e => decide (e.frame.seq = f.seq)) = some 0 := by
      rw [hlap']
      exact findIdx?_match (older := []) (by simp) he
    have hsame : ownReturned f (arrived f s) = lapTimedOut (arrived f s) := by
      rw [ownReturned, hmatch]
      simp only [resolveLost]
      rw [resolveOldest_mark hlap', hmark, lapTimedOut, resolveOldest_lost hlap', hlap']
      rfl
    have hon' : (arrived f s).on = true := by rw [arrived_eq]; exact hon
    rw [exec_ownReturned hon hgood hsrc, hsame]
    simp [exec, execLapTimeout, hon']

end Sys2Proof.Proofs
end

section
/-! PROOF. A SAMPLE frame: its pairs taken in order, then stripped or forwarded (R19, R41, R45). -/

namespace Sys2Proof.Proofs

open Sys2Proof.Machine Sys2Proof.Safety Sys2Proof.Laws

variable {s t u : State}

/-! ### Pairs taken (R41 to R45, R55) -/

/-- The state with other points. -/
def withPoints (x : Points) (s : State) : State := { s with points := x }

theorem outsideDrives_withPoints (x : Points) (s : State) :
    outsideDrives (withPoints x s) = { outsideDrives s with points := x } := rfl

/-- What a pair does to the points turns on the tables alone. -/
theorem pairTaken_congr (h : t.tables = s.tables) : pairTaken t = pairTaken s := by
  funext node x pair
  have htap : t.tapOf node pair.1 = s.tapOf node pair.1 := by rw [State.tapOf, State.taps, h]; rfl
  have hdef : ∀ n, t.pointDef n = s.pointDef n := fun n => by rw [State.pointDef, State.pointDefs, h]; rfl
  simp only [pairTaken, htap, hdef]

/-- A pair taken touches its point's record and, by the change told, the drives and the alarms (R45, R55). -/
theorem outsideDrives_takePair (node : Byte) (s : State) (pair : Byte × Int) :
    outsideDrives (takePair node s pair) = outsideDrives (withPoints (pairTaken s node s.points pair) s) := by
  unfold takePair pairTaken
  cases htap : s.tapOf node pair.1 with
  | none => rfl
  | some tap =>
    dsimp only
    unfold takeRaw
    cases hdef : s.pointDef tap.target with
    | none => rfl
    | some d =>
      dsimp only
      cases hsample : tap.sample d pair.2 with
      | none => rfl
      | some vg =>
        simp only [outsideDrives_statePointFailed, outsideDrives_changePoint]
        rfl

/-- The pairs are taken in payload order (R19). -/
theorem outsideDrives_takePairs (node : Byte) (pairs : List (Byte × Int)) (s : State) :
    outsideDrives (pairs.foldl (takePair node) s) =
      outsideDrives (withPoints (pairs.foldl (pairTaken s node) s.points) s) := by
  induction pairs generalizing s with
  | nil => rfl
  | cons pair pairs ih =>
    have hone := outsideDrives_takePair node s pair
    have htables : (takePair node s pair).tables = s.tables := (tables_of_outsideDrives hone).trans rfl
    have hpoints : (takePair node s pair).points = pairTaken s node s.points pair := points_of_outsideDrives hone
    rw [List.foldl_cons, List.foldl_cons, ih, pairTaken_congr htables, hpoints, outsideDrives_withPoints, hone]
    rfl

/-! ### The frame taken (R19) -/

theorem sampleLengthOk_iff (n : Nat) : sampleLengthOk n = true ↔ n % 3 = 0 ∧ 3 ≤ n ∧ n ≤ 24 := by
  simp [sampleLengthOk, and_assoc]

theorem length_samplePairs (l : List Byte) : (samplePairs l).length = l.length / 3 := by
  induction l using samplePairs.induct with
  | case1 c hi lo rest ih => simp only [samplePairs, List.length_cons, ih]; omega
  | case2 l h =>
    have hshort : l.length < 3 := by
      match l, h with
      | [], _ => simp
      | [_], _ => simp
      | [_, _], _ => simp
      | a :: b :: c :: rest, h => exact absurd rfl (h a b c rest)
    rw [samplePairs.eq_2 l h, List.length_nil, Nat.div_eq_of_lt hshort]

theorem allSunk_iff (s : State) (node : Byte) (pairs : List (Byte × Int)) : s.allSunk node pairs = true ↔
    ∀ x ∈ pairs, (s.tapOf node x.1).map (·.forwarding) = some .sink := by
  simp [State.allSunk]

/-- The loop port, the points, the queue and the counters put back to those of `s`. -/
def putBack (s t : State) : State := { t with
  loop := s.loop
  points := s.points
  transit := { t.transit with queue := s.transit.queue, count := s.transit.count } }

theorem putBack_forward (f : Frame) (u : State) : putBack s (forward f u) = putBack s u := by
  have htransit := transit_forward f u
  rw [forward_eq]
  simp only [putBack, htransit]

theorem outsideDrives_putBack (h : outsideDrives t = outsideDrives (withPoints x u))
    (hu : u = { s with loop := u.loop }) : outsideDrives (putBack s t) = outsideDrives s := by
  have hput : ∀ v : State, outsideDrives (putBack s v) = { outsideDrives v with
      loop := { s.loop with tx := unmarkedTx s.loop.tx }
      points := s.points
      transit := { (outsideDrives v).transit with
        queue := s.transit.queue, count := { s.transit.count with noticesLost := 0 } } } := fun _ => rfl
  rw [hput, h, outsideDrives_withPoints, hu]
  rfl

/-- What a SAMPLE frame of whole pairs comes to: the pairs taken, the end of the event, and the frame forwarded
unless every tap is a SINK (R19). -/
theorem takeSample_eq {f : Frame} (h : sampleLengthOk f.payload.length = true) (s : State) :
    takeSample f s = if ∀ x ∈ samplePairs f.payload, (s.tapOf f.src x.1).map (·.forwarding) = some .sink
      then finishDrives ((samplePairs f.payload).foldl (takePair f.src) s)
      else forward f (finishDrives ((samplePairs f.payload).foldl (takePair f.src) s)) := by
  rw [takeSample, if_pos h]
  simp only [allSunk_iff]

theorem exec_sample {f : Frame} (h : Foreign s f) (hkind : f.kind = some .sample) :
    exec (.frameReceived f) s = .next (takeSample f (arrived f s)) := by
  rw [exec_foreign h, classifyKind, hkind]

/-- The pairs of a SAMPLE frame taken, and the end of its event (R19, R45, R55). -/
def sampled (f : Frame) (s : State) : State := ended ((samplePairs f.payload).foldl (takePair f.src) (arrived f s))

theorem outsideDrives_sampled (f : Frame) (s : State) : outsideDrives (sampled f s) =
    outsideDrives (withPoints ((samplePairs f.payload).foldl (pairTaken s f.src) s.points) (arrived f s)) := by
  have htables : (arrived f s).tables = s.tables := by rw [arrived_eq]
  have hpoints : (arrived f s).points = s.points := by rw [arrived_eq]
  rw [sampled, outsideDrives_ended, outsideDrives_takePairs, pairTaken_congr htables, hpoints]

theorem tapOf_arrived (f : Frame) (s : State) (node channel : Byte) :
    (arrived f s).tapOf node channel = s.tapOf node channel := by
  rw [arrived_eq]
  rfl

/-- A SAMPLE frame of whole pairs received (R19). -/
theorem exec_wholePairs {f : Frame} (h : Foreign s f) (hq : s.awaits .quiet = false) (hkind : f.kind = some .sample)
    (hlength : sampleLengthOk f.payload.length = true) : exec (.frameReceived f) s = .next
      (if ∀ x ∈ samplePairs f.payload, (s.tapOf f.src x.1).map (·.forwarding) = some .sink then sampled f s
      else forward f (sampled f s)) := by
  have hframe := outsideDrives_takePairs f.src (samplePairs f.payload) (arrived f s)
  have hquiet : ((samplePairs f.payload).foldl (takePair f.src) (arrived f s)).awaits .quiet = false := by
    rw [awaits_of_outsideDrives hframe]
    exact (awaits_arrived f s .quiet).trans hq
  rw [exec_sample h hkind, takeSample_eq hlength, finishDrives_eq _ hquiet]
  simp only [tapOf_arrived]
  rfl

/-- A SAMPLE frame of whole pairs leaves the points by its pairs and the queue by its taps, and no other block than
the drives and the alarms touched. -/
theorem wholePairs_taken {f : Frame} (h : Foreign s f) (hq : s.awaits .quiet = false) (hkind : f.kind = some .sample)
    (hlength : sampleLengthOk f.payload.length = true) : ∃ t, exec (.frameReceived f) s = .next t ∧
      t.points = (samplePairs f.payload).foldl (pairTaken s f.src) s.points ∧
      t.transit.queue =
        (if ∀ x ∈ samplePairs f.payload, (s.tapOf f.src x.1).map (·.forwarding) = some .sink then s.transit.queue
        else queueAfter f s.transit.queue) ∧
      t.alarms = (sampled f s).alarms ∧ outsideDrives (putBack s t) = outsideDrives s := by
  refine ⟨_, exec_wholePairs h hq hkind hlength, ?_⟩
  have hframe := outsideDrives_sampled f s
  have hpoints : (sampled f s).points = (samplePairs f.payload).foldl (pairTaken s f.src) s.points := by
    rw [points_of_outsideDrives hframe, withPoints]
  have hqueue : (sampled f s).transit.queue = s.transit.queue := by
    rw [queue_of_outsideDrives hframe, withPoints, transit_arrived]
  have hback := outsideDrives_putBack hframe (arrived_eq f s)
  generalize sampled f s = u at hpoints hqueue hback ⊢
  split
  · exact ⟨hpoints, hqueue, rfl, hback⟩
  · refine ⟨?_, ?_, ?_, ?_⟩
    · rw [forward_eq]
      exact hpoints
    · rw [transit_forward, hqueue]
    · rw [forward_eq]
    · rw [putBack_forward]
      exact hback

/-! ### One pair (R41, R45, R51) -/

/-- An accepted sample clears its point's POINT_FAILED (R51). -/
theorem condition_takeRaw {tap : Tap} {d : PointDef} {v : Int} {g : Quality} {raw : Int}
    (hdef : s.pointDef tap.target = some d) (hsample : tap.sample d raw = some (v, g))
    (htarget : tap.target < s.points.recs.length) (h73 : s.alarms.entries.length = 73) (h48 : tap.target < 48) :
    ((takeRaw tap raw s).alarm (26 + tap.target)).condition = false := by
  have hframe := outsideDrives_changePoint tap.target ((s.pointRec tap.target).accept v g) s
  have hage : ((changePoint tap.target ((s.pointRec tap.target).accept v g) s).pointRec tap.target).age = 0 := by
    rw [State.pointRec, points_of_outsideDrives hframe]
    have hset := State.pointRec_setPoint (s := s) tap.target tap.target ((s.pointRec tap.target).accept v g) htarget
    rw [State.pointRec, if_pos rfl] at hset
    rw [hset, PointRec.accept]
    split <;> rfl
  have hdef' : (changePoint tap.target ((s.pointRec tap.target).accept v g) s).pointDef tap.target = some d := by
    rw [State.pointDef, State.pointDefs, tables_of_outsideDrives hframe]
    exact hdef
  have hlength : (changePoint tap.target ((s.pointRec tap.target).accept v g) s).alarms.entries.length = 73 := by
    rw [(worked_changePoint (.refl s) _ _).entries, h73]
  unfold takeRaw
  rw [hdef]
  dsimp only
  rw [hsample]
  dsimp only
  unfold statePointFailed
  rw [condition_stateCondition ⟨by omega, by omega⟩, hdef']
  simp [hage]

/-- A definition is one of those of its table, under its own number (R52). -/
theorem target_of_pointDef (h : Shapes s) {n : Nat} {d : PointDef} (hdef : s.pointDef n = some d) : n < 48 := by
  have hnumber : d.number = n := by simpa using List.find?_some hdef
  exact hnumber ▸ h.numbers.2 d (List.mem_of_find?_eq_some hdef)

/-- An accepted pair replaces its target's record (R45). -/
theorem pairTaken_accepted {node channel : Byte} {raw : Int} {tap : Tap} {d : PointDef} {v : Int} {g : Quality}
    (htap : s.tapOf node channel = some tap) (hdef : s.pointDef tap.target = some d)
    (hsample : tap.sample d raw = some (v, g)) : pairTaken s node s.points (channel, raw) =
      (s.setPoint tap.target ((s.pointRec tap.target).accept v g)).points := by
  unfold pairTaken
  rw [htap]
  dsimp only
  rw [hdef]
  dsimp only
  rw [hsample]
  rfl

/-- What one pair leaves of the points, by its tap and the definition of its target (R41 to R45). -/
theorem pairTaken_cases (h : Shapes s) {node channel : Byte} {raw : Int} {x : Points}
    (hx : x = pairTaken s node s.points (channel, raw)) :
    (s.tapOf node channel = none → x = s.points) ∧
    ∀ tap, s.tapOf node channel = some tap →
      (s.pointDef tap.target = none → x = { s.points with toUndefined := inc16 s.points.toUndefined }) ∧
      ∀ d, s.pointDef tap.target = some d →
        (tap.sample d raw = none → x = { s.points with rejected := inc16 s.points.rejected }) ∧
        (∀ v g, tap.sample d raw = some (v, g) →
          x.recs.getD tap.target PointRec.start = (s.pointRec tap.target).accept v g) ∧
        ∀ n, n ≠ tap.target → x.recs.getD n PointRec.start = s.pointRec n := by
  refine ⟨fun htap => by simp [hx, pairTaken, htap], fun tap htap => ⟨fun hdef => by
    simp [hx, pairTaken, htap, hdef], fun d hdef => ⟨fun hsample => by
    simp [hx, pairTaken, htap, hdef, hsample], fun v g hsample => ?_, fun n hn => ?_⟩⟩⟩
  · have hset := State.pointRec_setPoint (s := s) tap.target tap.target ((s.pointRec tap.target).accept v g)
      (by rw [h.points]; exact target_of_pointDef h hdef)
    rw [if_pos rfl] at hset
    rw [hx, pairTaken_accepted htap hdef hsample]
    exact hset
  · cases hsample : tap.sample d raw with
    | none => simp [hx, pairTaken, htap, hdef, hsample, State.pointRec]
    | some vg =>
      have hset := State.pointRec_setPoint (s := s) tap.target n ((s.pointRec tap.target).accept vg.1 vg.2)
        (by rw [h.points]; exact target_of_pointDef h hdef)
      rw [if_neg hn] at hset
      rw [hx, pairTaken_accepted htap hdef hsample]
      exact hset

/-- An accepted sample on a record, field by field (R45). -/
theorem accept_eq (r : PointRec) (v : Int) (g : Quality) : r.accept v g = { r with
    value := if r.forced then r.value else v
    quality := if r.forced then r.quality else g
    accepted := some (v, g)
    age := 0 } := by
  unfold PointRec.accept
  split <;> rfl

/-- A value outside the window of a tap that rejects gives no sample (R42). -/
theorem sample_rejected {tap : Tap} (h : tap.policy = .reject) {raw : Int}
    (hout : raw < tap.windowMin ∨ tap.windowMax < raw) (d : PointDef) : tap.sample d raw = none := by
  have hwindow : ¬ (tap.windowMin ≤ raw ∧ raw ≤ tap.windowMax) := by omega
  simp [Tap.sample, Tap.window, hwindow, h]

/-- The point of an accepted pair no longer counts as failed (R51). -/
theorem condition_sampled {f : Frame} {channel hi lo : Byte} (hpayload : f.payload = [channel, hi, lo])
    (h : Shapes s) {tap : Tap} {d : PointDef} {v : Int} {g : Quality} (htap : s.tapOf f.src channel = some tap)
    (hdef : s.pointDef tap.target = some d) (hsample : tap.sample d (join16 hi lo).toInt = some (v, g)) :
    ((sampled f s).alarm (26 + tap.target)).condition = false := by
  have h48 := target_of_pointDef h hdef
  have hkept : (arrived f s).tables = s.tables ∧ (arrived f s).points = s.points ∧
      (arrived f s).alarms = s.alarms := by rw [arrived_eq]; exact ⟨rfl, rfl, rfl⟩
  obtain ⟨htables, hpoints, halarms⟩ := hkept
  have hdef' : (arrived f s).pointDef tap.target = some d := by
    rw [State.pointDef, State.pointDefs, htables]
    exact hdef
  have htaken : (samplePairs f.payload).foldl (takePair f.src) (arrived f s) =
      takeRaw tap (join16 hi lo).toInt (arrived f s) := by
    rw [hpayload]
    simp only [samplePairs, List.foldl_cons, List.foldl_nil]
    rw [takePair, tapOf_arrived, htap]
  rw [State.alarm, sampled, entries_ended, htaken]
  exact condition_takeRaw hdef' hsample (by rw [hpoints, h.points]; exact h48) (by rw [halarms, h.alarms]) h48

/-- Settles O17, by the points after the pairs and the frame of what is told. -/
theorem sampleIsTakenAndStrippedOrForwarded : Obligations.SampleIsTakenAndStrippedOrForwarded := by
  refine ⟨fun f s hf hkind hlength => ?_, fun f s hf hsettled hshapes hkind h1 h2 h3 => ?_,
    fun f channel hi lo s hf hsettled hshapes hkind hpayload => ?_⟩
  · have hbad : sampleLengthOk f.payload.length = false := by
      rw [Bool.eq_false_iff, Ne, sampleLengthOk_iff]
      exact hlength
    have hforward : takeSample f (arrived f s) = forward f ((arrived f s).countTransit fun c =>
        { c with contentErrors := inc16 c.contentErrors }) := by
      rw [takeSample, hbad]
      rfl
    obtain ⟨htransit, -, hrest⟩ := forwarded_arrived _ hforward
    exact ⟨_, exec_sample hf hkind, htransit, hrest⟩
  · obtain ⟨t, hexec, hpoints, hqueue, -, hframe⟩ :=
      wholePairs_taken hf hsettled.quiet hkind ((sampleLengthOk_iff _).mpr ⟨h1, h2, h3⟩)
    exact ⟨t, hexec, hpoints, length_samplePairs _, hqueue, hframe⟩
  · intro raw
    have hthree : sampleLengthOk f.payload.length = true := by rw [hpayload, sampleLengthOk_iff]; simp
    obtain ⟨t, hexec, hpoints, hqueue, halarms, hframe⟩ := wholePairs_taken hf hsettled.quiet hkind hthree
    have hone : samplePairs f.payload = [(channel, raw)] := by rw [hpayload]; rfl
    rw [hone] at hpoints hqueue
    simp only [List.mem_singleton, forall_eq, List.foldl_cons, List.foldl_nil] at hpoints hqueue
    obtain ⟨hnone, hsome⟩ := pairTaken_cases hshapes hpoints
    refine ⟨t, hexec, hnone, fun tap htap => ?_, hqueue, hframe⟩
    obtain ⟨hundefined, hdefined⟩ := hsome tap htap
    refine ⟨hundefined, fun d hdef => ?_⟩
    obtain ⟨hrejected, haccepted, hothers⟩ := hdefined d hdef
    refine ⟨fun hpolicy hout => hrejected (sample_rejected hpolicy hout d), fun v g hsample => ⟨?_, ?_⟩, hothers⟩
    · rw [← accept_eq]
      exact haccepted v g hsample
    · rw [State.alarm, halarms]
      exact condition_sampled hpayload hshapes htap hdef hsample

end Sys2Proof.Proofs
end

section
/-! PROOF. What the blocks that take a balance record leave of the spill monitor and of its notices (R59). -/

namespace Sys2Proof.Proofs

open Sys2Proof.Machine Sys2Proof.Safety Sys2Proof.Laws

variable {s t u : State}

/-! ### Outside the drives' blocks and the alarm list -/

/-- The state with everything erased that the pump sequencer, pump protection, the screen controller and the alarm unit
may change; of the notices of the event, the ALARM notices. -/
def outsideBlocks (s : State) : State := { s with
  loop := { s.loop with tx := unmarkedTx s.loop.tx }
  transit := { s.transit with
    actuator := []
    fairness := 0
    lap := s.transit.lap.map unmarked
    outbox := { s.transit.outbox with alarm := [] } }
  arbiter := Arbiter.start
  seq := State.reset.seq
  screens := State.reset.screens
  alarms := ⟨[], false, none, false⟩ }

theorem outsideBlocks_of_outsideGrants (h : outsideGrants t = outsideGrants s) :
    outsideBlocks t = outsideBlocks s := by
  have key : ∀ u : State, outsideBlocks (outsideGrants u) = outsideBlocks u := by
    intro u
    have h1 : unmarkedTx (unmarkedTx u.loop.tx) = unmarkedTx u.loop.tx := by
      cases u.loop.tx <;> rfl
    have h2 : (u.transit.lap.map unmarked).map unmarked = u.transit.lap.map unmarked := by
      simp [unmarked]
    simp only [outsideBlocks, outsideGrants, h1, h2]
  rw [← key t, ← key s, h]

theorem spill_of_outsideBlocks (h : outsideBlocks t = outsideBlocks s) : t.spill = s.spill := by
  simpa [outsideBlocks] using congrArg State.spill h

theorem flow_of_outsideBlocks (h : outsideBlocks t = outsideBlocks s) : t.flow = s.flow := by
  simpa [outsideBlocks] using congrArg State.flow h

theorem clock_of_outsideBlocks (h : outsideBlocks t = outsideBlocks s) : t.clock = s.clock := by
  simpa [outsideBlocks] using congrArg State.clock h

theorem tables_of_outsideBlocks (h : outsideBlocks t = outsideBlocks s) : t.tables = s.tables := by
  simpa [outsideBlocks] using congrArg State.tables h

theorem notice_of_outsideBlocks (h : outsideBlocks t = outsideBlocks s) :
    t.transit.notice = s.transit.notice := by
  simpa [outsideBlocks] using congrArg (fun u : State => u.transit.notice) h

theorem tx_of_outsideBlocks (h : outsideBlocks t = outsideBlocks s) :
    unmarkedTx t.loop.tx = unmarkedTx s.loop.tx := by
  simpa [outsideBlocks] using congrArg (fun u : State => u.loop.tx) h

theorem outbox_of_outsideBlocks (h : outsideBlocks t = outsideBlocks s) :
    t.transit.outbox.retried = s.transit.outbox.retried ∧ t.transit.outbox.spill = s.transit.outbox.spill := by
  have hout : { t.transit.outbox with alarm := [] } = { s.transit.outbox with alarm := [] } := by
    simpa [outsideBlocks] using congrArg (fun u : State => u.transit.outbox) h
  exact ⟨(Outbox.mk.inj hout).1, (Outbox.mk.inj hout).2.1⟩

/-! ### The alarm unit (R154 to R158) -/

theorem outsideBlocks_setAlarm (n : Nat) (e : AlarmEntry) (s : State) :
    outsideBlocks (s.setAlarm n e) = outsideBlocks s := rfl

theorem outsideBlocks_changeAlarm (n : Nat) (st : AlarmState) (s : State) :
    outsideBlocks (changeAlarm n st s) = outsideBlocks s := by
  have hnotify : ∀ u, outsideBlocks (notifyChange n u) = outsideBlocks u := by
    intro u
    unfold notifyChange
    split <;> rfl
  have hwake : ∀ u, outsideBlocks (wakeHorn n st u) = outsideBlocks u := by
    intro u
    unfold wakeHorn
    split <;> rfl
  rw [changeAlarm, hnotify, hwake, outsideBlocks_setAlarm]

@[simp] theorem outsideBlocks_stateCondition (n : Nat) (b : Bool) (s : State) :
    outsideBlocks (stateCondition n b s) = outsideBlocks s := by
  unfold stateCondition
  split
  · rfl
  · rw [followCondition_eq]
    split
    · rfl
    · rw [outsideBlocks_changeAlarm, outsideBlocks_setAlarm]

theorem outsideBlocks_judgeAnnunciator (s : State) : outsideBlocks (judgeAnnunciator s) = outsideBlocks s := by
  unfold judgeAnnunciator
  split
  · rfl
  · rw [postAnnunciate, outsideBlocks_of_outsideGrants (outsideGrants_postCommand ..)]
    rfl

/-! ### Pump protection and the pump sequencer (R98 to R106, R112 to R118) -/

@[simp] theorem outsideBlocks_setPump (p : Pump) (r : PumpRec) (s : State) :
    outsideBlocks (s.setPump p r) = outsideBlocks s := rfl

@[simp] theorem outsideBlocks_setSeq (x : Sequencer) (s : State) :
    outsideBlocks { s with seq := x } = outsideBlocks s := rfl

theorem outsideBlocks_judgePump (p : Pump) (s : State) : outsideBlocks (judgePump p s) = outsideBlocks s := by
  have hlatch : outsideBlocks (judgeLatch p s) = outsideBlocks s := by
    unfold judgeLatch
    split <;> rfl
  have hmove := outsideBlocks_of_outsideGrants (outsideGrants_judgeMove p (statePumpConditions p (judgeLatch p s)))
  rw [judgePump, hmove, statePumpConditions, outsideBlocks_stateCondition, outsideBlocks_stateCondition, hlatch]

theorem outsideBlocks_releasePump (p : Pump) (s : State) : outsideBlocks (releasePump p s) = outsideBlocks s := by
  unfold releasePump
  dsimp only
  split_ifs <;> rfl

@[simp] theorem outsideBlocks_protectPump (p : Pump) (s : State) :
    outsideBlocks (protectPump p s) = outsideBlocks s := by
  unfold protectPump
  dsimp only
  split_ifs
  · rw [outsideBlocks_releasePump, outsideBlocks_judgePump, outsideBlocks_setPump]
  · rw [outsideBlocks_judgePump, outsideBlocks_setPump]
  · rfl

theorem outsideBlocks_protectAll (s : State) : outsideBlocks (protectAll s) = outsideBlocks s :=
  eachPump_view outsideBlocks _ outsideBlocks_protectPump s

theorem outsideBlocks_countRunSecond (p : Pump) (s : State) :
    outsideBlocks (countRunSecond p s) = outsideBlocks s := by
  unfold countRunSecond
  split <;> rfl

theorem outsideBlocks_dropIneligible (p : Pump) (s : State) :
    outsideBlocks (dropIneligible p s) = outsideBlocks s := by
  unfold dropIneligible
  split <;> rfl

theorem outsideBlocks_raisePump (s : State) (p : Pump) : outsideBlocks (raisePump s p) = outsideBlocks s := by
  unfold raisePump
  split <;> rfl

theorem outsideBlocks_lowerWaiting (s : State) (p : Pump) :
    outsideBlocks (lowerWaiting s p) = outsideBlocks s := by
  unfold lowerWaiting
  split <;> rfl

theorem outsideBlocks_lowerRunning (s : State) (p : Pump) :
    outsideBlocks (lowerRunning s p) = outsideBlocks s := by
  unfold lowerRunning
  split
  · exact outsideBlocks_of_outsideGrants (outsideGrants_enterStopping p s)
  · rfl

theorem outsideBlocks_actOnDemand (s : State) : outsideBlocks (actOnDemand s) = outsideBlocks s := by
  unfold actOnDemand
  dsimp only
  split_ifs
  · rw [foldl_view outsideBlocks _ outsideBlocks_raisePump, eachPump_view outsideBlocks _ outsideBlocks_dropIneligible]
  · rw [foldl_view outsideBlocks _ outsideBlocks_lowerRunning,
      foldl_view outsideBlocks _ outsideBlocks_lowerWaiting, eachPump_view outsideBlocks _ outsideBlocks_dropIneligible]
  · rfl

theorem outsideBlocks_sequence (s : State) : outsideBlocks (sequence s) = outsideBlocks s := by
  unfold Machine.sequence
  rw [outsideBlocks_actOnDemand, judgeLevels, outsideBlocks_stateCondition, outsideBlocks_stateCondition,
    outsideBlocks_setSeq, formDemand, outsideBlocks_setSeq, judgeBands, outsideBlocks_setSeq,
    eachPump_view outsideBlocks _ outsideBlocks_countRunSecond]

/-! ### The screen controller (R123, R124, R127) -/

theorem outsideBlocks_setRake (r : Side) (v : RakeRec) (s : State) :
    outsideBlocks (s.setRake r v) = outsideBlocks s := rfl

theorem outsideBlocks_setScreen (r : Side) (v : ScreenRec) (s : State) :
    outsideBlocks (s.setScreen r v) = outsideBlocks s := rfl

theorem outsideBlocks_countInterval (r : Side) (s : State) :
    outsideBlocks (countInterval r s) = outsideBlocks s := by
  unfold countInterval
  dsimp only
  split
  · rfl
  · split_ifs
    · rw [outsideBlocks_of_outsideGrants (outsideGrants_giveRequest r _), outsideBlocks_setRake]
    · rfl
    · rfl

theorem outsideBlocks_judgeScreen (r : Side) (s : State) : outsideBlocks (judgeScreen r s) = outsideBlocks s := by
  unfold judgeScreen
  split
  · rfl
  · rw [outsideBlocks_of_outsideGrants (outsideGrants_judgeRequest r _), outsideBlocks_countInterval,
      outsideBlocks_stateCondition, outsideBlocks_setScreen]

theorem outsideBlocks_judgeScreens (s : State) : outsideBlocks (judgeScreens s) = outsideBlocks s :=
  eachSide_view outsideBlocks _ outsideBlocks_judgeScreen s

/-! ### The delivery up to the spill monitor (R59) -/

/-- The delivery of a balance record to the blocks before the spill monitor (R59). -/
def deliveredToDrives (o : BalanceOrder) (s : State) : State :=
  guarded (fun _ => !o.screenFirst) judgeScreens <|
    guarded (fun _ => !o.protectionFirst) protectAll <|
    sequence <|
    guarded (fun _ => o.screenFirst) judgeScreens <|
    guarded (fun _ => o.protectionFirst) protectAll s

theorem deliverRecord_eq (o : BalanceOrder) (s : State) : deliverRecord o s = judgeWeirs (deliveredToDrives o s) := rfl

theorem outsideBlocks_deliveredToDrives (o : BalanceOrder) (s : State) :
    outsideBlocks (deliveredToDrives o s) = outsideBlocks s := by
  rw [deliveredToDrives, guarded_view outsideBlocks _ _ outsideBlocks_judgeScreens,
    guarded_view outsideBlocks _ _ outsideBlocks_protectAll, outsideBlocks_sequence,
    guarded_view outsideBlocks _ _ outsideBlocks_judgeScreens, guarded_view outsideBlocks _ _ outsideBlocks_protectAll]

theorem worked_deliveredToDrives (o : BalanceOrder) (h : Worked s t) : Worked s (deliveredToDrives o t) := by
  have screens : ∀ u, Worked s u → Worked s (judgeScreens u) := fun _ hu =>
    worked_eachSide (fun r _ hu => worked_judgeScreen hu r) hu
  have protect : ∀ u, Worked s u → Worked s (protectAll u) := fun _ hu =>
    worked_eachPump (fun p _ hu => worked_protectPump hu p) hu
  exact worked_guarded screens <| worked_guarded protect <|
    worked_sequence <| worked_guarded screens <| worked_guarded protect h

/-- No activation is made where none waits (R172). -/
theorem activateAll_eq {m : Method} (h : s.awaits m = false) : activateAll m s = s := by
  refine foldl_fixed (fun i => ?_) _
  unfold activateIf
  split
  · next segments m' hshadow =>
    rw [if_neg]
    rintro rfl
    simp only [State.awaits, List.any_eq_false] at h
    have hi : i ∈ tableIds := by cases i <;> simp [tableIds]
    have hwaits := h i hi
    rw [hshadow] at hwaits
    simp at hwaits
  · rfl

end Sys2Proof.Proofs
end

section
/-! PROOF. An open spill record: filled, in doubt, receding, closed, taken up again (R140 to R144, R147). -/

namespace Sys2Proof.Proofs

open Sys2Proof.Machine Sys2Proof.Safety Sys2Proof.Laws

variable {s t u : State} {w : Weir} {r : SpillRec} {before afterwards : List SpillRec}

/-! ### The open record of a weir (R137, R143) -/

/-- Of weir `w`'s records in the log `r` alone is open. -/
structure OpenIn (w : Weir) (before : List SpillRec) (r : SpillRec) (afterwards : List SpillRec) (s : State) : Prop where
  log : s.spill.log = before ++ r :: afterwards
  weir : r.weir = w
  opened : r.state = .opened
  others : ∀ y ∈ before ++ afterwards, y.weir = w → y.state ≠ .opened

theorem OpenIn.of_spill (h : OpenIn w before r afterwards s) (ht : t.spill.log = s.spill.log) :
    OpenIn w before r afterwards t := { h with log := ht.trans h.log }

/-- What is done to the open record leaves the others where they stand. -/
theorem OpenIn.log_changeOpen (h : OpenIn w before r afterwards s) (f : SpillRec → SpillRec) :
    (changeOpen w f s).spill.log = before ++ f r :: afterwards := by
  have hkeep : ∀ l : List SpillRec, (∀ y ∈ l, y.weir = w → y.state ≠ .opened) →
      l.map (fun y => if y.weir = w ∧ y.state = .opened then f y else y) = l := fun l hl =>
    (List.map_congr_left (g := id) fun y hy => if_neg (not_and.mpr (hl y hy))).trans (List.map_id l)
  change s.spill.log.map _ = _
  rw [h.log, List.map_append, List.map_cons, hkeep before fun y hy => h.others y (List.mem_append_left _ hy),
    hkeep afterwards fun y hy => h.others y (List.mem_append_right _ hy), if_pos ⟨h.weir, h.opened⟩]

theorem OpenIn.changeOpen (h : OpenIn w before r afterwards s) {f : SpillRec → SpillRec} (hweir : (f r).weir = w)
    (hopened : (f r).state = .opened) : OpenIn w before (f r) afterwards (changeOpen w f s) :=
  ⟨h.log_changeOpen f, hweir, hopened, h.others⟩

theorem OpenIn.find (h : OpenIn w before r afterwards s) :
    s.spill.log.find? (fun y => decide (y.weir = w ∧ y.state = .opened)) = some r := by
  have hbefore : before.find? (fun y => decide (y.weir = w ∧ y.state = .opened)) = none := by
    rw [List.find?_eq_none]
    intro y hy
    simpa using h.others y (List.mem_append_left _ hy)
  rw [h.log, List.find?_append, hbefore, Option.none_or, List.find?_cons_of_pos]
  simp [h.weir, h.opened]

/-! ### Litres and peak added (R140 to R142) -/

/-- Litres added to a record, saturating, the loss of any marked (R143). -/
theorem addLitres_eq (r : SpillRec) (l : Int) : r.addLitres l = { r with
    volume := min 4294967295 (r.volume + l.toNat)
    flags := { r.flags with
      volumeSaturated := r.flags.volumeSaturated || decide (4294967295 < r.volume + l.toNat) } } := by
  unfold SpillRec.addLitres
  by_cases h : r.volume + l.toNat ≤ max32
  · have h' : r.volume + l.toNat ≤ 4294967295 := h
    rw [if_pos h, Nat.min_eq_right h', decide_eq_false (by omega), Bool.or_false]
  · have h' : 4294967295 < r.volume + l.toNat := by simpa [max32] using h
    rw [if_neg h, Nat.min_eq_left (by omega), decide_eq_true h', Bool.or_true]
    rfl

/-! ### The record closed (R144, R147) -/

/-- The SPILL_CLOSE notice of a record (R147, R185). -/
def closeNotice (s : State) (y : SpillRec) : OwnFrame :=
  ⟨s.gateway, [3] ++ y.chars, .notice .spillClose y.number, 0⟩

theorem noteClosed_eq (h : OpenIn w before r afterwards s) (c : Capture) :
    noteClosed w c s = noteSpill w (closeNotice s (r.closed c)) s := by
  rw [noteClosed, h.find]
  rfl

/-- What a closed record leaves (R144): the record closed, the weir DRY, the notice waiting, SPILL stated. -/
structure Closed (w : Weir) (before : List SpillRec) (y : SpillRec) (afterwards : List SpillRec) (s t : State) : Prop where
  log : t.spill.log = before ++ y :: afterwards
  weir : t.weir w = WeirRec.dry
  waits : t.transit.outbox.spill = s.transit.outbox.spill ++ [(w, closeNotice s y)]
  retried : t.transit.outbox.retried = s.transit.outbox.retried
  notice : t.transit.notice = s.transit.notice
  loop : t.loop = s.loop
  condition : s.alarms.entries.length = 73 → (t.alarm w.spillEntry).condition = false

theorem weir_stateSpill (x y : Weir) (s : State) : (stateSpill x s).weir y = s.weir y := by
  rw [State.weir, State.weir, spill_of_outsideDrives (outsideDrives_stateSpill x s)]

theorem closed_closeRecord (h : OpenIn w before r afterwards s) (c : Capture) :
    Closed w before (r.closed c) afterwards s (closeRecord w c s) := by
  have hopen : OpenIn w before r afterwards (noteSpill w (closeNotice s (r.closed c)) s) := h.of_spill rfl
  have hblocks := outsideBlocks_stateCondition w.spillEntry false
    ((changeOpen w (fun r => r.closed c) (noteSpill w (closeNotice s (r.closed c)) s)).setWeir w WeirRec.dry)
  have hweir : ((changeOpen w (fun r => r.closed c) (noteSpill w (closeNotice s (r.closed c)) s)).setWeir w
      WeirRec.dry).weir w = WeirRec.dry := by
    rw [State.weir_setWeir, if_pos rfl]
  have heq : closeRecord w c s = stateCondition w.spillEntry false
      ((changeOpen w (fun r => r.closed c) (noteSpill w (closeNotice s (r.closed c)) s)).setWeir w WeirRec.dry) := by
    rw [closeRecord, noteClosed_eq h, stateSpill, ← State.weir, hweir]
    rfl
  obtain ⟨hretried, hspill⟩ := outbox_of_outsideBlocks hblocks
  rw [heq]
  refine ⟨?_, ?_, hspill, hretried, (notice_of_outsideBlocks hblocks).trans rfl, ?_, fun h73 => ?_⟩
  · rw [spill_of_outsideBlocks hblocks]
    exact hopen.log_changeOpen _
  · rw [State.weir, spill_of_outsideBlocks hblocks]
    exact hweir
  · rw [loop_of_outsideAlarms (outsideAlarms_stateCondition ..)]
    rfl
  · refine condition_stateCondition ⟨by cases w <;> simp [Weir.spillEntry], ?_⟩ false
    change w.spillEntry ≤ s.alarms.entries.length
    rw [h73]
    cases w <;> simp [Weir.spillEntry]

/-! ### What the judgement of one weir leaves (R138 to R142) -/

/-- The flow record, the definitions and every other weir's record stand. -/
structure OtherWeirsStand (w : Weir) (s t : State) : Prop where
  flow : t.flow = s.flow
  tables : t.tables = s.tables
  weirs : ∀ w', w' ≠ w → t.weir w' = s.weir w'

theorem OtherWeirsStand.trans (h : OtherWeirsStand w s t) (h' : OtherWeirsStand w t u) : OtherWeirsStand w s u :=
  ⟨h'.flow.trans h.flow, h'.tables.trans h.tables, fun w' hw => (h'.weirs w' hw).trans (h.weirs w' hw)⟩

theorem otherWeirsStand_changeOpen (w : Weir) (f : SpillRec → SpillRec) (s : State) :
    OtherWeirsStand w s (changeOpen w f s) := ⟨rfl, rfl, fun _ _ => rfl⟩

theorem otherWeirsStand_setWeir (w : Weir) (v : WeirRec) (s : State) : OtherWeirsStand w s (s.setWeir w v) :=
  ⟨rfl, rfl, fun w' hw => by rw [State.weir_setWeir, if_neg hw]⟩

theorem otherWeirsStand_closeRecord (w : Weir) (c : Capture) (s : State) :
    OtherWeirsStand w s (closeRecord w c s) := by
  have hnote : ∀ u, OtherWeirsStand w u (noteClosed w c u) := by
    intro u
    unfold noteClosed
    split <;> exact ⟨rfl, rfl, fun _ _ => rfl⟩
  have hstate : ∀ u, OtherWeirsStand w u (stateSpill w u) := fun u =>
    have h := outsideDrives_stateSpill w u
    ⟨flow_of_outsideDrives h, tables_of_outsideDrives h, fun w' _ => weir_stateSpill w w' u⟩
  exact (((hnote s).trans (otherWeirsStand_changeOpen ..)).trans (otherWeirsStand_setWeir ..)).trans (hstate _)

theorem otherWeirsStand_advanceEnd (w : Weir) (d : WeirDef) (c : Capture) (n : Nat) (s : State) :
    OtherWeirsStand w s (advanceEnd w d c n s) := by
  unfold advanceEnd
  split
  · exact otherWeirsStand_closeRecord w c s
  · exact otherWeirsStand_setWeir w _ s

theorem otherWeirsStand_judgeSpilling (w : Weir) (d : WeirDef) (flow h : Int) (s : State) :
    OtherWeirsStand w s (judgeSpilling w d flow h s) := by
  unfold judgeSpilling
  split
  · exact (otherWeirsStand_changeOpen w _ s).trans (otherWeirsStand_advanceEnd ..)
  · exact otherWeirsStand_changeOpen w _ s

theorem otherWeirsStand_judgeReceding (w : Weir) (d : WeirDef) (flow h : Int) (s : State) :
    OtherWeirsStand w s (judgeReceding w d flow h s) := by
  unfold judgeReceding
  split
  · exact (otherWeirsStand_changeOpen w _ s).trans (otherWeirsStand_setWeir ..)
  · exact otherWeirsStand_advanceEnd ..

/-- A weir in DRY whose level is not above its crest is left as it is (R138). -/
theorem judgeWeir_dry (hdry : (s.weir w).state = .dry)
    (hhead : ∀ h, (s.flow.record.weirs.get w).head = some h → h ≤ 0) : judgeWeir w s = s := by
  unfold judgeWeir
  split
  · rfl
  · rw [hdry]
    dsimp only
    unfold judgeDry
    split
    · rfl
    · next h hh =>
      have := hhead h hh
      rw [if_neg (by omega)]

/-- Where the other weir is DRY and not above its crest, the judgement of both is that of one (R138). -/
theorem judgeWeirs_one (hdry : ∀ w', w' ≠ w → (s.weir w').state = .dry)
    (hhead : ∀ w', w' ≠ w → ∀ h, (s.flow.record.weirs.get w').head = some h → h ≤ 0)
    (hstand : OtherWeirsStand w s (judgeWeir w s)) : judgeWeirs s = judgeWeir w s := by
  change judgeWeir .w2 (judgeWeir .w1 s) = _
  cases w with
  | w1 =>
    refine judgeWeir_dry ?_ ?_
    · rw [hstand.weirs .w2 (by simp)]
      exact hdry .w2 (by simp)
    · rw [hstand.flow]
      exact hhead .w2 (by simp)
  | w2 => rw [judgeWeir_dry (hdry .w1 (by simp)) (hhead .w1 (by simp))]

end Sys2Proof.Proofs
end

section
/-! PROOF. A balance record at a weir with an open record, and the end of its event (R58, R140 to R147). -/

namespace Sys2Proof.Proofs

open Sys2Proof.Machine Sys2Proof.Safety Sys2Proof.Laws

variable {s t u v : State} {w : Weir} {r : SpillRec} {before afterwards : List SpillRec} {d : WeirDef}

/-! ### The record as the spill monitor takes it (R58, R59, R66) -/

/-- The balance record of `s` has come to the spill monitor, the other blocks served. -/
structure RecordTaken (s v : State) : Prop where
  spill : v.spill = s.spill
  tables : v.tables = s.tables
  weirs : ∀ w, v.flow.record.weirs.get w = s.weirAt w
  capture : v.updateCapture = ⟨s.clockTime, s.clock.running⟩
  notice : v.transit.notice = s.transit.notice
  tx : unmarkedTx v.loop.tx = unmarkedTx s.loop.tx
  retried : v.transit.outbox.retried = s.transit.outbox.retried
  waits : v.transit.outbox.spill = s.transit.outbox.spill
  entries : v.alarms.entries.length = s.alarms.entries.length
  quiet : v.awaits .quiet = s.awaits .quiet

theorem recordTaken_deliveredToDrives (o : BalanceOrder) (s : State) :
    RecordTaken s (deliveredToDrives o (formRecord s)) := by
  have h := outsideBlocks_deliveredToDrives o (formRecord s)
  have hflow : (deliveredToDrives o (formRecord s)).flow = (formRecord s).flow := flow_of_outsideBlocks h
  have hclock : (deliveredToDrives o (formRecord s)).clock = s.clock :=
    (clock_of_outsideBlocks h).trans rfl
  have htables : (deliveredToDrives o (formRecord s)).tables = s.tables :=
    (tables_of_outsideBlocks h).trans rfl
  obtain ⟨hretried, hwaits⟩ := outbox_of_outsideBlocks h
  refine ⟨(spill_of_outsideBlocks h).trans rfl, htables, fun w => ?_, ?_, (notice_of_outsideBlocks h).trans rfl,
    (tx_of_outsideBlocks h).trans rfl, hretried, hwaits, (worked_deliveredToDrives o (worked_formRecord (.refl s))).entries, ?_⟩
  · rw [hflow]
    cases w <;> rfl
  · rw [State.updateCapture, hflow, hclock]
    rfl
  · simp only [State.awaits, htables]

theorem exec_balanceUpdate (o : BalanceOrder) (hon : s.on = true) (hperiod : s.awaits .nextPeriod = false) :
    exec (.balanceUpdate o) s = .next (finishDrives (judgeWeirs (deliveredToDrives o (formRecord s)))) := by
  simp only [exec, execBalanceUpdate, hon, if_true, balanceUpdate, activateAll_eq hperiod, deliverRecord_eq]

/-! ### The weir by its state (R140 to R142) -/

theorem judgeWeir_doubt (hd : v.weirDef w = some d) (hstate : (v.weir w).state = .spilling ∨ (v.weir w).state = .receding)
    (hx : (v.flow.record.weirs.get w).usable = false ∨ (v.flow.record.weirs.get w).head = none) :
    judgeWeir w v = judgeDoubt w (v.flow.record.weirs.get w) v := by
  unfold judgeWeir
  rw [hd]
  dsimp only
  rcases hstate with hstate | hstate <;> rw [hstate] <;> dsimp only <;>
    cases hhead : (v.flow.record.weirs.get w).head <;> simp_all

theorem judgeWeir_spilling (hd : v.weirDef w = some d) (hstate : (v.weir w).state = .spilling) {h : Int}
    (hhead : (v.flow.record.weirs.get w).head = some h) (hu : (v.flow.record.weirs.get w).usable = true) :
    judgeWeir w v = judgeSpilling w d (v.flow.record.weirs.get w).flow h v := by
  simp only [judgeWeir, hd, hstate, hhead, hu, if_true]

theorem judgeWeir_receding (hd : v.weirDef w = some d) (hstate : (v.weir w).state = .receding) {h : Int}
    (hhead : (v.flow.record.weirs.get w).head = some h) (hu : (v.flow.record.weirs.get w).usable = true) :
    judgeWeir w v = judgeReceding w d (v.flow.record.weirs.get w).flow h v := by
  simp only [judgeWeir, hd, hstate, hhead, hu, if_true]

theorem otherWeirsStand_judgeWeir (hd : v.weirDef w = some d)
    (hstate : (v.weir w).state = .spilling ∨ (v.weir w).state = .receding) :
    OtherWeirsStand w v (judgeWeir w v) := by
  cases hhead : (v.flow.record.weirs.get w).head with
  | none =>
    rw [judgeWeir_doubt hd hstate (.inr hhead)]
    exact otherWeirsStand_changeOpen ..
  | some h =>
    cases hu : (v.flow.record.weirs.get w).usable with
    | false =>
      rw [judgeWeir_doubt hd hstate (.inl hu)]
      exact otherWeirsStand_changeOpen ..
    | true =>
      rcases hstate with hstate | hstate
      · rw [judgeWeir_spilling hd hstate hhead hu]
        exact otherWeirsStand_judgeSpilling ..
      · rw [judgeWeir_receding hd hstate hhead hu]
        exact otherWeirsStand_judgeReceding ..

/-! ### The notice of a close at the end of the event (R27, R147) -/

/-- A notice that is no ALARM stays in its class as others meet it (R27). -/
theorem mem_flush {o : OwnFrame} (ho : o.isAlarm = false) (os : List OwnFrame) (h : o ∈ u.transit.notice) :
    o ∈ (os.foldl (fun u x => postNotice x u) u).transit.notice := by
  refine foldl_keeps (P := fun u => o ∈ u.transit.notice) (fun u x hu => ?_) h os
  rw [postNotice_eq]
  unfold metBy
  dsimp only
  split_ifs
  · exact List.mem_append_left _ hu
  · exact List.mem_append_left _ ((List.mem_eraseP_of_neg (by simp [ho])).mpr hu)
  · exact hu

/-- A notice comes to stand in a class that has room or holds an ALARM (R27). -/
theorem mem_metBy (o : OwnFrame) (h : u.noticeFull = false ∨ u.transit.notice.any OwnFrame.isAlarm = true) :
    o ∈ metBy u o := by
  unfold metBy
  rcases h with h | h
  · rw [if_pos h]
    simp
  · rw [if_pos h]
    split <;> simp

theorem metBy_setOutbox (b : Outbox) (u : State) (o : OwnFrame) :
    metBy { u with transit := { u.transit with outbox := b } } o = metBy u o := rfl

/-- The one spill notice of an event comes to stand in its class, where that has room or holds an ALARM (R27). -/
theorem mem_notice_ended {o : OwnFrame} (ho : o.isAlarm = false) (hretried : u.transit.outbox.retried = [])
    (hwaits : u.transit.outbox.spill = [(w, o)])
    (hroom : u.noticeFull = false ∨ u.transit.notice.any OwnFrame.isAlarm = true) :
    o ∈ (ended u).transit.notice := by
  have hsettle := outsideGrants_settleDrives u
  have hblocks : outsideBlocks (judgeAnnunciator (settleDrives u)) = outsideBlocks u :=
    (outsideBlocks_judgeAnnunciator _).trans (outsideBlocks_of_outsideGrants hsettle)
  obtain ⟨hretried', hwaits'⟩ := outbox_of_outsideBlocks hblocks
  have hone : weirs.flatMap (fun x => (([(w, o)] : List (Weir × OwnFrame)).filter fun y => decide (y.1 = x)).map (·.2)) =
      [o] := by cases w <;> rfl
  have hnotice := notice_of_outsideBlocks hblocks
  have htx := tx_of_outsideBlocks hblocks
  rw [ended, finishAlarms, flushNotices, Outbox.ordered, hretried', hretried, hwaits', hwaits, hone, List.nil_append,
    List.append_assoc, List.singleton_append, List.foldl_cons]
  refine mem_flush ho _ ?_
  rw [postNotice_eq]
  dsimp only
  rw [metBy_setOutbox, metBy_congr hnotice htx]
  exact mem_metBy o hroom

/-! ### The end of the event -/

theorem spill_ended (u : State) : (ended u).spill = u.spill := spill_of_outsideDrives (outsideDrives_ended u)

theorem weir_ended (u : State) (w : Weir) : (ended u).weir w = u.weir w := by
  rw [State.weir, spill_ended, State.weir]

/-- What the close of a record by a balance update comes to at the end of its event (R144, R147). -/
theorem closed_ended {y : SpillRec} (hv : RecordTaken s v) (hempty : s.transit.outbox = Outbox.empty)
    (hchanged : u.transit = v.transit ∧ u.loop = v.loop ∧ u.tables = v.tables ∧ u.alarms = v.alarms)
    (h : Closed w before y afterwards u t) :
    (ended t).weir w = WeirRec.dry ∧ (ended t).spill.log = before ++ y :: afterwards ∧
      ((s.noticeFull = false ∨ s.transit.notice.any OwnFrame.isAlarm = true) →
        closeNotice s y ∈ (ended t).transit.notice) ∧
      (s.alarms.entries.length = 73 → ((ended t).alarm w.spillEntry).condition = false) := by
  obtain ⟨htransit, hloop, htables, halarms⟩ := hchanged
  have hgateway : closeNotice u y = closeNotice s y := by
    unfold closeNotice State.gateway State.station
    rw [htables, hv.tables]
  have hnotice : t.transit.notice = s.transit.notice := by rw [h.notice, htransit, hv.notice]
  have htx : unmarkedTx t.loop.tx = unmarkedTx s.loop.tx := by rw [h.loop, hloop, hv.tx]
  refine ⟨(weir_ended t w).trans h.weir, by rw [spill_ended, h.log], fun hroom => ?_, fun h73 => ?_⟩
  · refine mem_notice_ended (w := w) rfl ?_ ?_ ?_
    · rw [h.retried, htransit, hv.retried, hempty]
      rfl
    · rw [h.waits, htransit, hv.waits, hempty, hgateway]
      rfl
    · rw [noticeFull_congr hnotice htx, hnotice]
      exact hroom
  · rw [State.alarm, entries_ended]
    exact h.condition (by rw [halarms, hv.entries, h73])

end Sys2Proof.Proofs
end

section
/-! PROOF. What a balance update makes of an open spill record (R140 to R147). -/

namespace Sys2Proof.Proofs

open Sys2Proof.Machine Sys2Proof.Safety Sys2Proof.Laws

variable {s t u v : State} {w : Weir} {r : SpillRec} {before afterwards : List SpillRec} {d : WeirDef}

/-! ### The open record after a balance update -/

/-- The litres of an update added to a record, saturating (R140, R143). -/
def withLitres (r : SpillRec) (l : Int) : SpillRec := { r with
  volume := min 4294967295 (r.volume + l.toNat)
  flags := { r.flags with
    volumeSaturated := r.flags.volumeSaturated || decide (4294967295 < r.volume + l.toNat) } }

/-- The litres and the head of an update added to a record (R140, R141). -/
def filled (r : SpillRec) (l h : Int) : SpillRec := { withLitres r l with peak := max r.peak h }

/-- The litres and the head held added to a record in doubt (R142). -/
def doubted (r : SpillRec) (l : Int) (head : Option Int) : SpillRec := { withLitres r l with
  peak := match head with
    | none => r.peak
    | some h => max r.peak h
  flags := { (withLitres r l).flags with levelDoubt := true } }

theorem filled_eq (r : SpillRec) (l h : Int) : (r.addLitres l).raisePeak h = filled r l h := by
  rw [addLitres_eq]
  rfl

theorem log_judgeDoubt (h : OpenIn w before r afterwards s) (x : WeirFlow) :
    (judgeDoubt w x s).spill.log = before ++ doubted r x.flow x.head :: afterwards := by
  rw [judgeDoubt, h.log_changeOpen]
  congr 2
  unfold doubted withLitres
  cases x.head <;> simp only [addLitres_eq, SpillRec.raisePeak]

theorem OpenIn.addToOpen (h : OpenIn w before r afterwards s) (l x : Int) :
    OpenIn w before (filled r l x) afterwards (addToOpen w l x s) := by
  have hopen := h.changeOpen (f := fun r => (r.addLitres l).raisePeak x)
    (by rw [filled_eq]; exact h.weir) (by rw [filled_eq]; exact h.opened)
  rw [filled_eq] at hopen
  exact hopen

theorem weir_addToOpen (w x : Weir) (l h : Int) (s : State) : (addToOpen w l h s).weir x = s.weir x := rfl

/-- What a balance update comes to where the weir's record stays open: the weir's record and the log as the judgement
leaves them. -/
structure StaysOpen (w : Weir) (x : WeirRec) (y : SpillRec) (before afterwards : List SpillRec) (t : State) : Prop where
  weir : t.weir w = x
  log : t.spill.log = before ++ y :: afterwards

theorem StaysOpen.ended {x : WeirRec} {y : SpillRec} (h : StaysOpen w x y before afterwards t) :
    StaysOpen w x y before afterwards (ended t) :=
  ⟨(weir_ended t w).trans h.weir, by rw [spill_ended, h.log]⟩

/-- What a balance update comes to where the record is closed, at the end of the event (R144, R147). -/
def EndsClosed (w : Weir) (y : SpillRec) (before afterwards : List SpillRec) (s t : State) : Prop :=
  t.weir w = WeirRec.dry ∧ t.spill.log = before ++ y :: afterwards ∧
    ((s.noticeFull = false ∨ s.transit.notice.any OwnFrame.isAlarm = true) → closeNotice s y ∈ t.transit.notice) ∧
    (s.alarms.entries.length = 73 → (t.alarm w.spillEntry).condition = false)

/-- The capture of an update (R137). -/
def here (s : State) : Capture := ⟨s.clockTime, s.clock.running⟩

/-! ### Each rule at the record taken -/

section Taken
variable (hv : RecordTaken s v)
include hv

theorem RecordTaken.weir (w : Weir) : v.weir w = s.weir w := by rw [State.weir, hv.spill, State.weir]

theorem RecordTaken.weirDef (w : Weir) : v.weirDef w = s.weirDef w := by rw [State.weirDef, hv.tables, State.weirDef]

theorem RecordTaken.openIn (ho : OpenIn w before r afterwards s) : OpenIn w before r afterwards v :=
  ho.of_spill (by rw [hv.spill])

variable (hd : s.weirDef w = some d) {h : Int}
include hd

theorem judged_doubt (hstate : (s.weir w).state = .spilling ∨ (s.weir w).state = .receding)
    (hx : (s.weirAt w).usable = false ∨ (s.weirAt w).head = none) :
    judgeWeir w v = judgeDoubt w (s.weirAt w) v := by
  rw [judgeWeir_doubt ((hv.weirDef w).trans hd) (by rw [hv.weir]; exact hstate) (by rw [hv.weirs]; exact hx), hv.weirs]

variable (hhead : (s.weirAt w).head = some h) (hu : (s.weirAt w).usable = true)
include hhead hu

theorem judged_spilling (hstate : (s.weir w).state = .spilling) :
    judgeWeir w v = judgeSpilling w d (s.weirAt w).flow h v := by
  rw [judgeWeir_spilling ((hv.weirDef w).trans hd) (by rw [hv.weir, hstate]) (by rw [hv.weirs, hhead])
    (by rw [hv.weirs, hu]), hv.weirs]

theorem judged_receding (hstate : (s.weir w).state = .receding) :
    judgeWeir w v = judgeReceding w d (s.weirAt w).flow h v := by
  rw [judgeWeir_receding ((hv.weirDef w).trans hd) (by rw [hv.weir, hstate]) (by rw [hv.weirs, hhead])
    (by rw [hv.weirs, hu]), hv.weirs]

variable (ho : OpenIn w before r afterwards s)
include ho

/-- SPILLING, the level above the hysteresis (R140). -/
theorem spilling_above (hstate : (s.weir w).state = .spilling) (habove : -d.hysteresis < h) :
    StaysOpen w (s.weir w) (filled r (s.weirAt w).flow h) before afterwards (judgeWeir w v) := by
  rw [judged_spilling hv hd hhead hu hstate, judgeSpilling, if_neg (by omega)]
  exact ⟨(weir_addToOpen ..).trans (hv.weir w), ((hv.openIn ho).addToOpen _ h).log⟩

/-- RECEDING, the level above the hysteresis: SPILLING again (R141). -/
theorem receding_above (hstate : (s.weir w).state = .receding) (habove : -d.hysteresis < h) :
    StaysOpen w { s.weir w with state := .spilling, candidate := none, endCount := 0 }
      (filled r (s.weirAt w).flow h) before afterwards (judgeWeir w v) := by
  rw [judged_receding hv hd hhead hu hstate, judgeReceding, if_pos habove]
  refine ⟨?_, ((hv.openIn ho).addToOpen _ h).log⟩
  rw [State.weir_setWeir, if_pos rfl, hv.weir]

/-- SPILLING, the level fallen: the end is counted from its candidate (R140). -/
theorem spilling_fallen (hstate : (s.weir w).state = .spilling) (hfallen : h ≤ -d.hysteresis)
    (hconfirm : 1 < d.endConfirm) :
    StaysOpen w { s.weir w with state := .receding, candidate := some (here s), endCount := 1 }
      (filled r (s.weirAt w).flow h) before afterwards (judgeWeir w v) := by
  rw [judged_spilling hv hd hhead hu hstate, judgeSpilling, if_pos hfallen, advanceEnd, if_neg (by omega)]
  refine ⟨?_, ((hv.openIn ho).addToOpen _ h).log⟩
  rw [State.weir_setWeir, if_pos rfl, weir_addToOpen, hv.weir, hv.capture]
  rfl

/-- RECEDING, the end not yet confirmed (R141). -/
theorem receding_fallen (hstate : (s.weir w).state = .receding) (hfallen : h ≤ -d.hysteresis)
    (hconfirm : (s.weir w).endCount + 1 < d.endConfirm) :
    StaysOpen w { s.weir w with
      candidate := some ((s.weir w).candidate.getD (here s))
      endCount := (s.weir w).endCount + 1 } r before afterwards (judgeWeir w v) := by
  rw [judged_receding hv hd hhead hu hstate, judgeReceding, if_neg (by omega), hv.weir, advanceEnd,
    if_neg (by omega)]
  refine ⟨?_, (hv.openIn ho).log⟩
  rw [State.weir_setWeir, if_pos rfl, hv.weir, hv.capture, ← hstate]
  rfl

variable (hempty : s.transit.outbox = Outbox.empty)
include hempty

/-- SPILLING, the end confirmed at once (R140, R144). -/
theorem spilling_closes (hstate : (s.weir w).state = .spilling) (hfallen : h ≤ -d.hysteresis)
    (hconfirm : d.endConfirm ≤ 1) :
    EndsClosed w ((filled r (s.weirAt w).flow h).closed (here s)) before afterwards s (ended (judgeWeir w v)) := by
  rw [judged_spilling hv hd hhead hu hstate, judgeSpilling, if_pos hfallen, advanceEnd, if_pos hconfirm, hv.capture]
  exact closed_ended (u := addToOpen w (s.weirAt w).flow h v) hv hempty ⟨rfl, rfl, rfl, rfl⟩
    (closed_closeRecord ((hv.openIn ho).addToOpen _ h) (here s))

/-- RECEDING, the end confirmed (R141, R144). -/
theorem receding_closes (hstate : (s.weir w).state = .receding) (hfallen : h ≤ -d.hysteresis)
    (hconfirm : d.endConfirm ≤ (s.weir w).endCount + 1) :
    EndsClosed w (r.closed ((s.weir w).candidate.getD (here s))) before afterwards s (ended (judgeWeir w v)) := by
  rw [judged_receding hv hd hhead hu hstate, judgeReceding, if_neg (by omega), hv.weir, advanceEnd,
    if_pos hconfirm, hv.capture]
  exact closed_ended hv hempty ⟨rfl, rfl, rfl, rfl⟩ (closed_closeRecord (hv.openIn ho) _)

end Taken

/-- A balance update at which weir `w` alone has a record or water over its crest is judged at it (R138). -/
theorem exec_balanceUpdate_weir (o : BalanceOrder) (hon : s.on = true) (hq : s.awaits .quiet = false)
    (hperiod : s.awaits .nextPeriod = false) (hd : s.weirDef w = some d)
    (hstate : (s.weir w).state = .spilling ∨ (s.weir w).state = .receding)
    (hothers : ∀ w', w' ≠ w → (s.weir w').state = .dry ∧ ∀ h', (s.weirAt w').head = some h' → h' ≤ 0) :
    ∃ v, RecordTaken s v ∧ exec (.balanceUpdate o) s = .next (ended (judgeWeir w v)) := by
  have hv := recordTaken_deliveredToDrives o s
  refine ⟨_, hv, ?_⟩
  rw [exec_balanceUpdate o hon hperiod]
  generalize deliveredToDrives o (formRecord s) = v at hv ⊢
  have hstand := otherWeirsStand_judgeWeir ((hv.weirDef w).trans hd) (by rw [hv.weir]; exact hstate)
  have hone : judgeWeirs v = judgeWeir w v := by
    refine judgeWeirs_one (fun w' hw => ?_) (fun w' hw h' hh => ?_) hstand
    · rw [hv.weir]
      exact (hothers w' hw).1
    · rw [hv.weirs] at hh
      exact (hothers w' hw).2 h' hh
  have hquiet : (judgeWeir w v).awaits .quiet = false := by
    simp only [State.awaits, hstand.tables]
    exact hv.quiet.trans hq
  rw [hone, finishDrives_eq _ hquiet]
  rfl

/-- Settles O34, by the rule of the weir's state at the record taken. -/
theorem spillRecordIsFilledAndClosed : Obligations.SpillRecordIsFilledAndClosed := by
  intro o w d r before afterwards s hon hsettled hperiod hd hlog hweir hopened hrecords hothers
  have ho : OpenIn w before r afterwards s := ⟨hlog, hweir, hopened, hrecords⟩
  by_cases hstate : (s.weir w).state = .spilling ∨ (s.weir w).state = .receding
  · obtain ⟨v, hv, hexec⟩ := exec_balanceUpdate_weir o hon hsettled.quiet hperiod hd hstate hothers
    refine ⟨_, hexec, fun _ hx => ?_, fun h hu hhead => ⟨fun habove hs => ?_, fun habove hs => ?_,
      fun hfallen hs hconfirm => ?_, fun hfallen hs hconfirm => ?_, fun hfallen hs hconfirm => ?_,
      fun hfallen hs hconfirm => ?_⟩⟩
    · have hopen : StaysOpen w (s.weir w) (doubted r (s.weirAt w).flow (s.weirAt w).head) before afterwards
          (judgeWeir w v) := by
        rw [judged_doubt hv hd hstate hx]
        exact ⟨hv.weir w, log_judgeDoubt (hv.openIn ho) _⟩
      exact ⟨hopen.ended.weir, hopen.ended.log⟩
    · have hopen := (spilling_above hv hd hhead hu ho hs habove).ended
      exact ⟨hopen.weir, hopen.log⟩
    · have hopen := (receding_above hv hd hhead hu ho hs habove).ended
      exact ⟨hopen.weir, hopen.log⟩
    · have hopen := (spilling_fallen hv hd hhead hu ho hs hfallen hconfirm).ended
      exact ⟨hopen.weir, hopen.log⟩
    · obtain ⟨hdry, hbecomes, htold, hcondition⟩ :=
        spilling_closes hv hd hhead hu ho hsettled.outbox hs hfallen hconfirm
      exact ⟨hdry, hbecomes, htold, fun hshapes => by cases w <;> exact hcondition hshapes.alarms⟩
    · have hopen := (receding_fallen hv hd hhead hu ho hs hfallen hconfirm).ended
      exact ⟨hopen.weir, hopen.log.trans hlog.symm⟩
    · obtain ⟨hdry, hbecomes, htold, hcondition⟩ :=
        receding_closes hv hd hhead hu ho hsettled.outbox hs hfallen hconfirm
      exact ⟨hdry, hbecomes, htold, fun hshapes => by cases w <;> exact hcondition hshapes.alarms⟩
  · obtain ⟨hnot, hnot'⟩ := not_or.mp hstate
    exact ⟨_, exec_balanceUpdate o hon hperiod, fun h => absurd h hstate, fun h hu hhead =>
      ⟨fun _ hs => absurd hs hnot, fun _ hs => absurd hs hnot', fun _ hs => absurd hs hnot,
        fun _ hs => absurd hs hnot, fun _ hs => absurd hs hnot', fun _ hs => absurd hs hnot'⟩⟩

end Sys2Proof.Proofs
end

section
/-! PROOF. A commit that passes and activates its table at once (R170, R172). -/

namespace Sys2Proof.Proofs

open Sys2Proof.Machine Sys2Proof.Safety Sys2Proof.Laws

variable {s t u : State} {x : TableId} {gs : List (List Byte)} {d : TableData}

/-! ### The table put in force (R172, R173) -/

/-- The state before an activation, its shadow emptied. -/
def beforeActivation (x : TableId) (gs : List (List Byte)) (s : State) : State :=
  setShadow x .empty (setShadow x (.waiting gs .immediate) s)

/-- The state with the table put in force, its write queued and its mark cleared, before any block is told. -/
def putInForce (x : TableId) (gs : List (List Byte)) (d : TableData) (s : State) : State :=
  queueWrite x gs.flatten (setMark x false ((beforeActivation x gs s).putTable gs.flatten d))

/-- A table put in force touches the tables, STORE_FAULT's entry and its notice. -/
structure PutInForce (x : TableId) (image : List Byte) (d : TableData) (s u : State) : Prop where
  active : u.tables.active = s.tables.active.put image d
  mode : u.tables.mode = s.tables.mode
  shadows : u.tables.shadows = s.tables.shadows.set x .empty
  frame : outsideAlarms u = outsideAlarms { s with tables := u.tables }
  entries : u.alarms.entries.length = s.alarms.entries.length

theorem startWrite_eq (s : State) : startWrite s = { s with tables := { s.tables with
    writing := (startWrite s).tables.writing
    queue := (startWrite s).tables.queue } } := by
  unfold startWrite
  split <;> rfl

theorem perTable_set_set {α : Type} (v : PerTable α) (x : TableId) (a b : α) : (v.set x a).set x b = v.set x b := by
  cases x <;> rfl

theorem putInForce_spec (x : TableId) (gs : List (List Byte)) (d : TableData) (s : State) :
    PutInForce x gs.flatten d s (putInForce x gs d s) := by
  have hqueue : ∀ u, queueWrite x gs.flatten u = { u with tables := { u.tables with
      writing := (queueWrite x gs.flatten u).tables.writing
      queue := (queueWrite x gs.flatten u).tables.queue } } := by
    intro u
    unfold queueWrite
    rw [startWrite_eq]
  have hmark := outsideAlarms_stateStoreFault
    { (beforeActivation x gs s).putTable gs.flatten d with tables :=
      { ((beforeActivation x gs s).putTable gs.flatten d).tables with
        marks := ((beforeActivation x gs s).putTable gs.flatten d).tables.marks.set x false } }
  have hworked := worked_stateStoreFault (.refl
    { (beforeActivation x gs s).putTable gs.flatten d with tables :=
      { ((beforeActivation x gs s).putTable gs.flatten d).tables with
        marks := ((beforeActivation x gs s).putTable gs.flatten d).tables.marks.set x false } })
  have hentries := hworked.entries
  have htables := congrArg State.tables hmark
  have hput : putInForce x gs d s = queueWrite x gs.flatten (stateStoreFault
    { (beforeActivation x gs s).putTable gs.flatten d with tables :=
      { ((beforeActivation x gs s).putTable gs.flatten d).tables with
        marks := ((beforeActivation x gs s).putTable gs.flatten d).tables.marks.set x false } }) := rfl
  rw [hput, hqueue]
  generalize (queueWrite x gs.flatten _).tables.writing = writing
  generalize (queueWrite x gs.flatten _).tables.queue = queue
  generalize stateStoreFault _ = v at hmark hentries htables ⊢
  simp only [outsideAlarms] at htables
  refine ⟨?_, ?_, ?_, ?_, hentries⟩
  · rw [htables]
    rfl
  · rw [htables]
    rfl
  · rw [htables]
    exact perTable_set_set ..
  · have hrest := congrArg (fun u : State => { u with tables := { v.tables with writing := writing, queue := queue } })
      hmark
    exact hrest

/-! ### The commit (R170, R172, R182) -/

theorem allSegments_some (gs : List (List Byte)) : allSegments (gs.map some) = some gs := by
  induction gs with
  | nil => rfl
  | cons g gs ih => rw [List.map_cons, allSegments, ih]; rfl

theorem activateIf_waiting (hd : readTable s.surroundings x gs.flatten = .ok d) :
    activateIf .immediate (setShadow x (.waiting gs .immediate) s) x =
      setOutcome x .activated (deliver x (beforeActivation x gs s) (putInForce x gs d s)) := by
  have hshadow : (setShadow x (.waiting gs .immediate) s).tables.shadows.get x = .waiting gs .immediate := by
    cases x <;> rfl
  have hread : readTable (setShadow x .empty (setShadow x (.waiting gs .immediate) s)).surroundings x gs.flatten =
      .ok d := hd
  unfold activateIf
  rw [hshadow]
  dsimp only
  rw [if_pos rfl, activateImage]
  dsimp only
  rw [hread]
  rfl

/-- The state after the activation, the end of the event still to come. -/
def activated (x : TableId) (gs : List (List Byte)) (d : TableData) (s : State) : State :=
  setOutcome x .activated (deliver x (beforeActivation x gs s) (putInForce x gs d s))

theorem active_activated : (activated x gs d s).tables.active =
    (deliver x (beforeActivation x gs s) (putInForce x gs d s)).tables.active := rfl

/-- No table waits for QUIET where none did and one shadow is emptied. -/
theorem awaits_set_empty (hq : s.awaits .quiet = false)
    (h : t.tables.shadows = s.tables.shadows.set x .empty) : t.awaits .quiet = false := by
  simp only [State.awaits, List.any_eq_false] at hq ⊢
  intro i hi
  rw [h]
  have hget : (s.tables.shadows.set x .empty).get i = if i = x then .empty else s.tables.shadows.get i := by
    cases x <;> cases i <;> rfl
  rw [hget]
  by_cases hix : i = x
  · simp [hix]
  · rw [if_neg hix]
    exact hq i hi

theorem parseParams_tableCommit (table method : Byte) (check : BitVec 16) :
    parseParams (Request.tableCommit table method check).code (Request.tableCommit table method check).params =
      some (.tableCommit table method check) := by
  have hparse : parseParams 34 [table, method, hi16 check, lo16 check] =
      some (.tableCommit table method (join16 (hi16 check) (lo16 check))) := rfl
  rw [Request.code, Request.params, hparse, join16_hi16_lo16]

/-- An answer DONE with data in one part is one response (R182). -/
theorem respond_done (src code tag : Byte) (data : List Byte) (s : State) :
    respond src code tag false (Answer.done data) s = withReply s src code tag ([0, 0] ++ data) :=
  respond_reply src code tag (Answer.done data) s (by simp [Answer.done]) (by simp [Answer.done])

section Commit
variable {src tag table method : Byte} {check : BitVec 16} (h : Commits s src table method check x gs d)
  (hq : s.awaits .quiet = false)
  (hkeep : (deliver x (beforeActivation x gs s) (putInForce x gs d s)).tables = (putInForce x gs d s).tables)
include h hq hkeep

/-- A commit with method IMMEDIATE that passes is carried out by the activation and the end of the event. -/
theorem carryOut_tableCommit : carryOut (.tableCommit table method check) s =
    (Answer.done (flag (!(ended (activated x gs d s)).isWaiting x)), ended (activated x gs d s)) := by
  obtain ⟨htable, hmethod⟩ := h.named
  have hstandby : ¬ (x = .station ∧ s.pastStandby = true) := fun hc => by
    have hmode := h.standby hc.1
    simp [State.pastStandby, hmode] at hc
  have hquiet : (activated x gs d s).awaits .quiet = false := by
    refine awaits_set_empty (x := x) hq ?_
    change (deliver x (beforeActivation x gs s) (putInForce x gs d s)).tables.shadows = _
    rw [hkeep]
    exact (putInForce_spec x gs d s).shadows
  have hcommit : commitMethod x .immediate = .immediate := by cases x <;> rfl
  have hfinish : finishDrives (activateIf .immediate (setShadow x (.waiting gs .immediate) s) x) =
      ended (activated x gs d s) := by
    rw [activateIf_waiting h.valid]
    exact finishDrives_eq _ hquiet
  have hpassed : commitPassed x .immediate gs s =
      (Answer.done (flag (!(ended (activated x gs d s)).isWaiting x)), ended (activated x gs d s)) := by
    rw [commitPassed, hcommit, hfinish]
  have himage : commitImage x .immediate gs check s = commitPassed x .immediate gs s := by
    rw [commitImage, if_neg (not_not.mpr h.agrees), h.valid]
  rw [carryOut, doTableCommit, htable, hmethod]
  dsimp only
  rw [h.shadow]
  dsimp only
  rw [if_neg hstandby, allSegments_some]
  dsimp only
  rw [himage, hpassed]

/-- A commit with method IMMEDIATE that passes: the table activated, the end of the event, one response. -/
theorem exec_tableCommit : ∃ rest, exec (.tableCommit src tag table method check) s =
    .next (withReply (ended (activated x gs d s)) src 34 tag rest) := by
  have hdone := carryOut_tableCommit h hq hkeep
  have hrequest : exec (.tableCommit src tag table method check) s =
      .next (request src tag (.tableCommit table method check) s) := rfl
  have htaken := request_taken src tag (.tableCommit table method check) .configure
    (parseParams_tableCommit table method check) (by rw [Request.code]; decide) h.taken
  have hrestart : s.startsRestart (.tableCommit table method check) = false := by simp [State.startsRestart]
  have hcode : (Request.tableCommit table method check).code = 34 := by rw [Request.code]
  rw [hdone, hrestart, respond_done, hcode] at htaken
  exact ⟨_, by rw [hrequest, htaken]⟩

end Commit

end Sys2Proof.Proofs
end

section
/-! PROOF. Where no drive has gained a grant, the law of the slot record is kept and nothing is shed (R76, R80); what
the work of a SCREEN activation at one screen leaves (R134). -/

namespace Sys2Proof.Proofs

open Sys2Proof.Machine Sys2Proof.Safety Sys2Proof.Laws

variable {s t u v : State}

/-! ### No drive gains a grant (R76, R80) -/

/-- No drive holds a grant that it did not hold before, and what runs without one is read alike. -/
structure NoNewGrant (s t : State) : Prop where
  pumps : ∀ p, (t.pump p).state.granted = true → (s.pump p).state.granted = true
  rakes : ∀ r, (t.rake r).state.granted = true → (s.rake r).state.granted = true
  feedback : ∀ p, t.feedbackActive p = s.feedbackActive p
  current : ∀ r, (t.usableValue fun x => x.rakeCurrent.get r) = s.usableValue fun x => x.rakeCurrent.get r
  capacity : t.capacity = s.capacity

theorem length_granted_add_loose {α : Type} (g f : α → Bool) (l : List α) :
    (l.filter g).length + (l.filter fun a => !g a && f a).length = (l.filter fun a => g a || f a).length := by
  induction l with
  | nil => rfl
  | cons a l ih =>
    cases hg : g a <;> cases hf : f a <;> simp [hg, hf] <;> omega

theorem length_filter_mono {α : Type} {g f : α → Bool} (h : ∀ a, g a = true → f a = true) (l : List α) :
    (l.filter g).length ≤ (l.filter f).length := by
  rw [← List.countP_eq_length_filter, ← List.countP_eq_length_filter]
  exact List.countP_mono_left fun a _ => h a

theorem grants_add_loose (s : State) : s.grants + s.loose =
    (pumps.filter fun p => (s.pump p).state.granted || s.feedbackActive p).length +
      (sides.filter fun r => (s.rake r).state.granted ||
        decide ((s.usableValue fun t => t.rakeCurrent.get r).getD 0 ≠ 0)).length := by
  rw [← length_granted_add_loose, ← length_granted_add_loose]
  unfold State.grants State.loose State.grantedPumps State.grantedRakes State.loosePumps State.looseRakes
  omega

/-- The law of the slot record is kept where no drive gains a grant, so that nothing is shed. -/
theorem NoNewGrant.overOccupied (h : NoNewGrant s t) (hlaw : SlotLaw s) : t.overOccupied = false := by
  have hgrants : t.grants ≤ s.grants :=
    Nat.add_le_add (length_filter_mono h.pumps _) (length_filter_mono h.rakes _)
  have hoccupied : t.grants + t.loose ≤ s.grants + s.loose := by
    rw [grants_add_loose, grants_add_loose]
    refine Nat.add_le_add (length_filter_mono (fun p hp => ?_) _) (length_filter_mono (fun r hr => ?_) _)
    · rw [h.feedback, Bool.or_eq_true] at hp
      exact Bool.or_eq_true_iff.mpr (hp.imp_left (h.pumps p))
    · rw [h.current, Bool.or_eq_true] at hr
      exact Bool.or_eq_true_iff.mpr (hr.imp_left (h.rakes r))
  have hcapacity := h.capacity
  unfold State.overOccupied
  rw [Bool.and_eq_false_iff]
  rcases hlaw with hzero | hlaw
  · exact .inl (decide_eq_false (by omega))
  · exact .inr (decide_eq_false (by omega))

theorem shedCheck_eq (h : s.overOccupied = false) : shedCheck s = s :=
  foldl_fixed (fun d => by rw [h]; rfl) _

theorem feedbackActive_congr (hs : t.station = s.station) (hp : t.points = s.points) (p : Pump) :
    t.feedbackActive p = s.feedbackActive p := by
  unfold State.feedbackActive State.roleActive State.roleRec State.role State.roles State.pointRec
  rw [hs, hp]

theorem usableValue_congr (hs : t.station = s.station) (hp : t.points = s.points) (f : Roles → Option Nat) :
    t.usableValue f = s.usableValue f := by
  unfold State.usableValue State.roleRec State.role State.roles State.pointRec
  rw [hs, hp]

theorem capacity_congr (hs : t.station = s.station) (hp : t.arbiter.supply = s.arbiter.supply) :
    t.capacity = s.capacity := by
  unfold State.capacity
  rw [hs, hp]

/-! ### What the work at one rake leaves (R126 to R134) -/

/-- `t` comes of work at rake `r` that gives it no grant. -/
structure RakeWork (r : Side) (s t : State) : Prop where
  tables : t.tables = s.tables
  points : t.points = s.points
  chip : t.chip = s.chip
  supply : t.arbiter.supply = s.arbiter.supply
  gate : t.transit.gate = s.transit.gate
  screens : t.screens.screens = s.screens.screens
  pumps : ∀ p, t.pump p = s.pump p
  others : ∀ y, y ≠ r → RakeStands y s t
  interval : (t.rake r).interval = (s.rake r).interval
  granted : (t.rake r).state.granted = true → (s.rake r).state.granted = true
  entries : t.alarms.entries.length = s.alarms.entries.length
  alarm : ∀ n, 1 ≤ n → n ≠ jammedEntry r → jammedEntry r ≤ s.alarms.entries.length → t.alarm n = s.alarm n

theorem RakeWork.refl (r : Side) (s : State) : RakeWork r s s :=
  ⟨rfl, rfl, rfl, rfl, rfl, rfl, fun _ => rfl, fun y _ => .refl y s, rfl, id, rfl, fun _ _ _ _ => rfl⟩

theorem RakeWork.trans {r : Side} (h : RakeWork r s t) (h' : RakeWork r t u) : RakeWork r s u where
  tables := h'.tables.trans h.tables
  points := h'.points.trans h.points
  chip := h'.chip.trans h.chip
  supply := h'.supply.trans h.supply
  gate := h'.gate.trans h.gate
  screens := h'.screens.trans h.screens
  pumps p := (h'.pumps p).trans (h.pumps p)
  others y hy := (h.others y hy).trans (h'.others y hy)
  interval := h'.interval.trans h.interval
  granted := h.granted ∘ h'.granted
  entries := h'.entries.trans h.entries
  alarm n h1 hn hl := (h'.alarm n h1 hn (by rw [h.entries]; exact hl)).trans (h.alarm n h1 hn hl)

/-- Work at a rake of the kind that the grants do. -/
theorem RakeWork.of_outsideGrants {r : Side} (h : outsideGrants t = outsideGrants s)
    (hpumps : ∀ p, t.pump p = s.pump p) (hothers : ∀ y, y ≠ r → RakeStands y s t)
    (hgranted : (t.rake r).state.granted = true → (s.rake r).state.granted = true) : RakeWork r s t := by
  have hdrives := outsideDrives_of_outsideGrants h
  have halarms := alarms_of_outsideGrants h
  have hinterval := congrArg RakeRec.interval (rakeKeptByGrants_of_outsideGrants h r)
  refine ⟨tables_of_outsideDrives hdrives, points_of_outsideDrives hdrives, chip_of_outsideDrives hdrives, ?_,
    gate_of_outsideDrives hdrives, ?_, hpumps, hothers, hinterval, hgranted, by rw [halarms],
    fun n _ _ _ => by rw [State.alarm, halarms, State.alarm]⟩
  · simpa [outsideGrants] using congrArg (fun u : State => u.arbiter.supply) h
  · simpa [outsideGrants] using congrArg (fun u : State => u.screens.screens) h

section Rake
variable {r : Side}

theorem rakeWork_setRake {w : RakeRec} (hinterval : w.interval = (s.rake r).interval)
    (hgranted : w.state.granted = true → (s.rake r).state.granted = true) : RakeWork r s (s.setRake r w) := by
  refine ⟨rfl, rfl, rfl, rfl, rfl, rfl, fun _ => rfl, fun y hy => ⟨rake_setRake_other hy w s, rfl⟩, ?_, ?_, rfl,
    fun _ _ _ _ => rfl⟩
  · rw [State.rake_setRake_same, hinterval]
  · rw [State.rake_setRake_same]
    exact hgranted

theorem rakeWork_postRake (c : CommandCode) (s : State) : RakeWork r s (postRake r c s) :=
  .of_outsideGrants (outsideGrants_postRake r c s) (pump_postRake r c s)
    (fun y hy => .of_postsFor ((PostsFor.refl _ s).postRake c) (by simpa using hy) (rake_postRake_other hy c s))
    (by rw [rake_postRake, if_pos rfl]; exact id)

theorem rakeWork_setPreempt (b : Bool) (s : State) : RakeWork r s (setPreempt r b s) :=
  .of_outsideGrants (outsideGrants_setPreempt r b s) (fun _ => rfl) (fun _ _ => ⟨rfl, rfl⟩) id

theorem commandsFor_withdraw {a b : Actuator} (h : a ≠ b) (s : State) :
    commandsFor b (withdraw a s) = commandsFor b s := by
  have hclass : (withdraw a s).transit.actuator = s.transit.actuator.filter fun o => !o.isFor a := by
    unfold withdraw settleFairness
    split <;> rfl
  rw [commandsFor, hclass, List.filter_filter, commandsFor]
  refine List.filter_congr fun o _ => ?_
  cases hb : o.isFor b
  · rfl
  · have ha : o.isFor a = false := by
      unfold OwnFrame.isFor at hb ⊢
      split at hb <;> simp_all
      exact fun hc => h hc.symm
    rw [ha]
    rfl

theorem rakeWork_withdraw (s : State) : RakeWork r s (withdraw (.rake r) s) := by
  have hrec : (withdraw (.rake r) s).screens = s.screens ∧ (withdraw (.rake r) s).seq = s.seq := by
    unfold withdraw settleFairness
    split <;> exact ⟨rfl, rfl⟩
  obtain ⟨hscreens, hseq⟩ := hrec
  have hrake : ∀ y, (withdraw (.rake r) s).rake y = s.rake y := fun y => by rw [State.rake, hscreens, State.rake]
  exact .of_outsideGrants (outsideGrants_withdraw _ s) (fun p => by rw [State.pump, hseq, State.pump])
    (fun y hy => ⟨hrake y, commandsFor_withdraw (by simpa using hy.symm) s⟩) (by rw [hrake]; exact id)

theorem rakeWork_judgeRequest (s : State) : RakeWork r s (judgeRequest r s) := by
  unfold judgeRequest giveRequest
  split_ifs
  · exact rakeWork_setRake rfl (by simp [RakeState.granted])
  · exact .refl r s
  · exact .refl r s

theorem rakeWork_stateRakeJammed (s : State) : RakeWork r s (stateRakeJammed r s) := by
  have h := outsideAlarms_stateRakeJammed r s
  have hdrives := outsideDrives_of_outsideAlarms h
  have hscreens := screens_of_outsideAlarms h
  have hactuator : (stateRakeJammed r s).transit.actuator = s.transit.actuator := by
    simpa [outsideAlarms] using congrArg (fun u : State => u.transit.actuator) h
  have hrake : ∀ y, (stateRakeJammed r s).rake y = s.rake y := fun y => by rw [State.rake, hscreens, State.rake]
  refine ⟨tables_of_outsideDrives hdrives, points_of_outsideDrives hdrives, chip_of_outsideDrives hdrives,
    by rw [arbiter_of_outsideAlarms h], gate_of_outsideDrives hdrives, by rw [hscreens],
    fun p => by rw [State.pump, seq_of_outsideAlarms h, State.pump],
    fun y _ => ⟨hrake y, by rw [commandsFor, hactuator, commandsFor]⟩, by rw [hrake], by rw [hrake]; exact id,
    (worked_stateRakeJammed (.refl s) r).entries, fun n h1 hn hl => ?_⟩
  exact alarm_stateCondition_ne ⟨by cases r <;> simp [jammedEntry], hl⟩ h1 hn _

theorem rakeWork_judgeRakeMode (s : State) : RakeWork r s (judgeRakeMode r s) := by
  have hleave : ∀ st : RakeState, st.granted = false → RakeWork r s (rakeLeavesAuto r st s) := fun st hst =>
    ((rakeWork_setRake (w := (s.rake r).rest st) rfl (by simp [RakeRec.rest, hst])).trans
      (rakeWork_withdraw _)).trans (rakeWork_setPreempt false _)
  have hset : ∀ st : RakeState, st.granted = false → RakeWork r s (s.setRake r { s.rake r with state := st }) :=
    fun st hst => rakeWork_setRake rfl (by simp [hst])
  have hplace : RakeWork r s (placeRake r s) := by
    unfold placeRake
    split_ifs
    · exact (hset .jammed rfl).trans (rakeWork_postRake ..)
    · exact ((hset .idle rfl).trans (rakeWork_postRake ..)).trans (rakeWork_judgeRequest _)
  unfold judgeRakeMode
  dsimp only
  split
  · exact hleave .hand rfl
  · exact (hleave .off rfl).trans (rakeWork_postRake ..)
  · exact (hset .off rfl).trans (rakeWork_postRake ..)
  · exact (hset .hand rfl).trans (rakeWork_withdraw _)
  · exact hplace
  · exact hplace
  · exact .refl r s
  · exact .refl r s
  · exact .refl r s

/-! ### The rake's timers (R129, R130, R134) -/

theorem rakeWork_judgeJamTimer (s : State) : RakeWork r s (judgeJamTimer r s) := by
  unfold judgeJamTimer
  dsimp only
  split_ifs
  · exact .refl r s
  · exact rakeWork_setRake rfl id
  · exact rakeWork_setRake rfl id
  · exact .refl r s

theorem rakeWork_suspectJam (hstate : (s.rake r).state = .raking) (c : JamCause) :
    RakeWork r s (suspectJam r c s) :=
  (rakeWork_setRake
    (w := { s.rake r with state := .reversing, cause := c, travel := none, jam := none, reverse := some s.now }) rfl
    fun _ => by rw [hstate]; rfl).trans (rakeWork_postRake ..)

theorem rakeWork_travelExpired (s : State) : RakeWork r s (travelExpired r s) := by
  unfold travelExpired
  split
  · next h => exact rakeWork_suspectJam h.1 _
  · exact .refl r s

theorem rakeWork_jamCurrentReached (s : State) : RakeWork r s (jamCurrentReached r s) := by
  unfold jamCurrentReached
  split
  · next h => exact rakeWork_suspectJam h.1 _
  · exact .refl r s

theorem rakeWork_reverseExpired (s : State) : RakeWork r s (reverseExpired r s) := by
  unfold reverseExpired enterJammed
  dsimp only
  split_ifs with h
  · exact ((rakeWork_setRake (w := { s.rake r with
      state := .raking, attempts := (s.rake r).attempts + 1, reverse := none, travel := some s.now }) rfl
      fun _ => by rw [h.1]; rfl).trans (rakeWork_postRake ..)).trans
      (rakeWork_judgeJamTimer _)
  · exact ((rakeWork_setRake (w := { s.rake r with
      state := .jammed, latch := some (s.rake r).cause, travel := none, jam := none, reverse := none }) rfl
      (by simp [RakeState.granted])).trans (rakeWork_postRake ..)).trans
      (rakeWork_stateRakeJammed _)
  · exact .refl r s

theorem RakeWork.guarded {c : State → Bool} {f : State → State} (h : RakeWork r s t) (hf : ∀ u, RakeWork r u (f u)) :
    RakeWork r s (guarded c f t) := by
  unfold Machine.guarded
  split
  · exact h.trans (hf t)
  · exact h

theorem rakeWork_compareRakeTimers (s : State) : RakeWork r s (compareRakeTimers r s) := by
  unfold compareRakeTimers
  split
  · exact .refl r s
  · exact (((rakeWork_judgeJamTimer s).guarded rakeWork_travelExpired).guarded rakeWork_jamCurrentReached).guarded
      rakeWork_reverseExpired

end Rake
end Sys2Proof.Proofs
end

section
/-! PROOF. A SCREEN table put in force: each screen's work, one after the other, and the end of the event (R134). -/

namespace Sys2Proof.Proofs

open Sys2Proof.Machine Sys2Proof.Safety Sys2Proof.Laws

variable {s t u v : State}

/-! ### Every table but STATION leaves the slot record's readings (R76) -/

/-- A table other than STATION put in force leaves the STATION table. -/
theorem PutInForce.station {x : TableId} {image : List Byte} {d : TableData} (h : PutInForce x image d s u)
    (hd : tableOf d ≠ .station) : u.station = s.station := by
  rw [State.station, h.active, State.station]
  cases d <;> simp_all [ActiveTables.put, tableOf]

section PutInForce
variable {x : TableId} {image : List Byte} {d : TableData} (h : PutInForce x image d s u)
include h

theorem PutInForce.drives : u.seq = s.seq ∧ u.screens = s.screens ∧ u.arbiter = s.arbiter ∧ u.points = s.points ∧
    u.chip = s.chip ∧ u.flow = s.flow := by
  have hdrives := outsideDrives_of_outsideAlarms h.frame
  refine ⟨(seq_of_outsideAlarms h.frame).trans rfl, (screens_of_outsideAlarms h.frame).trans rfl,
    (arbiter_of_outsideAlarms h.frame).trans rfl, (points_of_outsideDrives hdrives).trans rfl,
    (chip_of_outsideDrives hdrives).trans rfl, ?_⟩
  simpa [outsideAlarms] using congrArg State.flow h.frame

theorem PutInForce.pump (p : Pump) : u.pump p = s.pump p := by rw [State.pump, h.drives.1, State.pump]

theorem PutInForce.rake (r : Side) : u.rake r = s.rake r := by rw [State.rake, h.drives.2.1, State.rake]

theorem PutInForce.screen (r : Side) : u.screen r = s.screen r := by rw [State.screen, h.drives.2.1, State.screen]

theorem PutInForce.noNewGrant (hd : tableOf d ≠ .station) : NoNewGrant s u := by
  obtain ⟨_, _, harbiter, hpoints, _, _⟩ := h.drives
  exact ⟨fun p hp => by rwa [h.pump] at hp, fun r hr => by rwa [h.rake] at hr,
    feedbackActive_congr (h.station hd) hpoints, fun _ => usableValue_congr (h.station hd) hpoints _,
    capacity_congr (h.station hd) (by rw [harbiter])⟩

theorem PutInForce.automatic : u.automatic = s.automatic := by rw [State.automatic, h.mode, State.automatic]

end PutInForce

theorem NoNewGrant.trans (h : NoNewGrant s t) (h' : NoNewGrant t u) : NoNewGrant s u where
  pumps p := h.pumps p ∘ h'.pumps p
  rakes r := h.rakes r ∘ h'.rakes r
  feedback p := (h'.feedback p).trans (h.feedback p)
  current r := (h'.current r).trans (h.current r)
  capacity := h'.capacity.trans h.capacity

/-- A rake that does not wait stands over the end of the event where no drive has gained a grant. -/
theorem NoNewGrant.rakeStands_ended {r : Side} (h : NoNewGrant s t) (hlaw : SlotLaw s)
    (hr : (t.rake r).state ≠ .waitSlot) : RakeStands r t (ended t) := by
  have hsettled : settleDrives t = grantPass t := by rw [settleDrives, shedCheck_eq (h.overOccupied hlaw)]
  have hpass := rakeStands_grantPass hr
  refine ⟨?_, ?_⟩
  · rw [rake_ended, hsettled]
    exact hpass.rake
  · rw [ended, commandsFor_finishAlarms (by simp), hsettled]
    exact hpass.commands

theorem interval_ended (r : Side) (s : State) : ((ended s).rake r).interval = (s.rake r).interval := by
  rw [rake_ended]
  have h := congrArg RakeRec.interval (rakeKeptByGrants_of_outsideGrants (outsideGrants_settleDrives s) r)
  exact h

theorem screen_ended (r : Side) (s : State) : (ended s).screen r = s.screen r := by
  have hscreens : (settleDrives s).screens.screens = s.screens.screens := by
    simpa [outsideGrants] using congrArg (fun u : State => u.screens.screens) (outsideGrants_settleDrives s)
  rw [State.screen, screens_ended, hscreens, State.screen]

theorem alarm_ended (n : Nat) (s : State) : (ended s).alarm n = s.alarm n := by
  rw [State.alarm, entries_ended, State.alarm]

/-! ### What the work at one screen leaves (R134) -/

/-- `t` comes of work at screen `r` and its rake that gives the rake no grant. -/
structure ScreenWork (r : Side) (s t : State) : Prop where
  tables : t.tables = s.tables
  points : t.points = s.points
  chip : t.chip = s.chip
  supply : t.arbiter.supply = s.arbiter.supply
  gate : t.transit.gate = s.transit.gate
  pumps : ∀ p, t.pump p = s.pump p
  others : ∀ y, y ≠ r → RakeStands y s t ∧ t.screen y = s.screen y
  granted : (t.rake r).state.granted = true → (s.rake r).state.granted = true
  entries : t.alarms.entries.length = s.alarms.entries.length
  alarm : ∀ n, 1 ≤ n → n ≠ jammedEntry r → n ≠ blindedEntry r → s.alarms.entries.length = 73 → t.alarm n = s.alarm n

theorem ScreenWork.refl (r : Side) (s : State) : ScreenWork r s s :=
  ⟨rfl, rfl, rfl, rfl, rfl, fun _ => rfl, fun y _ => ⟨.refl y s, rfl⟩, id, rfl, fun _ _ _ _ _ => rfl⟩

theorem ScreenWork.trans {r : Side} (h : ScreenWork r s t) (h' : ScreenWork r t u) : ScreenWork r s u where
  tables := h'.tables.trans h.tables
  points := h'.points.trans h.points
  chip := h'.chip.trans h.chip
  supply := h'.supply.trans h.supply
  gate := h'.gate.trans h.gate
  pumps p := (h'.pumps p).trans (h.pumps p)
  others y hy := ⟨(h.others y hy).1.trans (h'.others y hy).1, (h'.others y hy).2.trans (h.others y hy).2⟩
  granted := h.granted ∘ h'.granted
  entries := h'.entries.trans h.entries
  alarm n h1 hj hb hl := (h'.alarm n h1 hj hb (h.entries.trans hl)).trans (h.alarm n h1 hj hb hl)

theorem jammedEntry_le (r : Side) : jammedEntry r ≤ 73 := by cases r <;> simp [jammedEntry]

theorem blindedEntry_listed {r : Side} (h : s.alarms.entries.length = 73) : Listed s (blindedEntry r) :=
  ⟨by cases r <;> simp [blindedEntry], by rw [h]; cases r <;> simp [blindedEntry]⟩

theorem RakeWork.screenWork {r : Side} (h : RakeWork r s t) : ScreenWork r s t where
  tables := h.tables
  points := h.points
  chip := h.chip
  supply := h.supply
  gate := h.gate
  pumps := h.pumps
  others y hy := ⟨h.others y hy, by rw [State.screen, h.screens, State.screen]⟩
  granted := h.granted
  entries := h.entries
  alarm n h1 hj _ hl := h.alarm n h1 hj (by rw [hl]; exact jammedEntry_le r)

theorem screenWork_setScreen (r : Side) (w : ScreenRec) (s : State) : ScreenWork r s (s.setScreen r w) :=
  ⟨rfl, rfl, rfl, rfl, rfl, fun _ => rfl,
    fun _ hy => ⟨⟨rfl, rfl⟩, (State.screen_setScreen ..).trans (if_neg hy)⟩, id, rfl, fun _ _ _ _ _ => rfl⟩

theorem screenWork_blinded (r : Side) (b : Bool) (s : State) :
    ScreenWork r s (stateCondition (blindedEntry r) b s) := by
  have h := outsideAlarms_stateCondition (blindedEntry r) b s
  have hdrives := outsideDrives_of_outsideAlarms h
  have hscreens := screens_of_outsideAlarms h
  have hactuator : (stateCondition (blindedEntry r) b s).transit.actuator = s.transit.actuator := by
    simpa [outsideAlarms] using congrArg (fun u : State => u.transit.actuator) h
  have hrake : ∀ y, (stateCondition (blindedEntry r) b s).rake y = s.rake y := fun y => by
    rw [State.rake, hscreens, State.rake]
  refine ⟨tables_of_outsideDrives hdrives, points_of_outsideDrives hdrives, chip_of_outsideDrives hdrives,
    by rw [arbiter_of_outsideAlarms h], gate_of_outsideDrives hdrives,
    fun p => by rw [State.pump, seq_of_outsideAlarms h, State.pump],
    fun y _ => ⟨⟨hrake y, by rw [commandsFor, hactuator, commandsFor]⟩, by rw [State.screen, hscreens, State.screen]⟩,
    by rw [hrake]; exact id, (worked_stateCondition (.refl s) _ _).entries, fun n h1 _ hb hl => ?_⟩
  exact alarm_stateCondition_ne (blindedEntry_listed hl) h1 hb _

theorem screenWork_screenActivated (old : State) (r : Side) (s : State) :
    ScreenWork r s (screenActivated old r s) := by
  unfold screenActivated
  split
  · exact ((rakeWork_judgeRakeMode s).trans (rakeWork_compareRakeTimers _)).screenWork
  · exact ((screenWork_setScreen ..).trans (screenWork_blinded ..)).trans (rakeWork_judgeRakeMode _).screenWork
  · exact (screenWork_setScreen ..).trans (rakeWork_judgeRakeMode _).screenWork
  · exact .refl r s

/-- Each screen has its turn; before it and after it there is work at the other one only. -/
theorem eachSide_around {f : Side → State → State} (hf : ∀ y u, ScreenWork y u (f y u)) (r : Side) (s : State) :
    ∃ b y, y ≠ r ∧ ScreenWork y s b ∧ ScreenWork y (f r b) (eachSide f s) := by
  cases r with
  | a => exact ⟨s, .b, by decide, .refl .b s, hf .b (f .a s)⟩
  | b => exact ⟨f .a s, .a, by decide, hf .a s, .refl .a _⟩

theorem ScreenWork.noNewGrant {r : Side} (h : ScreenWork r s t) : NoNewGrant s t := by
  have hstation : t.station = s.station := by rw [State.station, h.tables, State.station]
  refine ⟨fun p hp => by rwa [h.pumps] at hp, fun y hy => ?_, feedbackActive_congr hstation h.points,
    fun _ => usableValue_congr hstation h.points _, capacity_congr hstation h.supply⟩
  by_cases hyr : y = r
  · subst hyr
    exact h.granted hy
  · rwa [(h.others y hyr).1.rake] at hy

/-! ### The rake of a screen removed, and of a screen kept (R126, R134) -/

theorem mode_hand_iff (st : RakeState) : st.mode = .hand ↔ st = .hand := by cases st <;> simp [RakeState.mode]

theorem screen_of_rakeWork {r : Side} (h : RakeWork r s t) (y : Side) : t.screen y = s.screen y := by
  rw [State.screen, h.screens, State.screen]

/-- A rake that goes out of service is in HAND. -/
theorem state_judgeRakeMode_hand {r : Side} (h : s.rakeTargetMode r = .hand) :
    ((judgeRakeMode r s).rake r).state = .hand := by
  have hset : ∀ w : RakeRec, w.state = .hand → ((withdraw (.rake r) (s.setRake r w)).rake r).state = .hand :=
    fun w hw => by rw [rake_withdraw, State.rake_setRake_same, hw]
  unfold judgeRakeMode
  dsimp only
  rw [h]
  split
  · exact hset _ rfl
  · contradiction
  · contradiction
  · exact hset _ rfl
  · contradiction
  · contradiction
  · contradiction
  · next hmode _ => exact (mode_hand_iff _).mp hmode
  · contradiction

/-- A rake whose mode is to be the one it has stands. -/
theorem judgeRakeMode_eq {r : Side} (h : s.rakeTargetMode r = (s.rake r).state.mode) : judgeRakeMode r s = s := by
  unfold judgeRakeMode
  dsimp only
  rw [h]
  cases (s.rake r).state.mode <;> rfl

theorem reached_none (n : Nat) (s : State) : s.reached n none = false := rfl

theorem reached_some (n since : Nat) (s : State) : s.reached n (some since) = decide (n ≤ s.now - since) := rfl

/-- A rake's travel timer past its limit: a jam is suspected, and no other timer is reached. -/
theorem compareRakeTimers_travel {r : Side} {d' : ScreenDef} {since : Nat} (hdef : s.screenDef r = some d')
    (hstate : (s.rake r).state = .raking) (htravel : (s.rake r).travel = some since)
    (hlimit : d'.travelLimit ≤ s.now - since) (hreverse : 0 < d'.reverseTime) :
    ∃ j, compareRakeTimers r s = suspectJam r .travel (s.setRake r { s.rake r with jam := j }) := by
  have hself : s.setRake r { s.rake r with jam := (s.rake r).jam } = s := by
    cases r <;> rfl
  have hjudge : ∃ j, judgeJamTimer r s = s.setRake r { s.rake r with jam := j } := by
    unfold judgeJamTimer
    dsimp only
    rw [if_pos hstate]
    split_ifs
    · exact ⟨_, hself.symm⟩
    · exact ⟨_, rfl⟩
    · exact ⟨_, rfl⟩
  obtain ⟨j, hj⟩ := hjudge
  refine ⟨j, ?_⟩
  generalize hu : s.setRake r { s.rake r with jam := j } = u at hj ⊢
  have hrake : u.rake r = { s.rake r with jam := j } := by rw [← hu, State.rake_setRake_same]
  have hnow : u.now = s.now := by rw [← hu]; rfl
  have hreached : u.reached d'.travelLimit (u.rake r).travel = true := by
    rw [hrake, htravel, reached_some, hnow]
    exact decide_eq_true hlimit
  have hexpired : travelExpired r u = suspectJam r .travel u := by
    rw [travelExpired, if_pos (by rw [hrake]; exact ⟨hstate, by rw [htravel]; rfl⟩)]
  have hsuspected : (suspectJam r .travel u).rake r = { u.rake r with
      state := .reversing, cause := .travel, travel := none, jam := none, reverse := some u.now
      command := .runReverse, confirmed := false } := by
    rw [suspectJam, rake_postRake, if_pos rfl, State.rake_setRake_same]
  have hnow' : (suspectJam r .travel u).now = u.now := by
    rw [State.now, (rakeWork_suspectJam (by rw [hrake]; exact hstate) _).chip, State.now]
  have hjam : (suspectJam r .travel u).reached d'.jamDelay ((suspectJam r .travel u).rake r).jam = false := by
    rw [hsuspected, reached_none]
  have hback : (suspectJam r .travel u).reached d'.reverseTime ((suspectJam r .travel u).rake r).reverse =
      false := by
    rw [hsuspected, reached_some, hnow', Nat.sub_self]
    exact decide_eq_false (by omega)
  unfold compareRakeTimers
  rw [hdef, hj]
  simp only [guarded, hreached, hexpired, hjam, hback, if_true, Bool.false_eq_true, if_false]

/-- The rake whose jam is suspected by the travel limit: REVERSING from now, its command posted. -/
structure Suspected (r : Side) (s t : State) : Prop where
  state : (t.rake r).state = .reversing
  cause : (t.rake r).cause = .travel
  reverse : (t.rake r).reverse = some s.now
  travel : (t.rake r).travel = none
  jam : (t.rake r).jam = none
  attempts : (t.rake r).attempts = (s.rake r).attempts
  posted : Posted t (.rake r) .runReverse

theorem suspected_compareRakeTimers {r : Side} {d' : ScreenDef} {since : Nat} (hdef : s.screenDef r = some d')
    (hstate : (s.rake r).state = .raking) (htravel : (s.rake r).travel = some since)
    (hlimit : d'.travelLimit ≤ s.now - since) (hreverse : 0 < d'.reverseTime) :
    Suspected r s (compareRakeTimers r s) := by
  obtain ⟨j, hj⟩ := compareRakeTimers_travel hdef hstate htravel hlimit hreverse
  have hrake : (compareRakeTimers r s).rake r = { s.rake r with
      state := .reversing, cause := .travel, travel := none, jam := none, reverse := some s.now
      command := .runReverse, confirmed := false } := by
    rw [hj, suspectJam, rake_postRake, if_pos rfl, State.rake_setRake_same, State.rake_setRake_same]
    rfl
  have hposted : Posted (compareRakeTimers r s) (.rake r) .runReverse := by
    rw [hj, suspectJam]
    exact fun h => posted_postRake _ _ _ h
  refine ⟨?_, ?_, ?_, ?_, ?_, ?_, hposted⟩
  all_goals rw [hrake]

/-- What is suspected at a rake stays so while the rake and its commands stand. -/
theorem Suspected.stands {r : Side} (h : Suspected r s t) (hstands : RakeStands r t u)
    (hgate : u.transit.gate = t.transit.gate) : Suspected r s u := by
  obtain ⟨state, cause, reverse, travel, jam, attempts, posted⟩ := h
  have hrake := hstands.rake
  refine ⟨?_, ?_, ?_, ?_, ?_, ?_, posted_congr hstands.commands hgate posted⟩
  all_goals rw [hrake]; assumption

/-! ### One screen's activation, by its definition before and after (R134) -/

/-- What a SCREEN activation does at one screen, `a` the state the event meets, `s` before its turn. -/
structure ScreenTaken (a : State) (r : Side) (s t : State) : Prop where
  removed : (a.screenDef r).isSome = true → s.screenDef r = none →
    t.screen r = ScreenRec.start ∧ (t.rake r).state = .hand ∧ (t.alarm (blindedEntry r)).condition = false
  defined : a.screenDef r = none → (s.screenDef r).isSome = true → t.screen r = ScreenRec.start
  kept : (a.screenDef r).isSome = true → (s.screenDef r).isSome = true →
    t.screen r = s.screen r ∧ (t.rake r).interval = (s.rake r).interval
  travel : ∀ d' since, (a.screenDef r).isSome = true → s.screenDef r = some d' →
    s.rakeTargetMode r = .auto → (s.rake r).state = .raking → (s.rake r).travel = some since →
    d'.travelLimit ≤ s.now - since → 0 < d'.reverseTime → Suspected r s t

theorem screenTaken (hl : s.alarms.entries.length = 73) (a : State) (r : Side) :
    ScreenTaken a r s (screenActivated a r s) where
  removed ha hs := by
    obtain ⟨_, ha⟩ := Option.isSome_iff_exists.mp ha
    have htarget : (stateCondition (blindedEntry r) false (s.setScreen r ScreenRec.start)).rakeTargetMode r =
        .hand := by
      have hdef : (stateCondition (blindedEntry r) false (s.setScreen r ScreenRec.start)).screenDef r = none := by
        rw [State.screenDef, State.screenTable, (screenWork_blinded r false _).tables]
        exact hs
      simp [State.rakeTargetMode, State.inService, hdef]
    have hcondition : ((stateCondition (blindedEntry r) false (s.setScreen r ScreenRec.start)).alarm
        (blindedEntry r)).condition = false :=
      condition_stateCondition (blindedEntry_listed (s := s.setScreen r ScreenRec.start) hl) false
    have hlength := (screenWork_blinded r false (s.setScreen r ScreenRec.start)).entries
    have hscreen : (stateCondition (blindedEntry r) false (s.setScreen r ScreenRec.start)).screen r =
        ScreenRec.start := by
      have hscreens := screens_of_outsideAlarms (outsideAlarms_stateCondition (blindedEntry r) false
        (s.setScreen r ScreenRec.start))
      rw [State.screen, hscreens, ← State.screen, State.screen_setScreen, if_pos rfl]
    have heq : screenActivated a r s =
        judgeRakeMode r (stateCondition (blindedEntry r) false (s.setScreen r ScreenRec.start)) := by
      rw [screenActivated, ha, hs]
    rw [heq]
    generalize stateCondition (blindedEntry r) false (s.setScreen r ScreenRec.start) = v at *
    have hwork := rakeWork_judgeRakeMode (r := r) v
    refine ⟨(screen_of_rakeWork hwork r).trans hscreen, state_judgeRakeMode_hand htarget, ?_⟩
    have hlen : v.alarms.entries.length = 73 := hlength.trans hl
    rw [hwork.alarm _ (by cases r <;> simp [blindedEntry]) (by cases r <;> simp [blindedEntry, jammedEntry])
      (by rw [hlen]; exact jammedEntry_le r)]
    exact hcondition
  defined ha hs := by
    obtain ⟨_, hs⟩ := Option.isSome_iff_exists.mp hs
    have heq : screenActivated a r s = judgeRakeMode r (s.setScreen r ScreenRec.start) := by
      rw [screenActivated, ha, hs]
    rw [heq, screen_of_rakeWork (rakeWork_judgeRakeMode _), State.screen_setScreen, if_pos rfl]
  kept ha hs := by
    obtain ⟨_, ha⟩ := Option.isSome_iff_exists.mp ha
    obtain ⟨_, hs⟩ := Option.isSome_iff_exists.mp hs
    have heq : screenActivated a r s = compareRakeTimers r (judgeRakeMode r s) := by
      rw [screenActivated, ha, hs]
    have hwork := (rakeWork_judgeRakeMode (r := r) s).trans (rakeWork_compareRakeTimers _)
    rw [heq]
    exact ⟨screen_of_rakeWork hwork r, hwork.interval⟩
  travel d' since ha hs htarget hstate htravel hlimit hreverse := by
    obtain ⟨_, ha⟩ := Option.isSome_iff_exists.mp ha
    have heq : screenActivated a r s = compareRakeTimers r s := by
      rw [screenActivated, ha, hs]
      dsimp only
      rw [judgeRakeMode_eq (by rw [htarget, hstate]; rfl)]
    rw [heq]
    exact suspected_compareRakeTimers hs hstate htravel hlimit hreverse

/-! ### A SCREEN activation (R134) -/

theorem screenDef_congr (h : t.tables.active = s.tables.active) (r : Side) : t.screenDef r = s.screenDef r := by
  rw [State.screenDef, State.screenTable, h, State.screenDef, State.screenTable]

theorem noNewGrant_eachSide {f : Side → State → State} (hf : ∀ y u, ScreenWork y u (f y u)) (s : State) :
    NoNewGrant s (eachSide f s) ∧ (eachSide f s).tables = s.tables := by
  have ha := hf .a s
  have hb := hf .b (f .a s)
  exact ⟨ha.noNewGrant.trans hb.noNewGrant, hb.tables.trans ha.tables⟩

/-- What stands after a screen's turn stands at the end of the event, the screen's records being left. -/
theorem ScreenTaken.stands {r : Side} {a b w : State} (h : ScreenTaken a r b v) (hstands : RakeStands r v w)
    (hscreen : w.screen r = v.screen r) (hgate : w.transit.gate = v.transit.gate)
    (halarm : w.alarm (blindedEntry r) = v.alarm (blindedEntry r)) (hgrant : NoNewGrant s w) (hlaw : SlotLaw s) :
    ScreenTaken a r b (ended w) := by
  have hkept : (ended w).screen r = v.screen r := (screen_ended r w).trans hscreen
  have hend : (v.rake r).state ≠ .waitSlot → RakeStands r v (ended w) := fun hr =>
    hstands.trans (hgrant.rakeStands_ended hlaw (by rwa [hstands.rake]))
  have hgate' : (ended w).transit.gate = v.transit.gate :=
    (gate_of_outsideDrives (outsideDrives_ended w)).trans hgate
  refine ⟨fun ha hb => ?_, fun ha hb => hkept.trans (h.defined ha hb), fun ha hb => ?_,
    fun d' since ha hb htarget hstate htravel hlimit hreverse => ?_⟩
  · obtain ⟨hstart, hhand, hclear⟩ := h.removed ha hb
    refine ⟨hkept.trans hstart, ?_, ?_⟩
    · rw [(hend (by rw [hhand]; decide)).rake]
      exact hhand
    · rw [alarm_ended, halarm]
      exact hclear
  · obtain ⟨hsame, hinterval⟩ := h.kept ha hb
    refine ⟨hkept.trans hsame, ?_⟩
    rw [interval_ended, hstands.rake]
    exact hinterval
  · have hsuspected := h.travel d' since ha hb htarget hstate htravel hlimit hreverse
    exact hsuspected.stands (hend (by rw [hsuspected.state]; decide)) hgate'

/-- A SCREEN activation and the end of its event, at each screen. -/
theorem screenTaken_ended {image : List Byte} {d : TableData} {a : State} (hput : PutInForce .screen image d s u)
    (hd : tableOf d = .screen) (hlaw : SlotLaw s) (hl : s.alarms.entries.length = 73) (r : Side) :
    ∃ b, RakeStands r u b ∧ b.screen r = u.screen r ∧ b.tables = u.tables ∧ b.chip = u.chip ∧
      ScreenTaken a r b (ended (setOutcome .screen .activated (eachSide (screenActivated a) u))) := by
  obtain ⟨b, y, hy, hbefore, hafter⟩ := eachSide_around (screenWork_screenActivated a) r u
  obtain ⟨hstands, hscreen⟩ := hbefore.others r hy.symm
  have hgrant := (hput.noNewGrant (by rw [hd]; decide)).trans
    (noNewGrant_eachSide (screenWork_screenActivated a) u).1
  have hbl : b.alarms.entries.length = 73 := hbefore.entries.trans (hput.entries.trans hl)
  have hvl : (screenActivated a r b).alarms.entries.length = 73 :=
    (screenWork_screenActivated a r b).entries.trans hbl
  refine ⟨b, hstands, hscreen, hbefore.tables, hbefore.chip, ?_⟩
  obtain ⟨hstands', hscreen'⟩ := hafter.others r hy.symm
  have halarm := hafter.alarm (blindedEntry r) (by cases r <;> simp [blindedEntry])
    (by cases r <;> cases y <;> simp [blindedEntry, jammedEntry])
    (by cases r <;> cases y <;> simp_all [blindedEntry]) hvl
  exact (screenTaken hbl a r).stands (w := setOutcome .screen .activated (eachSide (screenActivated a) u))
    ⟨hstands'.rake, hstands'.commands⟩ hscreen' hafter.gate halarm
    ⟨hgrant.pumps, hgrant.rakes, hgrant.feedback, hgrant.current, hgrant.capacity⟩ hlaw

/-- A commit of a SCREEN table: its two screens and their rakes, one by one (R134, R124). -/
theorem screenCommit {src tag table method : Byte} {check : BitVec 16} {gs : List (List Byte)} {d : TableData}
    (hquiet : s.awaits .quiet = false) (hl : s.alarms.entries.length = 73) (hlaw : SlotLaw s)
    (h : Commits s src table method check .screen gs d) :
    ∃ t, exec (.tableCommit src tag table method check) s = .next t ∧ ∀ r,
      ((s.screenDef r).isSome = true → t.screenDef r = none →
        t.screen r = ⟨none, false, false⟩ ∧ (t.rake r).state = .hand ∧
        (t.alarm (blindedEntry r)).condition = false) ∧
      (s.screenDef r = none → (t.screenDef r).isSome = true → t.screen r = ⟨none, false, false⟩) ∧
      ∀ d', (s.screenDef r).isSome = true → t.screenDef r = some d' →
        t.screen r = s.screen r ∧ (t.rake r).interval = (s.rake r).interval ∧
        ∀ since, s.automatic = true → s.inService r = true → (s.rake r).mgmt = .auto →
          (s.rake r).state = .raking → (s.rake r).travel = some since →
          d'.travelLimit ≤ s.now - since → 0 < d'.reverseTime → Suspected r s t := by
  have hd : tableOf d = .screen := tableOf_readTable h.valid
  have hput := putInForce_spec .screen gs d s
  have htables := (noNewGrant_eachSide (screenWork_screenActivated (beforeActivation .screen gs s))
    (putInForce .screen gs d s)).2
  obtain ⟨rest, hexec⟩ := exec_tableCommit (tag := tag) h hquiet htables
  have hturns : ∀ r, ∃ b, RakeStands r (putInForce .screen gs d s) b ∧
      b.screen r = (putInForce .screen gs d s).screen r ∧ b.tables = (putInForce .screen gs d s).tables ∧
      b.chip = (putInForce .screen gs d s).chip ∧
      ScreenTaken (beforeActivation .screen gs s) r b (ended (activated .screen gs d s)) :=
    fun r => screenTaken_ended hput hd hlaw hl r
  have hactive : (ended (activated .screen gs d s)).tables.active = (putInForce .screen gs d s).tables.active := by
    rw [tables_of_outsideDrives (outsideDrives_ended _), active_activated]
    exact congrArg Tables.active htables
  generalize ended (activated .screen gs d s) = e at hexec hturns hactive
  generalize putInForce .screen gs d s = u at hput hturns hactive
  refine ⟨_, hexec, fun r => ?_⟩
  obtain ⟨b, hstands, hscreen, hbtables, hbchip, htaken⟩ := hturns r
  have hdef : (withReply e src 34 tag rest).screenDef r = b.screenDef r :=
    screenDef_congr (by rw [hbtables]; exact hactive) r
  obtain ⟨removed, defined, kept, travel⟩ := htaken
  rw [hdef]
  refine ⟨removed, defined, fun d' hs hb => ?_⟩
  obtain ⟨hsame, hinterval⟩ := kept hs (by rw [hb]; rfl)
  refine ⟨hsame.trans (hscreen.trans (hput.screen r)), ?_, fun since hauto hservice hmgmt hstate htravel hlimit
    hreverse => ?_⟩
  · rw [hstands.rake, hput.rake] at hinterval
    exact hinterval
  · have hstation : b.station = s.station := by
      rw [State.station, hbtables, ← State.station, hput.station (by rw [hd]; decide)]
    have hautomatic : b.automatic = s.automatic := by
      rw [State.automatic, hbtables, ← State.automatic, hput.automatic]
    have htarget : b.rakeTargetMode r = .auto := by
      rw [State.inService, Bool.and_eq_true] at hservice
      rw [State.rakeTargetMode, State.inService, hautomatic, hauto, hb, hstation, hservice.2, hstands.rake,
        hput.rake, hmgmt]
      rfl
    have hrake : b.rake r = s.rake r := hstands.rake.trans (hput.rake r)
    have hnow : b.now = s.now := by rw [State.now, hbchip, hput.drives.2.2.2.2.1, State.now]
    obtain ⟨state, cause, reverse, travel, jam, attempts, posted⟩ := travel d' since hs hb htarget
      (by rw [hrake]; exact hstate) (by rw [hrake]; exact htravel) (by rw [hnow]; exact hlimit) hreverse
    rw [hnow] at reverse
    rw [hrake] at attempts
    exact ⟨state, cause, reverse, travel, jam, attempts, posted⟩

end Sys2Proof.Proofs
end

section
/-! PROOF. Work at one pump by its protection, and what the end of the event leaves of a pump (R79, R115 to R117). -/

namespace Sys2Proof.Proofs

open Sys2Proof.Machine Sys2Proof.Safety Sys2Proof.Laws

variable {s t u v : State} {p q : Pump}

/-! ### What the work at one pump leaves -/

/-- A pump's record and the commands that wait for it stand. -/
structure PumpStands (p : Pump) (s t : State) : Prop where
  pump : t.pump p = s.pump p
  commands : commandsFor (.pump p) t = commandsFor (.pump p) s

theorem PumpStands.refl (p : Pump) (s : State) : PumpStands p s s := ⟨rfl, rfl⟩

theorem PumpStands.trans (h : PumpStands p s t) (h' : PumpStands p t u) : PumpStands p s u :=
  ⟨h'.pump.trans h.pump, h'.commands.trans h.commands⟩

/-- `t` comes of work at pump `p`: its record, the orders, the stagger, its commands and its two entries. -/
structure PumpWork (p : Pump) (s t : State) : Prop where
  tables : t.tables = s.tables
  points : t.points = s.points
  chip : t.chip = s.chip
  supply : t.arbiter.supply = s.arbiter.supply
  gate : t.transit.gate = s.transit.gate
  screens : t.screens = s.screens
  others : ∀ q, q ≠ p → PumpStands q s t
  entries : t.alarms.entries.length = s.alarms.entries.length
  alarm : ∀ n, 1 ≤ n → n ≠ trippedEntry p → n ≠ faultEntry p → s.alarms.entries.length = 73 → t.alarm n = s.alarm n

theorem PumpWork.refl (p : Pump) (s : State) : PumpWork p s s :=
  ⟨rfl, rfl, rfl, rfl, rfl, rfl, fun q _ => .refl q s, rfl, fun _ _ _ _ _ => rfl⟩

theorem PumpWork.trans (h : PumpWork p s t) (h' : PumpWork p t u) : PumpWork p s u where
  tables := h'.tables.trans h.tables
  points := h'.points.trans h.points
  chip := h'.chip.trans h.chip
  supply := h'.supply.trans h.supply
  gate := h'.gate.trans h.gate
  screens := h'.screens.trans h.screens
  others q hq := (h.others q hq).trans (h'.others q hq)
  entries := h'.entries.trans h.entries
  alarm n h1 ht hf hl := (h'.alarm n h1 ht hf (h.entries.trans hl)).trans (h.alarm n h1 ht hf hl)

/-- How far protection has taken a pump. -/
def protectionRank : PumpState → Nat
  | .held => 1
  | .tripped => 2
  | _ => 0

/-- Protection's work at pump `p`: the minimum off timer stands, and the minimum run timer with the state, unless the
pump is taken further. -/
structure PumpProtected (p : Pump) (s t : State) : Prop extends PumpWork p s t where
  minOff : (t.pump p).minOff = (s.pump p).minOff
  moved : ((t.pump p).state = (s.pump p).state ∧ (t.pump p).minRun = (s.pump p).minRun) ∨
    protectionRank (s.pump p).state < protectionRank (t.pump p).state

theorem PumpProtected.refl (p : Pump) (s : State) : PumpProtected p s s :=
  ⟨.refl p s, rfl, .inl ⟨rfl, rfl⟩⟩

theorem PumpProtected.trans (h : PumpProtected p s t) (h' : PumpProtected p t u) : PumpProtected p s u where
  toPumpWork := h.toPumpWork.trans h'.toPumpWork
  minOff := h'.minOff.trans h.minOff
  moved := by
    rcases h.moved with ⟨hstate, hrun⟩ | hrank <;> rcases h'.moved with ⟨hstate', hrun'⟩ | hrank'
    · exact .inl ⟨hstate'.trans hstate, hrun'.trans hrun⟩
    · exact .inr (by rwa [← hstate])
    · exact .inr (by rwa [hstate'])
    · exact .inr (hrank.trans hrank')

theorem not_granted_of_protectionRank {st : PumpState} (h : 0 < protectionRank st) :
    st.granted = false ∧ st ≠ .startWait := by
  cases st <;> simp_all [protectionRank, PumpState.granted]

theorem PumpProtected.granted (h : PumpProtected p s t) (ht : (t.pump p).state.granted = true) :
    (s.pump p).state.granted = true := by
  rcases h.moved with ⟨hstate, _⟩ | hrank
  · rwa [← hstate]
  · rw [(not_granted_of_protectionRank (Nat.zero_lt_of_lt hrank)).1] at ht
    exact absurd ht Bool.false_ne_true

/-! ### The moves of protection (R115 to R117) -/

theorem pumpWork_setPump (w : PumpRec) (s : State) : PumpWork p s (s.setPump p w) :=
  ⟨rfl, rfl, rfl, rfl, rfl, rfl, fun _ hq => ⟨(State.pump_setPump ..).trans (if_neg hq), rfl⟩, rfl,
    fun _ _ _ _ _ => rfl⟩

/-- A record replaced by one that differs in neither the state nor the minimum timers. -/
theorem pumpProtected_setPump {w : PumpRec} (hoff : w.minOff = (s.pump p).minOff)
    (hstate : w.state = (s.pump p).state) (hrun : w.minRun = (s.pump p).minRun) :
    PumpProtected p s (s.setPump p w) := by
  refine ⟨pumpWork_setPump w s, ?_, .inl ⟨?_, ?_⟩⟩ <;> rwa [State.pump_setPump_same]

theorem pumpWork_postPump (c : CommandCode) (s : State) : PumpWork p s (postPump p c s) := by
  have h := outsideGrants_postPump p c s
  have hdrives := outsideDrives_of_outsideGrants h
  have halarms := alarms_of_outsideGrants h
  refine ⟨tables_of_outsideDrives hdrives, points_of_outsideDrives hdrives, chip_of_outsideDrives hdrives,
    by rw [postPump, arbiter_postCommand]; rfl, gate_of_outsideDrives hdrives, by rw [postPump, screens_postCommand]; rfl,
    fun q hq => ⟨?_, ?_⟩, by rw [halarms], fun n _ _ _ _ => by rw [State.alarm, halarms, State.alarm]⟩
  · rw [pump_postPump, if_neg hq]
  · exact ((PostsFor.refl (.pump p) s).postPump c).others _ (by simpa using hq)

theorem pumpProtected_postPump (c : CommandCode) (s : State) : PumpProtected p s (postPump p c s) := by
  refine ⟨pumpWork_postPump c s, ?_, .inl ⟨?_, ?_⟩⟩ <;> rw [pump_postPump, if_pos rfl]

theorem pumpProtected_releaseDrive (s : State) : PumpProtected p s (releaseDrive p s) := by
  unfold releaseDrive
  split
  · exact ⟨⟨rfl, rfl, rfl, rfl, rfl, rfl, fun _ _ => ⟨rfl, rfl⟩, rfl, fun _ _ _ _ _ => rfl⟩, rfl, .inl ⟨rfl, rfl⟩⟩
  · exact ⟨⟨rfl, rfl, rfl, rfl, rfl, rfl, fun _ _ => ⟨rfl, rfl⟩, rfl, fun _ _ _ _ _ => rfl⟩, rfl, .inl ⟨rfl, rfl⟩⟩
  · exact .refl p s

/-- A condition stated at one of the pump's two entries. -/
theorem pumpProtected_stateCondition {n : Nat} (hn : n = trippedEntry p ∨ n = faultEntry p) (b : Bool) (s : State) :
    PumpProtected p s (stateCondition n b s) := by
  have h := outsideAlarms_stateCondition n b s
  have hdrives := outsideDrives_of_outsideAlarms h
  have hseq := seq_of_outsideAlarms h
  have hpump : ∀ q, (stateCondition n b s).pump q = s.pump q := fun q => by rw [State.pump, hseq, State.pump]
  have hactuator : (stateCondition n b s).transit.actuator = s.transit.actuator := by
    simpa [outsideAlarms] using congrArg (fun u : State => u.transit.actuator) h
  refine ⟨⟨tables_of_outsideDrives hdrives, points_of_outsideDrives hdrives, chip_of_outsideDrives hdrives,
    by rw [arbiter_of_outsideAlarms h], gate_of_outsideDrives hdrives, screens_of_outsideAlarms h,
    fun q _ => ⟨hpump q, by rw [commandsFor, hactuator, commandsFor]⟩, (worked_stateCondition (.refl s) _ _).entries,
    fun m h1 ht hf hl => ?_⟩, by rw [hpump], .inl ⟨by rw [hpump], by rw [hpump]⟩⟩
  have hlisted : Listed s n := by
    rcases hn with rfl | rfl <;> rw [Listed, hl] <;> cases p <;> decide
  exact alarm_stateCondition_ne hlisted h1 (by rcases hn with rfl | rfl <;> assumption) _

theorem pumpProtected_statePumpConditions (s : State) : PumpProtected p s (statePumpConditions p s) :=
  (pumpProtected_stateCondition (.inl rfl) _ s).trans (pumpProtected_stateCondition (.inr rfl) _ _)

/-- A pump taken to HELD or TRIPPED from a state before it. -/
theorem pumpProtected_protectTo {st : PumpState} (h : protectionRank (s.pump p).state < protectionRank st) :
    PumpProtected p s (protectTo st p s) := by
  have hrelease := pumpProtected_releaseDrive (p := p) s
  refine hrelease.trans (PumpProtected.trans ⟨pumpWork_setPump
    { (releaseDrive p s).pump p with state := st, minRun := none, startConfirm := none, stopConfirm := none } _,
    ?_, .inr ?_⟩ (pumpProtected_postPump ..))
  · rw [State.pump_setPump_same]
  · rw [State.pump_setPump_same, pump_releaseDrive]
    exact h

theorem pumpProtected_judgeLatch (s : State) : PumpProtected p s (judgeLatch p s) := by
  unfold judgeLatch
  split
  · exact pumpProtected_setPump rfl rfl rfl
  · exact .refl p s

theorem rank_of_trippable {st : PumpState} (h : st.trippable = true) : protectionRank st < protectionRank .tripped := by
  cases st <;> simp_all [PumpState.trippable, protectionRank]

theorem rank_of_holdable {st : PumpState} (h : st.holdable = true) : protectionRank st < protectionRank .held := by
  cases st <;> simp_all [PumpState.holdable, protectionRank]

theorem pumpProtected_judgeMove (s : State) : PumpProtected p s (judgeMove p s) := by
  unfold judgeMove
  dsimp only
  split_ifs with _ _ htrip _ hidle hhold
  · exact .refl p s
  · exact pumpProtected_protectTo (rank_of_trippable htrip)
  · exact .refl p s
  · exact pumpProtected_protectTo (by rcases hidle with h | h <;> rw [h] <;> decide)
  · exact .refl p s
  · exact pumpProtected_protectTo (rank_of_holdable hhold.2)
  · exact .refl p s

theorem pumpProtected_judgePump (s : State) : PumpProtected p s (judgePump p s) :=
  ((pumpProtected_judgeLatch s).trans (pumpProtected_statePumpConditions _)).trans (pumpProtected_judgeMove _)

theorem PumpProtected.judged (h : PumpProtected p s t) : PumpProtected p s (judgePump p t) :=
  h.trans (pumpProtected_judgePump t)

theorem PumpProtected.stated (h : PumpProtected p s t) : PumpProtected p s (statePumpConditions p t) :=
  h.trans (pumpProtected_statePumpConditions t)

/-! ### The sources and the confirm timers (R110 to R114, R94) -/

theorem pumpProtected_setSources (x : Sources) (s : State) : PumpProtected p s (s.setSources p x) :=
  pumpProtected_setPump rfl rfl rfl

theorem pumpProtected_judgeFault (f : FaultSource) (s : State) : PumpProtected p s (judgeFault p f s) := by
  unfold judgeFault
  dsimp only
  split_ifs
  · exact .refl p s
  · exact (pumpProtected_setSources _ s).judged
  · exact (pumpProtected_setSources _ s).stated

theorem pumpProtected_judgeFaults (s : State) : PumpProtected p s (judgeFaults p s) :=
  ((pumpProtected_judgeFault .f1 s).trans (pumpProtected_judgeFault .f2 _)).trans (pumpProtected_judgeFault .f3 _)

theorem pumpProtected_compareOvercurrent (s : State) : PumpProtected p s (compareOvercurrent p s) := by
  have hset : PumpProtected p s (setOvercurrent p s) := pumpProtected_setPump rfl rfl rfl
  unfold compareOvercurrent overcurrentReached judgeOvercurrent
  split_ifs
  · exact hset
  · exact hset.judged
  · exact .refl p s
  · exact PumpProtected.stated (pumpProtected_setPump rfl rfl rfl)

theorem pumpProtected_dropUncommanded (s : State) : PumpProtected p s (dropUncommanded p s) := by
  unfold dropUncommanded
  split
  · exact pumpProtected_setSources _ s
  · exact .refl p s

theorem pumpProtected_startConfirmExpired (s : State) : PumpProtected p s (startConfirmExpired p s) := by
  unfold startConfirmExpired
  dsimp only
  split
  · exact PumpProtected.judged (pumpProtected_setPump rfl rfl rfl)
  · exact .refl p s

theorem pumpProtected_stopConfirmExpired (s : State) : PumpProtected p s (stopConfirmExpired p s) := by
  unfold stopConfirmExpired
  dsimp only
  split
  · exact PumpProtected.judged (pumpProtected_setPump rfl rfl rfl)
  · exact .refl p s

theorem PumpProtected.guarded {c : State → Bool} {f : State → State} (h : PumpProtected p s t)
    (hf : ∀ u, PumpProtected p u (f u)) : PumpProtected p s (guarded c f t) := by
  unfold Machine.guarded
  split
  · exact h.trans (hf t)
  · exact h

theorem pumpProtected_compareConfirms (s : State) : PumpProtected p s (compareConfirms p s) := by
  unfold compareConfirms
  split
  · exact .refl p s
  · exact ((PumpProtected.refl p s).guarded pumpProtected_startConfirmExpired).guarded
      pumpProtected_stopConfirmExpired

/-- A PUMP activation at one pump, after the comparison of its minimum timers. -/
theorem pumpProtected_pumpActivated (old : State) (s : State) :
    PumpProtected p (compareMinimums old p s) (pumpActivated old p s) :=
  ((((pumpProtected_judgeFaults _).trans (pumpProtected_compareOvercurrent _)).trans
    (pumpProtected_dropUncommanded _)).trans (pumpProtected_statePumpConditions _)).trans
    (pumpProtected_compareConfirms _)

theorem pumpWork_pumpActivated (old : State) (s : State) : PumpWork p s (pumpActivated old p s) :=
  (pumpWork_setPump _ s).trans (pumpProtected_pumpActivated old s).toPumpWork

end Sys2Proof.Proofs
end

section
/-! PROOF. A PUMP table put in force: each pump's work, one after the other, and the end of the event (R94). -/

namespace Sys2Proof.Proofs

open Sys2Proof.Machine Sys2Proof.Safety Sys2Proof.Laws

variable {s t u v : State} {p q : Pump}

/-! ### The grant pass where no rake waits (R79) -/

/-- A grant pass leaves a pump, or takes it out of START_WAIT, its minimum off timer left. -/
def PumpGranted (p : Pump) (s t : State) : Prop :=
  PumpStands p s t ∨ ((s.pump p).state = .startWait ∧ (t.pump p).state ≠ .startWait ∧
    (t.pump p).minOff = (s.pump p).minOff)

theorem pump_startPump (p : Pump) (s : State) :
    ((startPump p s).pump p).state ≠ .startWait ∧ ((startPump p s).pump p).minOff = (s.pump p).minOff := by
  unfold startPump enterRunning
  dsimp only
  split
  · have h : ∀ u : State, ((startStagger (joinRunOrder p u)).pump p) = u.pump p := fun _ => rfl
    rw [h, State.pump_setPump_same, pump_postPump, if_pos rfl, State.pump_setPump_same]
    exact ⟨by simp, rfl⟩
  · rw [pump_postPump, if_pos rfl, State.pump_setPump_same]
    exact ⟨by simp, rfl⟩

theorem pumpGranted_grantCandidate (h : PumpGranted p s t) (q : Pump) : PumpGranted p s (grantCandidate q t) := by
  by_cases hq : p = q
  · subst hq
    by_cases hwait : (t.pump p).state = .startWait
    · rcases h with hstands | ⟨_, hne, _⟩
      · have hs : (s.pump p).state = .startWait := by rw [← hstands.pump]; exact hwait
        have hoff := congrArg PumpRec.minOff hstands.pump
        unfold grantCandidate
        split_ifs
        · exact .inr ⟨hs, (pump_startPump p t).1, (pump_startPump p t).2.trans hoff⟩
        · refine .inr ⟨hs, ?_, ?_⟩ <;> rw [State.pump_setPump_same]
          · simp
          · exact hoff
        · exact .inl hstands
      · exact absurd hwait hne
    · rw [grantCandidate, if_neg fun hc => hwait hc.1]
      exact h
  · have hstep : PumpStands p t (grantCandidate q t) :=
      ⟨by unfold grantCandidate; split_ifs <;> simp [hq], (PostsFor.refl _ t).grantCandidate.others _ (by simpa using hq)⟩
    rcases h with hstands | ⟨hs, hne, hoff⟩
    · exact .inl (hstands.trans hstep)
    · exact .inr ⟨hs, by rw [hstep.pump]; exact hne, by rw [hstep.pump]; exact hoff⟩

theorem pumpGranted_grantPass (h : ∀ r, (s.rake r).state ≠ .waitSlot) (p : Pump) : PumpGranted p s (grantPass s) := by
  have hurgent : eachSide grantUrgent s = s := foldl_fixed (fun r => by rw [grantUrgent, waiting_eq_false (h r)]; rfl) _
  have hduty : PumpGranted p s (s.seq.duty.foldl (fun s p => grantCandidate p s) s) :=
    foldl_keeps (P := PumpGranted p s) (fun _ q hu => pumpGranted_grantCandidate hu q) (.inl (.refl p s)) _
  have hrakes : ∀ r, ((s.seq.duty.foldl (fun s p => grantCandidate p s) s).rake r).state ≠ .waitSlot := fun r => by
    have hr : RakeStands r s (s.seq.duty.foldl (fun s p => grantCandidate p s) s) :=
      foldl_keeps (P := RakeStands r s) (fun u q hu => hu.trans (rakeStands_grantCandidate q u)) (.refl r s) _
    rw [hr.rake]
    exact h r
  have hother : ∀ u : State, (∀ r, (u.rake r).state ≠ .waitSlot) → eachSide grantOther u = u := fun u hu =>
    foldl_fixed (fun r => by rw [grantOther, waiting_eq_false (hu r)]; rfl) _
  unfold grantPass
  dsimp only
  rw [hurgent, hother _ hrakes]
  exact hduty

/-- What the end of the event leaves of a pump, no rake waiting and no drive having gained a grant. -/
theorem NoNewGrant.pumpGranted_ended (h : NoNewGrant s t) (hlaw : SlotLaw s) (hrakes : ∀ r, (t.rake r).state ≠ .waitSlot)
    (p : Pump) : PumpGranted p t (ended t) := by
  have hsettled : settleDrives t = grantPass t := by rw [settleDrives, shedCheck_eq (h.overOccupied hlaw)]
  have hpump : (ended t).pump p = (grantPass t).pump p := by rw [pump_ended, hsettled]
  have hcommands : commandsFor (.pump p) (ended t) = commandsFor (.pump p) (grantPass t) := by
    rw [ended, commandsFor_finishAlarms (by simp), hsettled]
  rcases pumpGranted_grantPass hrakes p with hstands | ⟨hwait, hne, hoff⟩
  · exact .inl ⟨hpump.trans hstands.pump, hcommands.trans hstands.commands⟩
  · exact .inr ⟨hwait, by rw [hpump]; exact hne, by rw [hpump]; exact hoff⟩

/-! ### The turns of the pumps (R94) -/

/-- `t` comes of work at other pumps than `p`. -/
structure Beside (p : Pump) (s t : State) : Prop where
  tables : t.tables = s.tables
  points : t.points = s.points
  chip : t.chip = s.chip
  supply : t.arbiter.supply = s.arbiter.supply
  gate : t.transit.gate = s.transit.gate
  screens : t.screens = s.screens
  stands : PumpStands p s t
  entries : t.alarms.entries.length = s.alarms.entries.length
  alarm : s.alarms.entries.length = 73 → t.alarm (trippedEntry p) = s.alarm (trippedEntry p)

theorem Beside.refl (p : Pump) (s : State) : Beside p s s :=
  ⟨rfl, rfl, rfl, rfl, rfl, rfl, .refl p s, rfl, fun _ => rfl⟩

theorem Beside.trans (h : Beside p s t) (h' : Beside p t u) : Beside p s u where
  tables := h'.tables.trans h.tables
  points := h'.points.trans h.points
  chip := h'.chip.trans h.chip
  supply := h'.supply.trans h.supply
  gate := h'.gate.trans h.gate
  screens := h'.screens.trans h.screens
  stands := h.stands.trans h'.stands
  entries := h'.entries.trans h.entries
  alarm hl := (h'.alarm (h.entries.trans hl)).trans (h.alarm hl)

theorem PumpWork.beside (h : PumpWork q s t) (hq : p ≠ q) : Beside p s t where
  tables := h.tables
  points := h.points
  chip := h.chip
  supply := h.supply
  gate := h.gate
  screens := h.screens
  stands := h.others p hq
  entries := h.entries
  alarm hl := by
    refine h.alarm _ (by cases p <;> decide) ?_ ?_ hl
    · cases p <;> cases q <;> simp_all [trippedEntry, Pump.number]
    · cases p <;> cases q <;> simp [trippedEntry, faultEntry, Pump.number]

theorem beside_foldl {f : Pump → State → State} (hf : ∀ q u, PumpWork q u (f q u)) {l : List Pump} (hp : p ∉ l)
    (s : State) : Beside p s (l.foldl (fun s q => f q s) s) := by
  induction l generalizing s with
  | nil => exact .refl p s
  | cons q l ih =>
    rw [List.mem_cons, not_or] at hp
    exact ((hf q s).beside hp.1).trans (ih hp.2 _)

/-- Each pump has its turn; before it and after it there is work at other pumps only. -/
theorem eachPump_around {f : Pump → State → State} (hf : ∀ q u, PumpWork q u (f q u)) (p : Pump) (s : State) :
    ∃ b, Beside p s b ∧ Beside p (f p b) (eachPump f s) := by
  obtain ⟨before, after, hpumps⟩ := List.append_of_mem (show p ∈ pumps by cases p <;> decide)
  have hnodup : (before ++ p :: after).Nodup := by
    rw [← hpumps]
    decide
  rw [List.nodup_append] at hnodup
  obtain ⟨_, hafter, hdisjoint⟩ := hnodup
  have hbefore : p ∉ before := fun hm => hdisjoint p hm p List.mem_cons_self rfl
  refine ⟨before.foldl (fun s q => f q s) s, beside_foldl hf hbefore s, ?_⟩
  rw [eachPump, hpumps, List.foldl_append, List.foldl_cons]
  exact beside_foldl hf (List.nodup_cons.mp hafter).1 _

end Sys2Proof.Proofs
end

section
/-! PROOF. A confirm timer past its new length trips the pump (R92 to R94, R114, R116, R117). -/

namespace Sys2Proof.Proofs

open Sys2Proof.Machine Sys2Proof.Safety Sys2Proof.Laws

variable {s t u v : State} {p : Pump} {c : FaultSource}

/-! ### What turns on the STATION table, the PUMP table and the chip -/

theorem station_congr (h : t.tables = s.tables) : t.station = s.station := by rw [State.station, h, State.station]

theorem pumpEntry_congr (h : t.tables.active = s.tables.active) : t.pumpEntry p = s.pumpEntry p := by
  rw [State.pumpEntry, State.pumpTable, h, State.pumpEntry, State.pumpTable]

theorem installed_congr (h : t.station = s.station) (p : Pump) : t.installed p = s.installed p := by
  rw [State.installed, h, State.installed]

theorem role_congr (h : t.station = s.station) (f : Roles → Option Nat) : t.role f = s.role f := by
  rw [State.role, State.roles, h, State.role, State.roles]

theorem now_congr (h : t.chip = s.chip) : t.now = s.now := by rw [State.now, h, State.now]

/-! ### A pump with no source and no latch -/

/-- An installed pump with no source present, no latch and no point for a source. -/
structure NoSource (p : Pump) (s : State) : Prop where
  installed : s.installed p = true
  sources : (s.pump p).sources = Sources.absent
  latch : (s.pump p).latch = none
  f1 : (s.role fun y => y.f1.get p) = none
  f2 : (s.role fun y => y.f2.get p) = none
  f3 : (s.role fun y => y.f3.get p) = none
  current : (s.role fun y => y.current.get p) = none

theorem NoSource.of_station (h : NoSource p s) (hstation : t.station = s.station)
    (hsources : (t.pump p).sources = (s.pump p).sources) (hlatch : (t.pump p).latch = (s.pump p).latch) :
    NoSource p t :=
  ⟨(installed_congr hstation p).trans h.installed, hsources.trans h.sources, hlatch.trans h.latch,
    (role_congr hstation _).trans h.f1, (role_congr hstation _).trans h.f2, (role_congr hstation _).trans h.f3,
    (role_congr hstation _).trans h.current⟩

theorem usableValue_none {f : Roles → Option Nat} (h : s.role f = none) : s.usableValue f = none := by
  rw [State.usableValue, State.roleRec, h]
  rfl

theorem NoSource.judgeFault (h : NoSource p s) {f : FaultSource} (hf : f = .f1 ∨ f = .f2 ∨ f = .f3) :
    judgeFault p f s = s := by
  have hwas : s.sourcePresent p f = false := by
    rcases hf with rfl | rfl | rfl <;> simp [State.sourcePresent, h.sources, Sources.absent]
  have hreading : s.faultReading p f = false := by
    rcases hf with rfl | rfl | rfl <;>
      simp [State.faultReading, usableValue_none h.f1, usableValue_none h.f2, usableValue_none h.f3]
  unfold Machine.judgeFault
  rw [hwas, hreading]
  simp

theorem NoSource.judgeFaults (h : NoSource p s) : judgeFaults p s = s := by
  unfold Machine.judgeFaults
  rw [h.judgeFault (.inl rfl), h.judgeFault (.inr (.inl rfl)), h.judgeFault (.inr (.inr rfl))]

theorem NoSource.overLimit (h : NoSource p s) : s.overLimit p = false := by
  unfold State.overLimit
  rw [usableValue_none h.current]
  split <;> simp_all

/-- The comparisons before the confirm timers' leave a pump of no source, its overcurrent timer stopped. -/
theorem NoSource.beforeConfirms {e : PumpEntry} (h : NoSource p s) (hentry : s.pumpEntry p = some e) (old : State) :
    ∃ m, pumpActivated old p s = compareConfirms p m ∧ PumpWork p s m ∧ NoSource p m ∧ m.pumpEntry p = some e ∧
      m.pump p = { s.pump p with
      overTimer := none
      minRun := s.lengthChanged (old.minRunLength p) (s.minRunLength p) (s.pump p).minRun
      minOff := s.lengthChanged (old.minOffLength p) (s.minOffLength p) (s.pump p).minOff } := by
  have hmin : NoSource p (compareMinimums old p s) :=
    ⟨h.installed, by rw [compareMinimums, State.pump_setPump_same]; exact h.sources,
      by rw [compareMinimums, State.pump_setPump_same]; exact h.latch, h.f1, h.f2, h.f3, h.current⟩
  have hover : compareOvercurrent p (compareMinimums old p s) = statePumpConditions p
      ((compareMinimums old p s).setPump p { (compareMinimums old p s).pump p with
        overTimer := none
        sources := { ((compareMinimums old p s).pump p).sources with overcurrent := false } }) := by
    rw [compareOvercurrent, hmin.overLimit, judgeOvercurrent]
    dsimp only
    rw [hmin.overLimit]
    rfl
  have hwork : PumpWork p s (compareOvercurrent p (compareMinimums old p s)) :=
    (pumpWork_setPump _ s).trans (pumpProtected_compareOvercurrent _).toPumpWork
  have hentry' : ∀ u : State, PumpWork p s u → u.pumpEntry p = some e := fun u hu =>
    (pumpEntry_congr (congrArg Tables.active hu.tables)).trans hentry
  have hdrop : dropUncommanded p (compareOvercurrent p (compareMinimums old p s)) =
      compareOvercurrent p (compareMinimums old p s) := by
    rw [dropUncommanded, hentry' _ hwork]
    rfl
  have hpump : (statePumpConditions p (compareOvercurrent p (compareMinimums old p s))).pump p = { s.pump p with
      overTimer := none
      minRun := s.lengthChanged (old.minRunLength p) (s.minRunLength p) (s.pump p).minRun
      minOff := s.lengthChanged (old.minOffLength p) (s.minOffLength p) (s.pump p).minOff } := by
    rw [pump_statePumpConditions, hover, pump_statePumpConditions, State.pump_setPump_same, compareMinimums,
      State.pump_setPump_same]
    dsimp only
    rw [h.sources]
    rfl
  have hwork' := hwork.trans (pumpProtected_statePumpConditions _).toPumpWork
  refine ⟨_, by rw [pumpActivated, hmin.judgeFaults, hdrop], hwork', ?_, hentry' _ hwork', hpump⟩
  exact h.of_station (station_congr hwork'.tables) (by rw [hpump]) (by rw [hpump])

/-! ### A latching source trips the pump (R116, R117) -/

/-- A pump tripped with a cause: STOP posted, PUMP_TRIPPED present. -/
structure Tripped (p : Pump) (cause : FaultSource) (t : State) : Prop where
  state : (t.pump p).state = .tripped
  latch : (t.pump p).latch = some cause
  posted : Posted t (.pump p) .stop
  condition : (t.alarm (trippedEntry p)).condition = true

theorem tripped_protectTo (hlatch : (s.pump p).latch = some c) (halarm : (s.alarm (trippedEntry p)).condition = true) :
    Tripped p c (protectTo .tripped p s) := by
  have hpump : (protectTo .tripped p s).pump p = { s.pump p with
      state := .tripped, minRun := none, startConfirm := none, stopConfirm := none, command := .stop
      confirmed := false } := by
    rw [protectTo, pump_postPump, if_pos rfl, State.pump_setPump_same, pump_releaseDrive]
  have halarms := alarms_of_outsideGrants (outsideGrants_protectTo .tripped p s)
  refine ⟨by rw [hpump], by rw [hpump]; exact hlatch, fun h => posted_postPump _ _ _ h, ?_⟩
  rw [State.alarm, halarms, ← State.alarm]
  exact halarm

theorem tripped_judgePump (hinstalled : s.installed p = true) (hlatch : (s.pump p).latch = none)
    (hhead : (s.latchingSources p).head? = some c) (hstop : ∀ u : State, u.sourceAction p c = some .stop)
    (hstate : (s.pump p).state.trippable = true) (hl : s.alarms.entries.length = 73) :
    Tripped p c (judgePump p s) := by
  have hjudged : judgeLatch p s = s.setPump p { s.pump p with latch := some c } := by
    rw [judgeLatch, if_pos hinstalled, State.latchAfter, hlatch, hhead]
  unfold judgePump
  rw [hjudged]
  have hcondition : ((statePumpConditions p (s.setPump p { s.pump p with latch := some c })).alarm
      (trippedEntry p)).condition = true := by
    have hlisted : ∀ n, 1 ≤ n → n ≤ 73 → Listed (s.setPump p { s.pump p with latch := some c }) n :=
      fun n h1 hn => ⟨h1, by rw [State.setPump_alarms, hl]; exact hn⟩
    have htripped : (s.setPump p { s.pump p with latch := some c }).pumpTripped p = true := by
      rw [State.pumpTripped, State.pump_setPump_same]
      exact Bool.and_eq_true_iff.mpr ⟨hinstalled, rfl⟩
    have hfirst := condition_stateCondition (hlisted (trippedEntry p) (by cases p <;> decide) (by cases p <;> decide))
      true
    have hkept := (worked_stateCondition (.refl (s.setPump p { s.pump p with latch := some c })) (trippedEntry p)
      true).entries
    unfold statePumpConditions
    rw [htripped, alarm_stateCondition_ne ⟨by cases p <;> decide, by
      rw [hkept, State.setPump_alarms, hl]; cases p <;> decide⟩ (by cases p <;> decide) (by cases p <;> decide)]
    exact hfirst
  have hpump : (statePumpConditions p (s.setPump p { s.pump p with latch := some c })).pump p =
      { s.pump p with latch := some c } := by
    rw [pump_statePumpConditions, State.pump_setPump_same]
  generalize statePumpConditions p (s.setPump p { s.pump p with latch := some c }) = z at hcondition hpump ⊢
  have hmode : ¬ (z.pump p).state.mode ≠ .auto := by
    rw [hpump, not_not]
    revert hstate
    cases (s.pump p).state <;> simp [PumpState.trippable, PumpState.mode]
  have haction : (z.pump p).latch.bind (z.sourceAction p) = some .stop := by
    rw [hpump]
    exact hstop z
  unfold judgeMove
  dsimp only
  rw [if_neg hmode, if_pos haction, if_pos (by rw [hpump]; exact hstate)]
  exact tripped_protectTo (by rw [hpump]) hcondition

theorem latchingSources_failToStart {x : Sources} (hx : x = { Sources.absent with failToStart := true })
    (h : (s.pump p).sources = x) : (s.latchingSources p).head? = some .failToStart := by
  subst hx
  simp [State.latchingSources, State.latching, State.presentWith, State.sourcePresent, h, Sources.absent,
    State.sourceSetting]

theorem latchingSources_failToStop {x : Sources} (hx : x = { Sources.absent with failToStopRaised := true })
    (h : (s.pump p).sources = x) (hfeedback : s.feedbackActive p = true) :
    (s.latchingSources p).head? = some .failToStop := by
  subst hx
  simp [State.latchingSources, State.latching, State.presentWith, State.sourcePresent, h, Sources.absent,
    State.sourceSetting, hfeedback]

/-! ### The confirm timers against their new lengths (R94) -/

/-- The pump that stays where it is. -/
theorem startConfirmExpired_eq (h : (s.pump p).state ≠ .starting) : startConfirmExpired p s = s := by
  rw [startConfirmExpired]
  exact if_neg fun hc => h hc.1

theorem stopConfirmExpired_eq (h : (s.pump p).state ≠ .stopping) : stopConfirmExpired p s = s := by
  rw [stopConfirmExpired]
  exact if_neg fun hc => h hc.1

theorem guarded_of_fixed {f : State → State} (g : State → Bool) (h : f s = s) : guarded g f s = s := by
  unfold guarded
  split
  · exact h
  · rfl

section Confirms
variable {e : PumpEntry} {since : Nat} (hentry : s.pumpEntry p = some e) (hno : NoSource p s)
  (hl : s.alarms.entries.length = 73)
include hentry hno hl

/-- A pump in STARTING past its new start confirm time is tripped with FAIL_TO_START (R92). -/
theorem tripped_startConfirm (hstate : (s.pump p).state = .starting) (htimer : (s.pump p).startConfirm = some since)
    (hlimit : e.startConfirm ≤ s.now - since) : Tripped p .failToStart (compareConfirms p s) := by
  have hreached : s.reached e.startConfirm (s.pump p).startConfirm = true := by
    rw [htimer, reached_some]
    exact decide_eq_true hlimit
  have hexpired : startConfirmExpired p s = judgePump p (s.setPump p { s.pump p with
      startConfirm := none, sources := { (s.pump p).sources with failToStart := true } }) := by
    rw [startConfirmExpired]
    exact if_pos ⟨hstate, by rw [htimer]; rfl⟩
  have htripped : Tripped p .failToStart (startConfirmExpired p s) := by
    rw [hexpired]
    refine tripped_judgePump hno.installed ?_ (latchingSources_failToStart (x := { Sources.absent with
      failToStart := true }) rfl ?_) (fun _ => rfl) ?_ hl <;> rw [State.pump_setPump_same]
    · exact hno.latch
    · rw [hno.sources]
    · rw [hstate]
      rfl
  have hfirst : guarded (fun s => s.reached e.startConfirm (s.pump p).startConfirm) (startConfirmExpired p) s =
      startConfirmExpired p s := if_pos hreached
  unfold compareConfirms
  rw [hentry]
  dsimp only
  rw [hfirst, guarded_of_fixed _ (stopConfirmExpired_eq (by rw [htripped.state]; decide))]
  exact htripped

omit hno hl in
/-- A pump in STARTING within its new start confirm time stands. -/
theorem stands_startConfirm (hstate : (s.pump p).state = .starting) (htimer : (s.pump p).startConfirm = some since)
    (hlimit : s.now - since < e.startConfirm) : compareConfirms p s = s := by
  have hreached : ¬ s.reached e.startConfirm (s.pump p).startConfirm = true := by
    rw [htimer, reached_some, decide_eq_true_eq]
    omega
  have hfirst : guarded (fun s => s.reached e.startConfirm (s.pump p).startConfirm) (startConfirmExpired p) s = s :=
    if_neg hreached
  unfold compareConfirms
  rw [hentry]
  dsimp only
  rw [hfirst, guarded_of_fixed _ (stopConfirmExpired_eq (by rw [hstate]; decide))]

/-- A pump in STOPPING past its new stop confirm time is tripped with FAIL_TO_STOP (R93). -/
theorem tripped_stopConfirm (hstate : (s.pump p).state = .stopping) (htimer : (s.pump p).stopConfirm = some since)
    (hfeedback : s.feedbackActive p = true) (hlimit : e.stopConfirm ≤ s.now - since) :
    Tripped p .failToStop (compareConfirms p s) := by
  have hreached : s.reached e.stopConfirm (s.pump p).stopConfirm = true := by
    rw [htimer, reached_some]
    exact decide_eq_true hlimit
  have hexpired : stopConfirmExpired p s = judgePump p (s.setPump p { s.pump p with
      stopConfirm := none, sources := { (s.pump p).sources with failToStopRaised := true } }) := by
    rw [stopConfirmExpired]
    exact if_pos ⟨hstate, by rw [htimer]; rfl⟩
  have hsecond : guarded (fun s => s.reached e.stopConfirm (s.pump p).stopConfirm) (stopConfirmExpired p) s =
      stopConfirmExpired p s := if_pos hreached
  unfold compareConfirms
  rw [hentry]
  dsimp only
  rw [guarded_of_fixed _ (startConfirmExpired_eq (by rw [hstate]; decide)), hsecond, hexpired]
  refine tripped_judgePump hno.installed ?_ (latchingSources_failToStop (x := { Sources.absent with
    failToStopRaised := true }) rfl ?_ hfeedback) (fun _ => rfl) ?_ hl <;> rw [State.pump_setPump_same]
  · exact hno.latch
  · rw [hno.sources]
  · rw [hstate]
    rfl

end Confirms

end Sys2Proof.Proofs
end

section
/-! PROOF. A commit of a PUMP table, pump by pump (R94). -/

namespace Sys2Proof.Proofs

open Sys2Proof.Machine Sys2Proof.Safety Sys2Proof.Laws

variable {s t u v w a b : State} {p : Pump}

/-! ### One pump's turn, and the end of the event -/

/-- What a PUMP activation does at pump `p`, `a` the state the event meets, `s` before its turn. -/
structure PumpTaken (p : Pump) (a s t : State) : Prop where
  minOff : (t.pump p).minOff = s.lengthChanged (a.minOffLength p) (s.minOffLength p) (s.pump p).minOff
  minRun : (t.pump p).state = (s.pump p).state →
    (t.pump p).minRun = s.lengthChanged (a.minRunLength p) (s.minRunLength p) (s.pump p).minRun
  starts : ∀ e since, s.pumpEntry p = some e → NoSource p s → (s.pump p).state = .starting →
    (s.pump p).startConfirm = some since →
    (e.startConfirm ≤ s.now - since → Tripped p .failToStart t) ∧
    (s.now - since < e.startConfirm → t.pump p = { s.pump p with
      overTimer := none, minRun := (t.pump p).minRun, minOff := (t.pump p).minOff })
  stops : ∀ e since, s.pumpEntry p = some e → NoSource p s → (s.pump p).state = .stopping →
    (s.pump p).stopConfirm = some since → s.feedbackActive p = true → e.stopConfirm ≤ s.now - since →
    Tripped p .failToStop t

theorem pumpTaken (hl : s.alarms.entries.length = 73) (a : State) (p : Pump) :
    PumpTaken p a s (pumpActivated a p s) := by
  have hprotected := pumpProtected_pumpActivated (p := p) a s
  have hmin : (compareMinimums a p s).pump p = { s.pump p with
      minRun := s.lengthChanged (a.minRunLength p) (s.minRunLength p) (s.pump p).minRun
      minOff := s.lengthChanged (a.minOffLength p) (s.minOffLength p) (s.pump p).minOff } := by
    rw [compareMinimums, State.pump_setPump_same]
  refine ⟨?_, fun hstate => ?_, fun e since hentry hno hstate htimer => ?_,
    fun e since hentry hno hstate htimer hfeedback hlimit => ?_⟩
  · rw [hprotected.minOff, hmin]
  · rcases hprotected.moved with ⟨_, hrun⟩ | hrank
    · rw [hrun, hmin]
    · rw [hstate, hmin] at hrank
      exact absurd hrank (Nat.lt_irrefl _)
  · obtain ⟨m, heq, hwork, hno', hentry', hpump⟩ := hno.beforeConfirms hentry a
    have hstate' : (m.pump p).state = .starting := by rw [hpump]; exact hstate
    have htimer' : (m.pump p).startConfirm = some since := by rw [hpump]; exact htimer
    have hnow := now_congr hwork.chip
    rw [heq]
    refine ⟨fun hlimit => ?_, fun hlimit => ?_⟩
    · exact tripped_startConfirm hentry' hno' (hwork.entries.trans hl) hstate' htimer' (by rw [hnow]; exact hlimit)
    · rw [stands_startConfirm hentry' hstate' htimer' (by rw [hnow]; exact hlimit), hpump]
  · obtain ⟨m, heq, hwork, hno', hentry', hpump⟩ := hno.beforeConfirms hentry a
    have hfeedback' := feedbackActive_congr (station_congr hwork.tables) hwork.points p
    rw [heq]
    exact tripped_stopConfirm hentry' hno' (hwork.entries.trans hl) (by rw [hpump]; exact hstate)
      (by rw [hpump]; exact htimer) (hfeedback'.trans hfeedback) (by rw [now_congr hwork.chip]; exact hlimit)

theorem Tripped.stands {c : FaultSource} (h : Tripped p c s) (hstands : PumpStands p s t)
    (hgate : t.transit.gate = s.transit.gate) (halarm : t.alarm (trippedEntry p) = s.alarm (trippedEntry p)) :
    Tripped p c t :=
  ⟨by rw [hstands.pump]; exact h.state, by rw [hstands.pump]; exact h.latch,
    posted_congr hstands.commands hgate h.posted, by rw [halarm]; exact h.condition⟩

/-- What stands after a pump's turn stands at the end of the event. -/
theorem PumpTaken.stands (h : PumpTaken p a s v)
    (hwait : (v.pump p).state = .startWait → (s.pump p).state = .startWait) (hgranted : PumpGranted p v t)
    (hgate : t.transit.gate = v.transit.gate) (halarm : t.alarm (trippedEntry p) = v.alarm (trippedEntry p)) :
    PumpTaken p a s t := by
  have hstands : (v.pump p).state ≠ .startWait → PumpStands p v t := fun hv =>
    hgranted.elim id fun hmoved => absurd hmoved.1 hv
  refine ⟨?_, fun hstate => ?_, fun e since hentry hno hstate htimer => ?_,
    fun e since hentry hno hstate htimer hfeedback hlimit => ?_⟩
  · rcases hgranted with hkept | ⟨_, _, hoff⟩
    · rw [hkept.pump, h.minOff]
    · rw [hoff, h.minOff]
  · rcases hgranted with hkept | ⟨hv, hne, _⟩
    · rw [hkept.pump] at hstate ⊢
      exact h.minRun hstate
    · exact absurd (hstate.trans (hwait hv)) hne
  · obtain ⟨htrips, hstays⟩ := h.starts e since hentry hno hstate htimer
    refine ⟨fun hlimit => ?_, fun hlimit => ?_⟩
    · exact (htrips hlimit).stands (hstands (by rw [(htrips hlimit).state]; decide)) hgate halarm
    · have hpump := hstays hlimit
      rw [(hstands (by rw [hpump, hstate]; decide)).pump]
      exact hpump
  · have htrips := h.stops e since hentry hno hstate htimer hfeedback hlimit
    exact htrips.stands (hstands (by rw [htrips.state]; decide)) hgate halarm

/-! ### A PUMP activation -/

theorem noNewGrant_eachPump {a : State} : NoNewGrant s (eachPump (pumpActivated a) s) ∧
    (eachPump (pumpActivated a) s).tables = s.tables ∧
    (eachPump (pumpActivated a) s).screens = s.screens := by
  obtain ⟨b, hbefore, hafter⟩ := eachPump_around (f := pumpActivated a) (fun _ => pumpWork_pumpActivated a) .p1 s
  have hturn := pumpWork_pumpActivated (p := .p1) a b
  have htables := hafter.tables.trans (hturn.tables.trans hbefore.tables)
  have hpoints := hafter.points.trans (hturn.points.trans hbefore.points)
  have hsupply := hafter.supply.trans (hturn.supply.trans hbefore.supply)
  have hscreens := hafter.screens.trans (hturn.screens.trans hbefore.screens)
  have hstation := station_congr htables
  refine ⟨⟨fun p hp => ?_, fun r hr => ?_, feedbackActive_congr hstation hpoints,
    fun _ => usableValue_congr hstation hpoints _, capacity_congr hstation hsupply⟩, htables, hscreens⟩
  · obtain ⟨b, hbefore, hafter⟩ := eachPump_around (f := pumpActivated a) (fun _ => pumpWork_pumpActivated a) p s
    rw [hafter.stands.pump] at hp
    have hgranted := (pumpProtected_pumpActivated a b).granted hp
    rw [compareMinimums, State.pump_setPump_same] at hgranted
    rwa [← hbefore.stands.pump]
  · rwa [State.rake, hscreens, ← State.rake] at hr

theorem compareStagger_eq (s : State) : ∃ x, compareStagger s = { s with arbiter := { s.arbiter with stagger := x } } := by
  unfold compareStagger
  split
  · exact ⟨_, rfl⟩
  · exact ⟨_, rfl⟩

/-- A PUMP activation and the end of its event, at each pump. -/
theorem pumpTaken_ended {image : List Byte} {d : TableData} {a : State} (hput : PutInForce .pump image d s u)
    (hd : tableOf d = .pump) (hlaw : SlotLaw s) (hl : s.alarms.entries.length = 73)
    (hrakes : ∀ r, (s.rake r).state ≠ .waitSlot) (p : Pump) :
    ∃ b, Beside p u b ∧
      PumpTaken p a b (ended (setOutcome .pump .activated (compareStagger (eachPump (pumpActivated a) u)))) := by
  obtain ⟨b, hbefore, hafter⟩ := eachPump_around (f := pumpActivated a) (fun _ => pumpWork_pumpActivated a) p u
  obtain ⟨hgrant, _, hscreens⟩ := noNewGrant_eachPump (s := u) (a := a)
  have hgrant := (hput.noNewGrant (by rw [hd]; decide)).trans hgrant
  have hbl : b.alarms.entries.length = 73 := hbefore.entries.trans (hput.entries.trans hl)
  have hvl : (pumpActivated a p b).alarms.entries.length = 73 := (pumpWork_pumpActivated a b).entries.trans hbl
  have hwait : ((pumpActivated a p b).pump p).state = .startWait → (b.pump p).state = .startWait := by
    intro hstart
    rcases (pumpProtected_pumpActivated (p := p) a b).moved with ⟨hstate, _⟩ | hrank
    · rw [compareMinimums, State.pump_setPump_same] at hstate
      exact hstate.symm.trans hstart
    · exact absurd hstart (not_granted_of_protectionRank (Nat.zero_lt_of_lt hrank)).2
  have hwaits : ∀ r, ((eachPump (pumpActivated a) u).rake r).state ≠ .waitSlot := fun r => by
    rw [State.rake, hscreens, ← State.rake, hput.rake]
    exact hrakes r
  obtain ⟨x, hx⟩ := compareStagger_eq (eachPump (pumpActivated a) u)
  rw [hx]
  have htaken := pumpTaken hbl a p
  have halarm := hafter.alarm hvl
  generalize pumpActivated a p b = v at hafter htaken hwait halarm
  generalize eachPump (pumpActivated a) u = w at hafter hgrant hwaits halarm
  refine ⟨b, hbefore, ?_⟩
  generalize hz : setOutcome .pump .activated ({ w with arbiter := { w.arbiter with stagger := x } } : State) = z
  have hzgrant : NoNewGrant s z := by
    subst hz
    exact ⟨hgrant.pumps, hgrant.rakes, hgrant.feedback, hgrant.current, hgrant.capacity⟩
  have hzwaits : ∀ r, (z.rake r).state ≠ .waitSlot := by
    subst hz
    exact hwaits
  have hzstands : PumpStands p v z := by
    subst hz
    exact ⟨hafter.stands.pump, hafter.stands.commands⟩
  have hgranted : PumpGranted p v (ended z) := by
    rcases hzgrant.pumpGranted_ended hlaw hzwaits p with hstands | ⟨hstart, hne, hoff⟩
    · exact .inl (hzstands.trans hstands)
    · rw [hzstands.pump] at hstart hoff
      exact .inr ⟨hstart, hne, hoff⟩
  refine htaken.stands hwait hgranted ?_ ?_
  · rw [gate_of_outsideDrives (outsideDrives_ended z), ← hz]
    exact hafter.gate
  · rw [alarm_ended, ← hz]
    exact halarm

/-- A running minimum timer over a change of its length (R94). -/
def timerAfter (s : State) (old new : Nat) (timer : Option Nat) : Option Nat :=
  timer.bind fun since => if old ≤ s.now - since ∨ new ≤ s.now - since then none else some since

theorem lengthChanged_eq (h : t.now = s.now) (old new : Nat) (timer : Option Nat) :
    t.lengthChanged old new timer = timerAfter s old new timer := by
  cases timer with
  | none => simp [State.lengthChanged, timerAfter, State.timerElapsed]
  | some since => simp [State.lengthChanged, timerAfter, State.timerElapsed, State.elapsed, h]

/-- A commit of a PUMP table: each pump's minimum and confirm timers (R94). -/
theorem pumpCommit {src tag table method : Byte} {check : BitVec 16} {gs : List (List Byte)} {d : TableData}
    (hquiet : s.awaits .quiet = false) (hl : s.alarms.entries.length = 73) (hlaw : SlotLaw s)
    (h : Commits s src table method check .pump gs d) :
    ∃ t, exec (.tableCommit src tag table method check) s = .next t ∧
      ((∀ r, (s.rake r).state ≠ .waitSlot) → ∀ p,
      (t.pump p).minOff = timerAfter s (s.minOffLength p) (t.minOffLength p) (s.pump p).minOff ∧
      ((t.pump p).state = (s.pump p).state →
        (t.pump p).minRun = timerAfter s (s.minRunLength p) (t.minRunLength p) (s.pump p).minRun) ∧
      ∀ e since, t.pumpEntry p = some e → NoSource p s →
        ((s.pump p).state = .starting → (s.pump p).startConfirm = some since →
          (e.startConfirm ≤ s.now - since → Tripped p .failToStart t) ∧
          (s.now - since < e.startConfirm → t.pump p = { s.pump p with
            overTimer := none, minRun := (t.pump p).minRun, minOff := (t.pump p).minOff })) ∧
        ((s.pump p).state = .stopping → (s.pump p).stopConfirm = some since → s.feedbackActive p = true →
          e.stopConfirm ≤ s.now - since → Tripped p .failToStop t)) := by
  have hd : tableOf d = .pump := tableOf_readTable h.valid
  have hput := putInForce_spec .pump gs d s
  have htables : (deliver .pump (beforeActivation .pump gs s) (putInForce .pump gs d s)).tables =
      (putInForce .pump gs d s).tables := by
    have hstagger : ∀ v : State, (compareStagger v).tables = v.tables := fun v => by
      obtain ⟨x, hx⟩ := compareStagger_eq v
      rw [hx]
    rw [deliver, hstagger]
    exact (noNewGrant_eachPump (s := putInForce .pump gs d s) (a := beforeActivation .pump gs s)).2.1
  obtain ⟨rest, hexec⟩ := exec_tableCommit (tag := tag) h hquiet htables
  have hturns : (∀ r, (s.rake r).state ≠ .waitSlot) → ∀ p, ∃ b, Beside p (putInForce .pump gs d s) b ∧
      PumpTaken p (beforeActivation .pump gs s) b (ended (activated .pump gs d s)) :=
    fun hrakes p => pumpTaken_ended hput hd hlaw hl hrakes p
  have hactive : (ended (activated .pump gs d s)).tables.active = (putInForce .pump gs d s).tables.active := by
    rw [tables_of_outsideDrives (outsideDrives_ended _), active_activated, htables]
  generalize ended (activated .pump gs d s) = e at hexec hturns hactive
  generalize putInForce .pump gs d s = u at hput hturns hactive
  refine ⟨_, hexec, fun hrakes p => ?_⟩
  obtain ⟨b, hbeside, minOff, minRun, starts, stops⟩ := hturns hrakes p
  have hentry : (withReply e src 34 tag rest).pumpEntry p = b.pumpEntry p :=
    pumpEntry_congr (by rw [hbeside.tables]; exact hactive)
  have hoff : (withReply e src 34 tag rest).minOffLength p = b.minOffLength p := by
    rw [State.minOffLength, hentry, State.minOffLength]
  have hrun : (withReply e src 34 tag rest).minRunLength p = b.minRunLength p := by
    rw [State.minRunLength, hentry, State.minRunLength]
  have hpump : b.pump p = s.pump p := hbeside.stands.pump.trans (hput.pump p)
  have hstation : b.station = s.station := (station_congr hbeside.tables).trans (hput.station (by rw [hd]; decide))
  obtain ⟨_, _, _, hpoints, hchip, _⟩ := hput.drives
  have hnow : b.now = s.now := (now_congr hbeside.chip).trans (now_congr hchip)
  have hfeedback : b.feedbackActive p = s.feedbackActive p :=
    feedbackActive_congr hstation (hbeside.points.trans hpoints) p
  rw [hpump] at minOff minRun starts stops
  rw [lengthChanged_eq hnow] at minOff minRun
  rw [hnow] at starts stops
  rw [hfeedback] at stops
  rw [hoff, hrun, hentry]
  refine ⟨minOff, minRun, fun e' since he hno => ⟨fun hstate htimer => ?_, fun hstate htimer hback hlimit => ?_⟩⟩
  · obtain ⟨htrips, hstays⟩ := starts e' since he (hno.of_station hstation (by rw [hpump]) (by rw [hpump])) hstate htimer
    exact ⟨fun hlimit => ⟨(htrips hlimit).state, (htrips hlimit).latch, (htrips hlimit).posted,
      (htrips hlimit).condition⟩, hstays⟩
  · have htrips := stops e' since he (hno.of_station hstation (by rw [hpump]) (by rw [hpump])) hstate htimer hback hlimit
    exact ⟨htrips.state, htrips.latch, htrips.posted, htrips.condition⟩

end Sys2Proof.Proofs
end

section
/-! PROOF. A STATION table put in force with every drive in HAND: what each part of the activation leaves (R36). -/

namespace Sys2Proof.Proofs

open Sys2Proof.Machine Sys2Proof.Safety Sys2Proof.Laws

variable {s t u v : State} {tb : Tables} {g : List GateEntry} {f : Flow} {l : List Pump}

/-! ### The drives in HAND -/

/-- Every drive is in HAND in STANDBY, under these tables, gate list, flow record and duty order, and each command that
waits has its gate entry. -/
structure InHand (tb : Tables) (g : List GateEntry) (f : Flow) (l : List Pump) (t : State) : Prop where
  standby : tb.mode = .standby
  tables : t.tables = tb
  gate : t.transit.gate = g
  flow : t.flow = f
  duty : t.seq.duty = l
  gated : ∀ o ∈ t.transit.actuator, g.any (fun e => o.isFor e.drive) = true
  pumps : ∀ p, (t.pump p).state = .hand
  rakes : ∀ r, (t.rake r).state = .hand

section
variable (h : InHand tb g f l t)
include h

theorem InHand.automatic : t.automatic = false := by
  rw [State.automatic, h.tables, h.standby]
  rfl

/-- Work that leaves all these records. -/
theorem InHand.of_eq (htables : v.tables = t.tables) (hgate : v.transit.gate = t.transit.gate) (hflow : v.flow = t.flow)
    (hactuator : v.transit.actuator = t.transit.actuator) (hseq : v.seq = t.seq) (hscreens : v.screens = t.screens) :
    InHand tb g f l v :=
  ⟨h.standby, htables.trans h.tables, hgate.trans h.gate, hflow.trans h.flow, by rw [hseq]; exact h.duty,
    by rw [hactuator]; exact h.gated, fun p => by rw [State.pump, hseq]; exact h.pumps p,
    fun r => by rw [State.rake, hscreens]; exact h.rakes r⟩

theorem InHand.of_outsideAlarms (hv : outsideAlarms v = outsideAlarms t) : InHand tb g f l v := by
  have hdrives := outsideDrives_of_outsideAlarms hv
  refine h.of_eq (tables_of_outsideDrives hdrives) (gate_of_outsideDrives hdrives) (flow_of_outsideDrives hdrives) ?_
    (seq_of_outsideAlarms hv) (screens_of_outsideAlarms hv)
  simpa [outsideAlarms] using congrArg (fun u : State => u.transit.actuator) hv

theorem InHand.stateCondition (n : Nat) (b : Bool) : InHand tb g f l (stateCondition n b t) :=
  h.of_outsideAlarms (outsideAlarms_stateCondition n b t)

theorem InHand.statePumpConditions (p : Pump) : InHand tb g f l (statePumpConditions p t) :=
  h.of_outsideAlarms (outsideAlarms_statePumpConditions p t)

theorem InHand.setPump {p : Pump} {w : PumpRec} (hw : w.state = .hand) : InHand tb g f l (t.setPump p w) :=
  ⟨h.standby, h.tables, h.gate, h.flow, h.duty, h.gated, fun q => by
    rw [State.pump_setPump]
    split
    · exact hw
    · exact h.pumps q, h.rakes⟩

theorem InHand.setRake {r : Side} {w : RakeRec} (hw : w.state = .hand) : InHand tb g f l (t.setRake r w) :=
  ⟨h.standby, h.tables, h.gate, h.flow, h.duty, h.gated, h.pumps, fun q => by
    rw [State.rake_setRake]
    split
    · exact hw
    · exact h.rakes q⟩

/-- A command is posted where its actuator has a gate entry alone (R26). -/
theorem InHand.postCommand (a : Actuator) (code : CommandCode) (arg : Byte) (retry : Option Nat) :
    InHand tb g f l (postCommand a code arg retry t) := by
  unfold Machine.postCommand
  split
  · exact h
  · next e he =>
    unfold State.gateEntry at he
    have hmem := List.mem_of_find?_eq_some he
    have hdrive : e.drive = a := by simpa using List.find?_some he
    have hhas : ∀ o : OwnFrame, o.isFor a = true → g.any (fun e => o.isFor e.drive) = true := fun o ho =>
      List.any_eq_true.mpr ⟨e, by rw [← h.gate]; exact hmem, by rw [hdrive]; exact ho⟩
    refine ⟨h.standby, h.tables, h.gate, h.flow, h.duty, fun o ho => ?_, h.pumps, h.rakes⟩
    have ho : o ∈ commandPosted e a code arg retry t.transit.actuator := ho
    unfold commandPosted at ho
    split at ho
    · obtain ⟨o', ho', rfl⟩ := List.mem_map.mp ho
      split
      · exact hhas _ (by simp [OwnFrame.isFor, OwnFrame.recommand])
      · exact h.gated o' ho'
    · rcases List.mem_append.mp ho with ho | ho
      · exact h.gated o ho
      · rw [List.mem_singleton.mp ho]
        exact hhas _ (by simp [OwnFrame.isFor, commandFrame, hdrive])

/-! ### The lap list against the new lap timeout (R33 to R35) -/

theorem InHand.judgeMove (p : Pump) : judgeMove p t = t := by
  unfold Machine.judgeMove
  dsimp only
  rw [if_pos (by rw [h.pumps p]; decide)]

theorem InHand.judgePump (p : Pump) : InHand tb g f l (judgePump p t) := by
  have hlatch : InHand tb g f l (judgeLatch p t) := by
    unfold judgeLatch
    split
    · exact h.setPump (h.pumps p)
    · exact h
  unfold Machine.judgePump
  rw [(hlatch.statePumpConditions p).judgeMove]
  exact hlatch.statePumpConditions p

theorem InHand.setSources (p : Pump) (x : Sources) : InHand tb g f l (t.setSources p x) :=
  h.setPump (w := { t.pump p with sources := x }) (h.pumps p)

theorem InHand.countTransit (c : TransitCounters → TransitCounters) : InHand tb g f l (t.countTransit c) :=
  h.of_eq rfl rfl rfl rfl rfl rfl

theorem InHand.pumpCommandLost (p : Pump) : InHand tb g f l (pumpCommandLost p t) := by
  unfold Machine.pumpCommandLost
  dsimp only
  split
  · exact (h.setSources p _).judgePump p
  · exact h

theorem InHand.rakeCommandLost (r : Side) : InHand tb g f l (rakeCommandLost r t) := by
  unfold Machine.rakeCommandLost
  rw [h.rakes r, if_neg (by decide)]
  exact h.setRake (h.rakes r)

theorem InHand.finalLoss (a : Actuator) : InHand tb g f l (finalLoss a t) := by
  have hcount := h.countTransit fun c => { c with givenUp := inc16 c.givenUp }
  unfold Machine.finalLoss
  cases a with
  | pump p => exact hcount.pumpCommandLost p
  | rake r => exact hcount.rakeCommandLost r
  | annunciator => exact hcount

theorem InHand.clearConfirmed (a : Actuator) : InHand tb g f l (clearConfirmed a t) := by
  unfold Machine.clearConfirmed
  cases a with
  | pump p => exact h.setPump (h.pumps p)
  | rake r => exact h.setRake (h.rakes r)
  | annunciator => exact h.of_eq rfl rfl rfl rfl rfl rfl

theorem InHand.failedOutcome (e : LapEntry) : InHand tb g f l (failedOutcome e t) := by
  unfold Machine.failedOutcome failedCommand failedNotice repostNotice
  split
  · split_ifs
    · exact h
    · exact h.finalLoss _
    · exact h
    · exact ((h.clearConfirmed _).postCommand ..).countTransit _
  · split
    · exact h.countTransit _
    · split
      · exact h
      all_goals exact h.of_eq rfl rfl rfl rfl rfl rfl
  · exact h.countTransit _

theorem InHand.resolveOldest : InHand tb g f l (resolveOldest .lost t) := by
  cases hlap : t.transit.lap with
  | nil =>
    unfold Machine.resolveOldest
    rw [hlap]
    exact h
  | cons e rest =>
    rw [resolveOldest_lost hlap]
    have hrest : InHand tb g f l (withLap rest t) := h.of_eq rfl rfl rfl rfl rfl rfl
    exact hrest.failedOutcome e

end

theorem InHand.expireSome (h : InHand tb g f l t) (n : Nat) : InHand tb g f l (expireSome n t) := by
  induction n generalizing t with
  | zero => exact h
  | succ n ih =>
    unfold Machine.expireSome
    split
    · exact ih h.resolveOldest
    · exact h

end Sys2Proof.Proofs
end

section
/-! PROOF. A commit of a STATION table with every drive in HAND in STANDBY (R36, R72, R96). -/

namespace Sys2Proof.Proofs

open Sys2Proof.Machine Sys2Proof.Safety Sys2Proof.Laws

variable {s t u v : State} {tb : Tables} {g : List GateEntry} {f : Flow} {l : List Pump}

/-! ### Each part of a STATION activation (R172) -/

/-- The rebuilt gate list leaves no command without its gate entry (R36). -/
theorem inHand_rebuildGate (hmode : s.tables.mode = .standby) (hpumps : ∀ p, (s.pump p).state = .hand)
    (hrakes : ∀ r, (s.rake r).state = .hand) :
    InHand s.tables (gateOf ((s.station.map (·.actuators)).getD []) s.transit.gate) s.flow s.seq.duty
      (rebuildGate s) := by
  have hframe : ∀ u : State, InHand s.tables (gateOf ((s.station.map (·.actuators)).getD []) s.transit.gate) s.flow
      s.seq.duty u → InHand s.tables (gateOf ((s.station.map (·.actuators)).getD []) s.transit.gate) s.flow
      s.seq.duty (settleFairness u) := fun u hu => by
    unfold settleFairness
    split
    · exact hu.of_eq rfl rfl rfl rfl rfl rfl
    · exact hu
  refine hframe _ ⟨hmode, rfl, rfl, rfl, rfl, fun o ho => ?_, hpumps, hrakes⟩
  exact (List.mem_filter.mp ho).2

section
variable (h : InHand tb g f l t)
include h

theorem InHand.of_loop (x : LoopPort) : InHand tb g f l { t with loop := x } := h.of_eq rfl rfl rfl rfl rfl rfl

theorem InHand.judgeHoldOut : InHand tb g f l (judgeHoldOut t) := by
  rw [judgeHoldOut_eq]
  exact h.of_loop _

theorem InHand.compareGap : InHand tb g f l (compareGap t) := by
  rw [compareGap_eq]
  exact h.of_loop _

theorem InHand.compareStall : InHand tb g f l (compareStall t) := by
  unfold Machine.compareStall
  split
  · exact h
  · split
    · exact (h.of_loop { t.loop with loopStall := true }).stateCondition 23 true
    · exact h

theorem InHand.freshSources (p : Pump) : InHand tb g f l (freshSources p t) :=
  (h.setPump (w := { t.pump p with
    sources := Sources.fresh (t.pump p).latch, overTimer := none, uncommanded := 0 }) (h.pumps p)).statePumpConditions p

/-- The supply lost finds no drive at work (R82). -/
theorem InHand.supplyLost : InHand tb g f l (supplyLost t) := by
  have hpumps : eachPump pumpSupplyLost t = t := foldl_fixed (fun p => by rw [pumpSupplyLost, h.pumps p]) _
  have hrakes : eachSide shedRake t = t := foldl_fixed (fun r => by
    rw [shedRake, h.rakes r, if_neg (by decide)]) _
  rw [Machine.supplyLost, hpumps, hrakes]
  exact h.of_eq rfl rfl rfl rfl rfl rfl

theorem InHand.judgeSupply : InHand tb g f l (judgeSupply t) := by
  have hreading : InHand tb g f l { t with arbiter := { t.arbiter with supply := t.supplyReading } } :=
    h.of_eq rfl rfl rfl rfl rfl rfl
  have hsupply : InHand tb g f l (stateSupply { t with arbiter := { t.arbiter with supply := t.supplyReading } }) :=
    (hreading.stateCondition _ _).stateCondition _ _
  unfold Machine.judgeSupply
  dsimp only
  split_ifs
  · exact h
  · exact hsupply.supplyLost
  · exact hsupply.of_eq rfl rfl rfl rfl rfl rfl
  · exact hsupply

/-! ### The roles of a pump (R55) -/

theorem InHand.feedbackChanged (p : Pump) (b : Bool) : InHand tb g f l (feedbackChanged p b t) := by
  have hfell : InHand tb g f l (feedbackFell p b t) := by
    unfold feedbackFell
    split
    · exact h.setPump (w := { t.pump p with minOff := some t.now }) (h.pumps p)
    · exact h
  have hmoves : feedbackMoves p (feedbackFell p b t) = feedbackFell p b t := by
    rw [feedbackMoves, hfell.pumps p]
  rw [Machine.feedbackChanged, hmoves]
  unfold feedbackReturned
  split
  · exact hfell.judgePump p
  · exact hfell

theorem InHand.judgeOvercurrent (p : Pump) : InHand tb g f l (judgeOvercurrent p t) := by
  unfold Machine.judgeOvercurrent
  dsimp only
  split_ifs
  · exact h
  · exact h.setPump (w := { t.pump p with overTimer := some t.now }) (h.pumps p)
  · exact (h.setPump (w := { t.pump p with
      overTimer := none, sources := { (t.pump p).sources with overcurrent := false } })
      (h.pumps p)).statePumpConditions p

theorem InHand.judgePumpMode (p : Pump) : judgePumpMode p t = t := by
  have htarget : t.targetMode p = .hand := by rw [State.targetMode, h.automatic]; rfl
  unfold Machine.judgePumpMode
  dsimp only
  rw [htarget, h.pumps p]
  rfl

theorem InHand.judgeSelector (p : Pump) : InHand tb g f l (judgeSelector p t) := by
  have hset : ∀ m, InHand tb g f l (t.setPump p { t.pump p with selector := m }) := fun m =>
    h.setPump (h.pumps p)
  unfold Machine.judgeSelector
  dsimp only
  rw [(hset _).judgePumpMode]
  exact hset _

theorem InHand.judgeFault (p : Pump) (c : FaultSource) : InHand tb g f l (judgeFault p c t) := by
  unfold Machine.judgeFault
  dsimp only
  split_ifs
  · exact h
  · exact (h.setSources p _).judgePump p
  · exact (h.setSources p _).statePumpConditions p

theorem InHand.rolesChanged (old : State) (p : Pump) : InHand tb g f l (rolesChanged old p t) :=
  (((((h.feedbackChanged p _).judgeOvercurrent p).judgeSelector p).judgeFault p .f1).judgeFault p .f2).judgeFault p
    .f3

theorem InHand.judgeRakeMode (r : Side) : judgeRakeMode r t = t := by
  refine judgeRakeMode_eq ?_
  rw [State.rakeTargetMode, h.automatic, h.rakes r]
  rfl

/-! ### The weirs and the annunciator (R151, R156) -/

theorem InHand.of_spill (x : Spill) : InHand tb g f l { t with spill := x } := h.of_eq rfl rfl rfl rfl rfl rfl

theorem InHand.flagChanged (w : Weir) : InHand tb g f l (flagChanged w t) := h.of_spill _

theorem InHand.closeRecord (w : Weir) (c : Capture) : InHand tb g f l (closeRecord w c t) := by
  have hnote : InHand tb g f l (noteClosed w c t) := by
    unfold noteClosed
    split
    · exact h
    · exact h.of_eq rfl rfl rfl rfl rfl rfl
  have hdry : InHand tb g f l ((changeOpen w (fun r => r.closed c) (noteClosed w c t)).setWeir w WeirRec.dry) :=
    hnote.of_eq rfl rfl rfl rfl rfl rfl
  exact hdry.stateCondition _ _

theorem InHand.weirRoleChanged (old : State) (w : Weir) : InHand tb g f l (weirRoleChanged old w t) := by
  have hgone : InHand tb g f l (weirGone w t) := by
    unfold weirGone
    dsimp only
    split
    · exact h
    · exact h.of_eq rfl rfl rfl rfl rfl rfl
    · exact (h.flagChanged w).closeRecord w _
    · exact (h.flagChanged w).closeRecord w _
  unfold Machine.weirRoleChanged
  split
  · exact h
  · split
    · exact hgone
    · split
      · exact h
      · exact h.flagChanged w

theorem InHand.postAnnunciate (m : AnnMode) : InHand tb g f l (postAnnunciate m t) := by
  have hposted : InHand tb g f l { t with alarms := { t.alarms with posted := some m, confirmed := false } } :=
    h.of_eq rfl rfl rfl rfl rfl rfl
  exact hposted.postCommand ..

theorem InHand.annunciatorAdded (old : State) : InHand tb g f l (annunciatorAdded old t) := by
  unfold Machine.annunciatorAdded
  split
  · exact h.postAnnunciate _
  · exact h

/-! ### The end of the event -/

/-- Drives in HAND are neither shed nor granted (R79, R80). -/
theorem InHand.settleDrives : settleDrives t = t := by
  have hgrants : t.grants = 0 := by
    simp [State.grants, State.grantedPumps, State.grantedRakes, h.pumps, h.rakes, PumpState.granted,
      RakeState.granted]
  have hshed : shedCheck t = t := shedCheck_eq (by simp [State.overOccupied, hgrants])
  have hwaiting : ∀ b r, t.waiting b r = false := fun b r => waiting_eq_false (by rw [h.rakes r]; decide) b
  have hurgent : eachSide grantUrgent t = t := foldl_fixed (fun r => by rw [grantUrgent, hwaiting]; rfl) _
  have hduty : t.seq.duty.foldl (fun s p => grantCandidate p s) t = t := foldl_fixed (fun p => by
    rw [grantCandidate, h.pumps p, if_neg (by simp)]) _
  have hother : eachSide grantOther t = t := foldl_fixed (fun r => by rw [grantOther, hwaiting]; rfl) _
  rw [Machine.settleDrives, hshed]
  unfold grantPass
  dsimp only
  rw [hurgent, hduty, hother]

theorem InHand.ended : InHand tb g f l (ended t) := by
  have hjudged : InHand tb g f l (judgeAnnunciator t) := by
    unfold judgeAnnunciator
    split
    · exact h
    · exact h.postAnnunciate _
  have hframe := outsideDrives_ended t
  have hseq : (Proofs.ended t).seq = t.seq := (seq_ended t).trans (congrArg State.seq h.settleDrives)
  have hscreens : (Proofs.ended t).screens = t.screens :=
    (screens_ended t).trans (congrArg State.screens h.settleDrives)
  have hactuator : (Proofs.ended t).transit.actuator = (judgeAnnunciator t).transit.actuator := by
    rw [Proofs.ended, h.settleDrives, finishAlarms, actuator_flushNotices]
  refine ⟨h.standby, (tables_of_outsideDrives hframe).trans h.tables, (gate_of_outsideDrives hframe).trans h.gate,
    (flow_of_outsideDrives hframe).trans h.flow, by rw [hseq]; exact h.duty, by rw [hactuator]; exact hjudged.gated,
    fun p => by rw [State.pump, hseq]; exact h.pumps p, fun r => by rw [State.rake, hscreens]; exact h.rakes r⟩

end

end Sys2Proof.Proofs
end

section
/-! PROOF. What an activation does at the loop gate, the pumps, the screens and the rakes (R172). -/

namespace Sys2Proof.Proofs

open Sys2Proof.Machine Sys2Proof.Safety Sys2Proof.Laws

variable {s t u v : State} {tb : Tables} {g : List GateEntry} {f : Flow} {l : List Pump}

/-! ### A STATION activation (R36, R72, R96) -/

theorem installedPumps_congr (h : t.station = s.station) : t.installedPumps = s.installedPumps := by
  rw [State.installedPumps, State.installedPumps]
  exact List.filter_congr fun p _ => installed_congr h p

/-- The flow record after the wet-well role is compared with the one before (R72). -/
def flowAfter (old s : State) : Flow :=
  if s.role (·.wetWell) = old.role (·.wetWell) then s.flow else { s.flow with filter := none, held := none, ring := [] }

/-- The duty order after the set of pumps installed is compared with the one before (R96). -/
def dutyAfter (old s : State) : List Pump :=
  if s.installedPumps = old.installedPumps then s.seq.duty else s.installedPumps

theorem InHand.expirePassed (h : InHand tb g f l t) : InHand tb g f l (expirePassed t) := h.expireSome _

theorem InHand.eachPump (h : InHand tb g f l t) {k : Pump → State → State}
    (hk : ∀ p u, InHand tb g f l u → InHand tb g f l (k p u)) : InHand tb g f l (eachPump k t) :=
  foldl_keeps (P := InHand tb g f l) (fun u p hu => hk p u hu) h Machine.pumps

theorem InHand.eachWeir (h : InHand tb g f l t) {k : Weir → State → State}
    (hk : ∀ w u, InHand tb g f l u → InHand tb g f l (k w u)) : InHand tb g f l (eachWeir k t) :=
  foldl_keeps (P := InHand tb g f l) (fun u w hu => hk w u hu) h weirs

theorem InHand.judgeRakeModes (h : InHand tb g f l t) : InHand tb g f l (eachSide Machine.judgeRakeMode t) := by
  have hstands : eachSide Machine.judgeRakeMode t = t := foldl_fixed (fun r => h.judgeRakeMode r) sides
  rw [hstands]
  exact h

theorem InHand.wellChanged (h : InHand s.tables g s.flow l t) (old : State) :
    InHand s.tables g (flowAfter old s) l (wellChanged old t) := by
  have hrole := role_congr (station_congr h.tables) (·.wetWell)
  unfold Machine.wellChanged flowAfter
  rw [hrole]
  split
  · exact h
  · exact ⟨h.standby, h.tables, h.gate, by rw [resetWell, h.flow], h.duty, h.gated, h.pumps, h.rakes⟩

theorem InHand.installedChanged (h : InHand s.tables g f s.seq.duty t) (old : State) :
    InHand s.tables g f (dutyAfter old s) (installedChanged old t) := by
  have hinstalled := installedPumps_congr (station_congr h.tables)
  unfold Machine.installedChanged dutyAfter
  rw [hinstalled]
  split
  · exact h
  · have hduty : InHand s.tables g f s.installedPumps { t with seq := { t.seq with duty := s.installedPumps } } :=
      ⟨h.standby, h.tables, h.gate, h.flow, rfl, h.gated, h.pumps, h.rakes⟩
    refine hduty.eachPump fun p u hu => ?_
    split
    · exact hu
    · exact hu.freshSources p

theorem inHand_stationActivated (hmode : s.tables.mode = .standby) (hpumps : ∀ p, (s.pump p).state = .hand)
    (hrakes : ∀ r, (s.rake r).state = .hand) (old : State) :
    InHand s.tables (gateOf ((s.station.map (·.actuators)).getD []) s.transit.gate) (flowAfter old s)
      (dutyAfter old s) (stationActivated old s) := by
  have hloop := (((inHand_rebuildGate hmode hpumps hrakes).judgeHoldOut).compareGap).compareStall
  have hset := ((hloop.expirePassed.wellChanged old).installedChanged old).judgeSupply
  have hdrives := (hset.eachPump fun p _ hu => hu.rolesChanged old p).judgeRakeModes
  exact (hdrives.eachWeir fun w _ hu => hu.weirRoleChanged old w).annunciatorAdded old

theorem InHand.setOutcome (h : InHand tb g f l t) (x : TableId) (y : Activation) :
    InHand (setOutcome x y t).tables g f l (setOutcome x y t) := by
  have hmode : (Machine.setOutcome x y t).tables.mode = tb.mode := by
    rw [← h.tables]
    rfl
  exact ⟨hmode.trans h.standby, rfl, h.gate, h.flow, h.duty, h.gated, h.pumps, h.rakes⟩

/-- A commit of a STATION table: the gate list, the flow record, the duty order, the drives. -/
theorem stationCommit {src tag table method : Byte} {check : BitVec 16} {gs : List (List Byte)} {d : TableData}
    (hquiet : s.awaits .quiet = false) (hhand : HandOutsideAutomatic s)
    (h : Commits s src table method check .station gs d) :
    ∃ t, exec (.tableCommit src tag table method check) s = .next t ∧
      t.transit.gate = gateOf ((t.station.map (·.actuators)).getD []) s.transit.gate ∧
      (∀ o ∈ t.transit.actuator, t.transit.gate.any (fun g => o.isFor g.drive) = true) ∧
      t.flow = (if t.role (·.wetWell) = s.role (·.wetWell) then s.flow
        else { s.flow with filter := none, held := none, ring := [] }) ∧
      t.seq.duty = (if t.installedPumps = s.installedPumps then s.seq.duty else t.installedPumps) ∧
      (∀ p, (t.pump p).state = .hand) ∧ ∀ r, (t.rake r).state = .hand := by
  have hput := putInForce_spec .station gs d s
  have hmode := h.standby rfl
  obtain ⟨hpumps, hrakes⟩ := hhand (by rw [State.automatic, hmode]; rfl)
  have hactivated := inHand_stationActivated (s := putInForce .station gs d s) (hput.mode.trans hmode)
    (fun p => by rw [hput.pump]; exact hpumps p) (fun r => by rw [hput.rake]; exact hrakes r)
    (beforeActivation .station gs s)
  obtain ⟨rest, hexec⟩ := exec_tableCommit (tag := tag) h hquiet hactivated.tables
  have hended := (hactivated.setOutcome .station .activated).ended
  have hstation : (ended (activated .station gs d s)).station = (putInForce .station gs d s).station := by
    rw [State.station, tables_of_outsideDrives (outsideDrives_ended _), active_activated, State.station]
    exact congrArg (fun tb : Tables => tb.active.station.map (·.data)) hactivated.tables
  have hended : InHand _ _ _ _ (ended (activated .station gs d s)) := hended
  obtain ⟨hseq, _, _, _, _, hflow⟩ := hput.drives
  have hgate : (putInForce .station gs d s).transit.gate = s.transit.gate :=
    (gate_of_outsideDrives (outsideDrives_of_outsideAlarms hput.frame)).trans rfl
  have hflowAfter : flowAfter (beforeActivation .station gs s) (putInForce .station gs d s) =
      if (putInForce .station gs d s).role (·.wetWell) = s.role (·.wetWell) then s.flow
      else { s.flow with filter := none, held := none, ring := [] } := by
    rw [flowAfter, hflow]
    rfl
  have hdutyAfter : dutyAfter (beforeActivation .station gs s) (putInForce .station gs d s) =
      if (putInForce .station gs d s).installedPumps = s.installedPumps then s.seq.duty
      else (putInForce .station gs d s).installedPumps := by
    rw [dutyAfter, hseq]
    rfl
  rw [hgate, hflowAfter, hdutyAfter] at hended
  generalize ended (activated .station gs d s) = e at hexec hended hstation
  generalize putInForce .station gs d s = u at hended hstation
  refine ⟨_, hexec, ?_⟩
  have hstation' : (withReply e src 34 tag rest).station = u.station := hstation
  rw [hstation', role_congr hstation', installedPumps_congr hstation']
  exact ⟨hended.gate, by rw [show (withReply e src 34 tag rest).transit.gate = _ from hended.gate]; exact hended.gated,
    hended.flow, hended.duty, hended.pumps, hended.rakes⟩

/-! ### What an activation does at the drives -/

/-- A commit is answered in the event, whatever it does. -/
theorem exec_tableCommit_next (src tag table method : Byte) (check : BitVec 16) (s : State) :
    ∃ t, exec (.tableCommit src tag table method check) s = .next t := ⟨_, rfl⟩

/-- Settles O51: STATION with every drive in HAND, SCREEN screen by screen, PUMP pump by pump; each block's work leaves
the other drives, and the end of the event leaves what does not wait, no drive having gained a grant. -/
theorem activationReachesTheDrives : Obligations.ActivationReachesTheDrives := by
  unfold Obligations.ActivationReachesTheDrives
  intro src tag table method check x gs d s hsettled hshapes hlaw hcommits
  cases x
  case station =>
    by_cases hhand : HandOutsideAutomatic s
    · obtain ⟨t, hexec, hstation⟩ := stationCommit (tag := tag) hsettled.quiet hhand hcommits
      exact ⟨t, hexec, fun _ _ => hstation, nofun, nofun⟩
    · obtain ⟨t, hexec⟩ := exec_tableCommit_next src tag table method check s
      exact ⟨t, hexec, fun _ hh => absurd hh hhand, nofun, nofun⟩
  case screen =>
    obtain ⟨t, hexec, hscreens⟩ := screenCommit (tag := tag) hsettled.quiet hshapes.alarms hlaw hcommits
    refine ⟨t, hexec, nofun, fun _ r => ?_, nofun⟩
    obtain ⟨removed, defined, kept⟩ := hscreens r
    refine ⟨removed, defined, fun d' hs ht => ?_⟩
    obtain ⟨hscreen, hinterval, htravel⟩ := kept d' hs ht
    refine ⟨hscreen, hinterval, fun since hauto hservice hmgmt hstate htimer hlimit hreverse => ?_⟩
    obtain ⟨state, cause, reverse, travel, jam, attempts, posted⟩ :=
      htravel since hauto hservice hmgmt hstate htimer hlimit hreverse
    exact ⟨state, cause, reverse, travel, jam, attempts, posted⟩
  case pump =>
    obtain ⟨t, hexec, hpumps⟩ := pumpCommit (tag := tag) hsettled.quiet hshapes.alarms hlaw hcommits
    refine ⟨t, hexec, nofun, nofun, fun _ hrakes p => ?_⟩
    obtain ⟨minOff, minRun, confirms⟩ := hpumps hrakes p
    refine ⟨minOff, minRun, fun e since he hinstalled hsources hlatch hf1 hf2 hf3 hcurrent => ?_⟩
    obtain ⟨starts, stops⟩ := confirms e since he ⟨hinstalled, hsources, hlatch, hf1, hf2, hf3, hcurrent⟩
    refine ⟨fun hstate htimer => ?_, fun hstate htimer hfeedback hlimit => ?_⟩
    · obtain ⟨htrips, hstays⟩ := starts hstate htimer
      refine ⟨fun hlimit => ?_, hstays⟩
      obtain ⟨state, latch, posted, condition⟩ := htrips hlimit
      exact ⟨state, latch, posted, condition⟩
    · obtain ⟨state, latch, posted, condition⟩ := stops hstate htimer hfeedback hlimit
      exact ⟨state, latch, posted, condition⟩
  all_goals
    obtain ⟨t, hexec⟩ := exec_tableCommit_next src tag table method check s
    exact ⟨t, hexec, nofun, nofun, nofun⟩

end Sys2Proof.Proofs
end

section
/-! PROOF. A sample scaled, windowed and fitted to its class; the active STATE point (R42 to R45). -/

namespace Sys2Proof.Proofs

open Sys2Proof.Machine Sys2Proof.Safety Sys2Proof.Laws

/-! ### Scaling (R43) -/

/-- The quotient is the nearest whole number, a half away from zero (R43). -/
theorem roundTo1024_nearest (p : Int) : 2 * |1024 * roundTo1024 p - p| ≤ 1024 ∧
    (2 * |1024 * roundTo1024 p - p| = 1024 → |p| < |1024 * roundTo1024 p|) := by
  simp only [Int.abs_eq_natAbs]
  unfold roundTo1024
  split <;> omega

/-- A product of two 16-bit operands lies within 2^30 (R43). -/
theorem abs_mul_le_of_int16 {raw gain : Int} (hraw : |raw| ≤ 32768) (hgain : |gain| ≤ 32768) :
    |raw * gain| ≤ 1073741824 := by
  rw [abs_mul]
  calc |raw| * |gain| ≤ 32768 * 32768 := mul_le_mul hraw hgain (abs_nonneg _) (by norm_num)
    _ = 1073741824 := by norm_num

theorem scale_range (t : Tap) {raw : Int} (hraw : |raw| ≤ 32768) (hgain : |t.gain| ≤ 32768)
    (hlow : -32768 ≤ t.offset) (hhigh : t.offset ≤ 32767) :
    -1081344 ≤ t.scale raw ∧ t.scale raw ≤ 1081343 := by
  obtain ⟨hproductLow, hproductHigh⟩ := abs_le.mp (abs_mul_le_of_int16 hraw hgain)
  have hround : -1048576 ≤ roundTo1024 (raw * t.gain) ∧ roundTo1024 (raw * t.gain) ≤ 1048576 := by
    unfold roundTo1024
    split <;> omega
  unfold Tap.scale
  omega

/-! ### Windows (R42) -/

theorem sample_inWindow {t : Tap} {raw : Int} (hlow : t.windowMin ≤ raw) (hhigh : raw ≤ t.windowMax) (d : PointDef) :
    t.sample d raw = some ((d.cls.fit (t.scale raw)).1, if (d.cls.fit (t.scale raw)).2 then .clamped else .good) := by
  simp [Tap.sample, Tap.window, hlow, hhigh]

/-- Outside its window CLAMP takes the nearer bound, marked clamped, and REJECT takes none (R42). -/
theorem sample_outside {t : Tap} {raw bound : Int} (hwindow : t.windowMin ≤ t.windowMax)
    (hbound : (raw < t.windowMin ∧ bound = t.windowMin) ∨ (t.windowMax < raw ∧ bound = t.windowMax)) (d : PointDef) :
    t.sample d raw = if t.policy = .clamp then some ((d.cls.fit (t.scale bound)).1, .clamped) else none := by
  have hout : ¬ (t.windowMin ≤ raw ∧ raw ≤ t.windowMax) := by omega
  have hnearer : (if raw < t.windowMin then t.windowMin else t.windowMax) = bound := by
    split <;> omega
  cases hpolicy : t.policy <;> simp [Tap.sample, Tap.window, hout, hpolicy, hnearer]

/-! ### Fitting (R44) -/

/-- A value limited to a range, with the mark that limiting changed it (R44). -/
theorem limit_marked {lo hi : Int} (h : lo ≤ hi) (v : Int) :
    (v < lo → (limit lo hi v, decide (limit lo hi v ≠ v)) = (lo, true)) ∧
    (hi < v → (limit lo hi v, decide (limit lo hi v ≠ v)) = (hi, true)) ∧
    (lo ≤ v → v ≤ hi → (limit lo hi v, decide (limit lo hi v ≠ v)) = (v, false)) := by
  refine ⟨fun hv => ?_, fun hv => ?_, fun hl hu => ?_⟩
  · have hlimit : limit lo hi v = lo := if_pos hv
    simp [hlimit, hv.ne']
  · have hlimit : limit lo hi v = hi := by rw [limit, if_neg (by omega), if_pos hv]
    simp [hlimit, hv.ne]
  · have hlimit : limit lo hi v = v := by rw [limit, if_neg (by omega), if_neg (by omega)]
    simp [hlimit]

/-! ### The active STATE point (R44) -/

theorem usable_iff (q : Quality) : q.usable = true ↔
    q = .good ∨ q = .clamped ∨ q = .stale ∨ q = .substituted ∨ q = .forced := by
  cases q <;> simp [Quality.usable]

/-- Settles O18, by the rounding, the window, the class and the usable qualities in turn. -/
theorem sampleIsScaledWindowedAndFitted : Obligations.SampleIsScaledWindowedAndFitted := by
  refine ⟨fun t raw => ⟨⟨roundTo1024 (raw * t.gain), rfl, roundTo1024_nearest _⟩, fun h1 h2 h3 h4 => ?_⟩,
    fun t d raw hwindow => ⟨fun hlow hhigh => ⟨_, _, sample_inWindow hlow hhigh d, rfl, rfl⟩,
      fun hout => sample_outside hwindow (.inl ⟨hout, rfl⟩) d, fun hout => sample_outside hwindow (.inr ⟨hout, rfl⟩) d⟩,
    fun c lo hi v hclass => ?_, fun v => rfl, fun r => ?_⟩
  · exact scale_range t (abs_le.mpr ⟨h1, by omega⟩) (abs_le.mpr ⟨h3, by omega⟩)
  · rcases hclass with ⟨rfl, rfl, rfl⟩ | ⟨rfl, rfl, rfl⟩ | ⟨rfl, rfl, rfl⟩
    all_goals exact limit_marked (by decide) v
  · rw [PointRec.active, Bool.and_eq_true, usable_iff, decide_eq_true_eq]

end Sys2Proof.Proofs
end

section
/-! PROOF. A point forced and released at once (R47 to R50). -/

namespace Sys2Proof.Proofs

open Sys2Proof.Machine Sys2Proof.Safety Sys2Proof.Laws

variable {s t u : State}

/-! ### The grade of a record (R47, R48) -/

theorem grade_of_forced {r : PointRec} (h : r.forced = true) (d : PointDef) (sub : Option PointRec) :
    r.grade d sub = r := if_pos h

section Grade
variable {r : PointRec} {d : PointDef} {sub : Option PointRec} (hforced : r.forced = false)
include hforced

/-- Within a limit a record is graded by its history (R47). -/
theorem grade_within (h : r.age ≤ d.stale ∨ r.age ≤ d.fail) : r.grade d sub = { r with
    value := if r.accepted.isSome then r.value else 0
    quality := match r.accepted with
      | none => .none
      | some (_, g) => if r.age ≤ d.stale then g else .stale } := by
  by_cases hstale : r.age ≤ d.stale
  · cases haccepted : r.accepted <;> simp [PointRec.grade, hforced, hstale, haccepted]
  · have hfail := h.resolve_left hstale
    cases haccepted : r.accepted <;> simp [PointRec.grade, hforced, hstale, hfail, haccepted]

/-- Past both limits a record takes its usable substitute (R48). -/
theorem grade_substituted {v : PointRec} (hstale : d.stale < r.age) (hfail : d.fail < r.age) (hsub : sub = some v)
    (husable : v.quality.usable = true) : r.grade d sub = { r with quality := .substituted, value := v.value } := by
  simp [PointRec.grade, hforced, hstale.not_ge, hfail.not_ge, hsub, husable]

/-- Past both limits a record without a usable substitute has failed (R48). -/
theorem grade_failed (hstale : d.stale < r.age) (hfail : d.fail < r.age)
    (hsub : ∀ v, sub = some v → v.quality.usable = false) : r.grade d sub = { r with quality := .failed } := by
  cases sub with
  | none => simp [PointRec.grade, hforced, hstale.not_ge, hfail.not_ge]
  | some v => simp [PointRec.grade, hforced, hstale.not_ge, hfail.not_ge, hsub v rfl]

end Grade

/-! ### A request that changes one point (R166) -/

theorem parseParams_forcePoint (point : Byte) (value : BitVec 16) :
    parseParams (Request.forcePoint point value).code (Request.forcePoint point value).params =
      some (.forcePoint point value) := by
  have hparse : parseParams 19 [point, hi16 value, lo16 value] =
      some (.forcePoint point (join16 (hi16 value) (lo16 value))) := rfl
  rw [Request.code, Request.params, hparse, join16_hi16_lo16]

section Request
variable {src tag : Byte} {r : Request} {need : Permission} (h : Taken s src need)
  (hparse : parseParams r.code r.params = some r) (hneed : permissionOfCode r.code = some need) (hr : r ≠ .restart)
include h hparse hneed hr

/-- A request answered without data and without effect, its status neither DENIED nor DONE. -/
theorem request_malformed (hcarried : carryOut r s = (Answer.plain .malformed, s)) :
    request src tag r s = withMalformed s src r.code tag := by
  have hrestart : s.startsRestart r = false := by simp [State.startsRestart, hr]
  rw [request_taken src tag r need hparse hneed h, hcarried, hrestart, respond_malformed]

theorem request_notFound (hcarried : carryOut r s = (Answer.plain .notFound, s)) :
    request src tag r s = withReply s src r.code tag [4, 0] := by
  have hrestart : s.startsRestart r = false := by simp [State.startsRestart, hr]
  rw [request_taken src tag r need hparse hneed h, hcarried, hrestart]
  exact respond_reply src r.code tag (Answer.plain .notFound) s (by simp [Answer.plain]) (by simp [Answer.plain])

/-- A request that changes points alone and tells the drives is answered DONE, and touches nothing else (R55). -/
theorem request_points {x : Points} (hquiet : s.awaits .quiet = false)
    (hframe : outsideDrives u = outsideDrives (withPoints x s))
    (hcarried : carryOut r s = (Answer.done [], finishDrives u)) :
    ∃ t, request src tag r s = t ∧ t.points = x ∧ Answered s t src r.code tag [0, 0] ∧
      outsideDrives { t with
        points := s.points
        transit := { t.transit with response := s.transit.response } } = outsideDrives s := by
  have hquiet' : u.awaits .quiet = false := by
    rw [awaits_of_outsideDrives hframe]
    exact hquiet
  have hended : outsideDrives (ended u) = outsideDrives (withPoints x s) := (outsideDrives_ended u).trans hframe
  have hresponse : (ended u).transit.response = s.transit.response :=
    (response_of_outsideDrives hended).trans rfl
  have hdone := request_done (tag := tag) h hparse hneed hr hcarried
  have hfinish : finishDrives u = ended u := finishDrives_eq u hquiet'
  rw [hfinish] at hdone
  have hpoints : (ended u).points = x := points_of_outsideDrives hended
  generalize ended u = e at hended hresponse hpoints hdone
  refine ⟨_, hdone, hpoints, ?_, ?_⟩
  · simp only [Answered, withReply, hresponse]
  · rw [← hresponse]
    exact congrArg (fun v : State => { v with points := s.points }) hended

end Request

/-! ### One record replaced (R49, R50) -/

/-- A definition of the table stands under its own number (R52). -/
theorem number_of_pointDef {n : Nat} {d : PointDef} (h : s.pointDef n = some d) : d.number = n := by
  simpa using List.find?_some h

theorem pointRec_of_points {n : Nat} {r : PointRec} (hn : n < s.points.recs.length)
    (h : t.points = (s.setPoint n r).points) :
    t.pointRec n = r ∧ ∀ k, k ≠ n → t.pointRec k = s.pointRec k := by
  have hset : ∀ k, t.pointRec k = if k = n then r else s.pointRec k := fun k => by
    rw [← State.pointRec_setPoint s n k r hn, State.pointRec, h, State.pointRec]
  exact ⟨by rw [hset, if_pos rfl], fun k hk => by rw [hset, if_neg hk]⟩

/-- A record no longer forced, with its last accepted value, still to be graded (R50). -/
def unforced (r : PointRec) : PointRec := { r with forced := false, value := (r.accepted.map Prod.fst).getD 0 }

theorem release_eq (r : PointRec) (d : PointDef) (sub : Option PointRec) :
    r.release d sub = (unforced r).grade d sub := rfl

/-- What a release makes of a forced record, by its age and its substitute (R50). -/
theorem release_leaves (r : PointRec) {d : PointDef} (sub : Option PointRec) (hlimits : d.stale ≤ d.fail) :
    let r' := r.release d sub
    r'.forced = false ∧ r'.age = r.age ∧ r'.accepted = r.accepted ∧
      (r.age ≤ d.fail → r'.value = (r.accepted.map Prod.fst).getD 0 ∧
        r'.quality = match r.accepted with
          | none => .none
          | some (_, g) => if r.age ≤ d.stale then g else .stale) ∧
      (d.fail < r.age → ∀ v, sub = some v → v.quality.usable = true →
        r'.value = v.value ∧ r'.quality = .substituted) ∧
      (d.fail < r.age → (∀ v, sub = some v → v.quality.usable = false) →
        r'.value = (r.accepted.map Prod.fst).getD 0 ∧ r'.quality = .failed) := by
  rw [release_eq]
  refine ⟨by simp [unforced], by simp [unforced], by simp [unforced], fun hage => ?_, fun hage v hv husable => ?_,
    fun hage hsub => ?_⟩
  · rw [grade_within (r := unforced r) rfl (.inr hage)]
    cases haccepted : r.accepted <;> simp [unforced, haccepted]
  · rw [grade_substituted (r := unforced r) rfl (hlimits.trans_lt hage) hage hv husable]
    exact ⟨rfl, rfl⟩
  · rw [grade_failed (r := unforced r) rfl (hlimits.trans_lt hage) hage hsub]
    exact ⟨rfl, rfl⟩

/-- FORCE_POINT of a defined point (R49). -/
theorem forcePoint_leaves {src tag point : Byte} (value : BitVec 16) {d : PointDef} (h : Taken s src .operate)
    (hsettled : Settled s) (hshapes : Shapes s) (hpoint : point.toNat ≤ 47)
    (hdef : s.pointDef point.toNat = some d) : ∃ t, exec (.forcePoint src tag point value) s = .next t ∧
      t.pointRec point.toNat = { s.pointRec point.toNat with
        value := (d.cls.fit value.toInt).1, quality := .forced, forced := true } ∧
      (∀ n, n ≠ point.toNat → t.pointRec n = s.pointRec n) ∧ Answered s t src 19 tag [0, 0] ∧
      outsideDrives { t with
        points := s.points
        transit := { t.transit with response := s.transit.response } } = outsideDrives s := by
  have hnumber := number_of_pointDef hdef
  have hcarried : carryOut (.forcePoint point value) s =
      (Answer.done [], finishDrives (forceTo d value.toInt s)) := by
    rw [carryOut, doForcePoint, if_neg (by omega), hdef]
  obtain ⟨t, hexec, hpoints, hanswered, hframe⟩ := request_points (tag := tag) h (parseParams_forcePoint point value)
    (by rw [Request.code]; decide) (by simp) hsettled.quiet (outsideDrives_changePoint ..) hcarried
  have hrec := pointRec_of_points (by rw [hshapes.points, hnumber]; omega) hpoints
  rw [hnumber] at hrec
  exact ⟨t, congrArg Host.Outcome.next hexec, hrec.1, hrec.2, hanswered, hframe⟩

/-- RELEASE_POINT of a defined point restores a forced record, and leaves another (R50). -/
theorem releasePoint_leaves {src tag point : Byte} {d : PointDef} (h : Taken s src .operate)
    (hsettled : Settled s) (hshapes : Shapes s) (hpoint : point.toNat ≤ 47)
    (hdef : s.pointDef point.toNat = some d) : ∃ t, exec (.releasePoint src tag point) s = .next t ∧
      t.pointRec point.toNat = (if (s.pointRec point.toNat).forced then
        (s.pointRec point.toNat).release d (d.substitute.map s.pointRec) else s.pointRec point.toNat) ∧
      (∀ n, n ≠ point.toNat → t.pointRec n = s.pointRec n) ∧ Answered s t src 20 tag [0, 0] ∧
      outsideDrives { t with
        points := s.points
        transit := { t.transit with response := s.transit.response } } = outsideDrives s := by
  have hnumber := number_of_pointDef hdef
  have hcarried : carryOut (.releasePoint point) s = (Answer.done [], finishDrives (releaseForce d s)) := by
    rw [carryOut, doReleasePoint, if_neg (by omega), hdef]
  rw [releaseForce, hnumber] at hcarried
  by_cases hforced : (s.pointRec point.toNat).forced = true
  · simp only [if_pos hforced] at hcarried ⊢
    obtain ⟨t, hexec, hpoints, hanswered, hframe⟩ := request_points (tag := tag) h rfl
      (by rw [Request.code]; decide) (by simp) hsettled.quiet (outsideDrives_changePoint ..) hcarried
    have hrec := pointRec_of_points (by rw [hshapes.points]; omega) hpoints
    exact ⟨t, congrArg Host.Outcome.next hexec, hrec.1, hrec.2, hanswered, hframe⟩
  · simp only [if_neg hforced] at hcarried ⊢
    obtain ⟨t, hexec, hpoints, hanswered, hframe⟩ := request_points (x := s.points) (tag := tag) h rfl
      (by rw [Request.code]; decide) (by simp) hsettled.quiet rfl hcarried
    have hrec : ∀ n, t.pointRec n = s.pointRec n := fun n => by rw [State.pointRec, hpoints, State.pointRec]
    exact ⟨t, congrArg Host.Outcome.next hexec, hrec _, fun n _ => hrec n, hanswered, hframe⟩

/-- Settles O20, by the one record that each request replaces. -/
theorem forceAndReleaseActAtOnce : Obligations.ForceAndReleaseActAtOnce := by
  refine ⟨fun src tag point value s h hsettled hshapes => ⟨fun hpoint => ?_, fun hpoint hdef => ?_,
      fun d hpoint hdef => forcePoint_leaves value h hsettled hshapes hpoint hdef⟩,
    fun src tag point s h hsettled hshapes => ⟨fun hpoint => ?_, fun hpoint hdef => ?_,
      fun d hpoint hdef hlimits => ?_⟩⟩
  · exact congrArg Host.Outcome.next (request_malformed h (parseParams_forcePoint point value)
      (by rw [Request.code]; decide) (by simp) (by rw [carryOut, doForcePoint, if_pos hpoint]))
  · exact congrArg Host.Outcome.next (request_notFound h (parseParams_forcePoint point value)
      (by rw [Request.code]; decide) (by simp) (by rw [carryOut, doForcePoint, if_neg (by omega), hdef]))
  · exact congrArg Host.Outcome.next (request_malformed h (r := .releasePoint point) rfl
      (by rw [Request.code]; decide) (by simp) (by rw [carryOut, doReleasePoint, if_pos hpoint]))
  · exact congrArg Host.Outcome.next (request_notFound h (r := .releasePoint point) rfl
      (by rw [Request.code]; decide) (by simp) (by rw [carryOut, doReleasePoint, if_neg (by omega), hdef]))
  · obtain ⟨t, hexec, hrec, hothers, hanswered, hframe⟩ :=
      releasePoint_leaves (tag := tag) h hsettled hshapes hpoint hdef
    refine ⟨t, hexec, ⟨fun hforced => ?_, fun hforced => ?_⟩, hothers, hanswered, hframe⟩
    · rw [hrec, hforced]
      rfl
    · rw [hrec, if_pos hforced]
      exact release_leaves _ _ hlimits

end Sys2Proof.Proofs
end

section
/-! PROOF. The alarm entries past those of the drives and the supply, which no reaction of a drive touches; a fold
of turns, each at its own place. -/

namespace Sys2Proof.Proofs

open Sys2Proof.Machine Sys2Proof.Safety Sys2Proof.Laws

variable {s t u : State}

/-! ### Entries 23 to 73 (R153) -/

/-- The alarm entries past those of the pumps, the screens, the weirs and the supply: 23 to 73. -/
def laterEntries (s : State) : List AlarmEntry := s.alarms.entries.drop 22

theorem alarm_of_laterEntries (h : laterEntries t = laterEntries s) {n : Nat} (hn : 23 ≤ n) :
    t.alarm n = s.alarm n := by
  have hlater : ∀ v : State, v.alarm n = (laterEntries v).getD (n - 23) (AlarmEntry.start 0) := fun v => by
    rw [State.alarm, laterEntries, List.getD_eq_getElem?_getD, List.getD_eq_getElem?_getD, List.getElem?_drop]
    congr 2
    omega
  rw [hlater, hlater, h]

theorem laterEntries_setAlarm {n : Nat} (hn : n ≤ 22) (e : AlarmEntry) (s : State) :
    laterEntries (s.setAlarm n e) = laterEntries s := by
  rw [laterEntries, laterEntries, State.setAlarm_alarms_entries, List.drop_set, if_pos (by omega)]

theorem laterEntries_stateCondition {n : Nat} (hn : n ≤ 22) (b : Bool) (s : State) :
    laterEntries (stateCondition n b s) = laterEntries s := by
  have hchange : ∀ (st : AlarmState) (v : State), laterEntries (changeAlarm n st v) = laterEntries v := fun st v => by
    rw [laterEntries, entries_changeAlarm]
    exact laterEntries_setAlarm hn _ v
  unfold stateCondition
  split
  · rfl
  · rw [followCondition_eq]
    split
    · exact laterEntries_setAlarm hn _ s
    · rw [hchange, laterEntries_setAlarm hn]

theorem laterEntries_of_outsideGrants (h : outsideGrants t = outsideGrants s) : laterEntries t = laterEntries s := by
  rw [laterEntries, alarms_of_outsideGrants h, laterEntries]

@[simp] theorem laterEntries_setPump (p : Pump) (r : PumpRec) (s : State) :
    laterEntries (s.setPump p r) = laterEntries s := rfl

@[simp] theorem laterEntries_setSources (p : Pump) (x : Sources) (s : State) :
    laterEntries (s.setSources p x) = laterEntries s := rfl

@[simp] theorem laterEntries_setRake (r : Side) (v : RakeRec) (s : State) :
    laterEntries (s.setRake r v) = laterEntries s := rfl

@[simp] theorem laterEntries_setPoint (n : Nat) (r : PointRec) (s : State) :
    laterEntries (s.setPoint n r) = laterEntries s := rfl

/-! ### The drives' reactions (R55) -/

@[simp] theorem laterEntries_statePumpConditions (p : Pump) (s : State) :
    laterEntries (statePumpConditions p s) = laterEntries s := by
  rw [statePumpConditions, laterEntries_stateCondition (by cases p <;> decide),
    laterEntries_stateCondition (by cases p <;> decide)]

@[simp] theorem laterEntries_judgePump (p : Pump) (s : State) : laterEntries (judgePump p s) = laterEntries s := by
  rw [judgePump, laterEntries_of_outsideGrants (outsideGrants_judgeMove p _), laterEntries_statePumpConditions]
  unfold judgeLatch
  split <;> rfl

@[simp] theorem laterEntries_judgeSelector (p : Pump) (s : State) :
    laterEntries (judgeSelector p s) = laterEntries s := by
  rw [judgeSelector, laterEntries_of_outsideGrants (outsideGrants_judgePumpMode p _), laterEntries_setPump]

@[simp] theorem laterEntries_judgeFault (p : Pump) (f : FaultSource) (s : State) :
    laterEntries (judgeFault p f s) = laterEntries s := by
  unfold judgeFault
  dsimp only
  split_ifs <;> simp

@[simp] theorem laterEntries_judgeOvercurrent (p : Pump) (s : State) :
    laterEntries (judgeOvercurrent p s) = laterEntries s := by
  unfold judgeOvercurrent
  dsimp only
  split_ifs <;> simp

@[simp] theorem laterEntries_feedbackChanged (p : Pump) (b : Bool) (s : State) :
    laterEntries (feedbackChanged p b s) = laterEntries s := by
  have hfell : laterEntries (feedbackFell p b s) = laterEntries s := by
    unfold feedbackFell
    split <;> rfl
  have hmoves : ∀ v, laterEntries (feedbackMoves p v) = laterEntries v := fun v => by
    unfold feedbackMoves
    split
    · split
      · exact laterEntries_of_outsideGrants (outsideGrants_enterRunning p v)
      · rfl
    · split
      · rfl
      · exact laterEntries_of_outsideGrants (outsideGrants_pumpStopped p v)
    · rfl
  have hreturned : ∀ v, laterEntries (feedbackReturned p b v) = laterEntries v := fun v => by
    unfold feedbackReturned
    split
    · exact laterEntries_judgePump p v
    · rfl
  rw [feedbackChanged, hreturned, hmoves, hfell]

@[simp] theorem laterEntries_judgePark (r : Side) (s : State) : laterEntries (judgePark r s) = laterEntries s := by
  have hcomplete : laterEntries (completeCycle r s) = laterEntries s := by
    rw [completeCycle, laterEntries_of_outsideGrants (outsideGrants_judgeRequest r _),
      laterEntries_of_outsideGrants (outsideGrants_postRake r _ _), laterEntries_setRake]
  unfold judgePark
  dsimp only
  split
  · split
    · rfl
    · split_ifs
      exacts [rfl, hcomplete, rfl]
  · rfl

@[simp] theorem laterEntries_judgeSupply (s : State) : laterEntries (judgeSupply s) = laterEntries s := by
  have hstated : ∀ v, laterEntries (stateSupply v) = laterEntries v := fun v => by
    rw [stateSupply, laterEntries_stateCondition (by decide), laterEntries_stateCondition (by decide)]
  have hlost : ∀ v, laterEntries (supplyLost v) = laterEntries v := fun v => by
    refine (eachSide_view laterEntries _ (fun r v => ?_) _).trans (eachPump_view laterEntries _ (fun p v => ?_) v)
    · exact laterEntries_of_outsideGrants (outsideGrants_shedRake r v)
    · exact laterEntries_of_outsideGrants (outsideGrants_pumpSupplyLost p v)
  unfold judgeSupply
  dsimp only
  split_ifs
  · rfl
  · rw [hlost, hstated]
    rfl
  · exact hstated _
  · exact hstated _

/-- The reactions to a change of a point leave entries 23 to 73 (R55). -/
@[simp] theorem laterEntries_pointChanged (n : Nat) (old : PointRec) (s : State) :
    laterEntries (pointChanged n old s) = laterEntries s := by
  have hpump : ∀ p v, laterEntries (pumpPointChanged n old p v) = laterEntries v := fun p v => by
    rw [pumpPointChanged, guarded_view laterEntries _ _ (laterEntries_judgeFault p .f3),
      guarded_view laterEntries _ _ (laterEntries_judgeFault p .f2),
      guarded_view laterEntries _ _ (laterEntries_judgeFault p .f1),
      guarded_view laterEntries _ _ (laterEntries_judgeSelector p),
      guarded_view laterEntries _ _ (laterEntries_judgeOvercurrent p),
      guarded_view laterEntries _ _ (laterEntries_feedbackChanged p _)]
  have hrake : ∀ r v, laterEntries (rakePointChanged n r v) = laterEntries v := fun r v => by
    rw [rakePointChanged, guarded_view laterEntries _ _ fun w =>
        laterEntries_of_outsideGrants (outsideGrants_judgeJamTimer r w),
      guarded_view laterEntries _ _ (laterEntries_judgePark r)]
  unfold pointChanged
  split
  · rfl
  · rw [eachSide_view laterEntries _ hrake, eachPump_view laterEntries _ hpump,
      guarded_view laterEntries _ _ laterEntries_judgeSupply]

/-! ### Turns, each at its own place -/

/-- Of a fold of turns, of which only `a`'s reaches the view `E`, that view is what `a`'s turn leaves. -/
theorem foldl_turn {α β : Type} {P : State → Prop} {E : State → β} {f : State → α → State} {l : List α} {a : α}
    (hkeeps : ∀ u, P u → ∀ b ∈ l, P (f u b)) (hother : ∀ u, P u → ∀ b ∈ l, b ≠ a → E (f u b) = E u) (hl : l.Nodup)
    (ha : a ∈ l) (h : P s) : ∃ u, P u ∧ E u = E s ∧ E (l.foldl f s) = E (f u a) := by
  obtain ⟨before, afterwards, rfl⟩ := List.append_of_mem ha
  have hview : ∀ (bs : List α) (v : State), (∀ b ∈ bs, b ∈ before ++ a :: afterwards ∧ b ≠ a) → P v →
      P (bs.foldl f v) ∧ E (bs.foldl f v) = E v := by
    intro bs
    induction bs with
    | nil => exact fun _ _ h => ⟨h, rfl⟩
    | cons b bs ih =>
      intro v hbs hv
      obtain ⟨hmem, hne⟩ := hbs b List.mem_cons_self
      have hrest := ih (f v b) (fun c hc => hbs c (List.mem_cons_of_mem _ hc)) (hkeeps v hv b hmem)
      rwa [List.foldl_cons, ← hother v hv b hmem hne]
  obtain ⟨-, hafter, hdisjoint⟩ := List.nodup_append.mp hl
  obtain ⟨hkept, hsame⟩ := hview before s
    (fun b hb => ⟨by simp [hb], hdisjoint b hb a List.mem_cons_self⟩) h
  refine ⟨before.foldl f s, hkept, hsame, ?_⟩
  rw [List.foldl_append, List.foldl_cons]
  exact (hview afterwards _ (fun b hb => ⟨by simp [hb], fun hba => (List.nodup_cons.mp hafter).1 (hba ▸ hb)⟩)
    (hkeeps _ hkept a (by simp))).2

end Sys2Proof.Proofs
end

section
/-! PROOF. The point second: the points aged, then graded, then the drives and the alarms told (R46 to R48, R51). -/

namespace Sys2Proof.Proofs

open Sys2Proof.Machine Sys2Proof.Safety Sys2Proof.Laws

variable {s t u : State}

/-! ### Records replaced one after another -/

/-- Only records of points differ. -/
structure RecordsOnly (s u : State) : Prop where
  frame : u = withPoints { s.points with recs := u.points.recs } s
  length : u.points.recs.length = s.points.recs.length

theorem RecordsOnly.refl (s : State) : RecordsOnly s s := ⟨rfl, rfl⟩

theorem RecordsOnly.setPoint (h : RecordsOnly s u) (n : Nat) (r : PointRec) : RecordsOnly s (u.setPoint n r) where
  frame := by
    conv_lhs => rw [h.frame]
    rfl
  length := by rw [State.setPoint_points_recs, List.length_set, h.length]

theorem RecordsOnly.trans (h : RecordsOnly s t) (h' : RecordsOnly t u) : RecordsOnly s u where
  frame := by
    rw [h'.frame, h.frame]
    rfl
  length := h'.length.trans h.length

theorem RecordsOnly.tables (h : RecordsOnly s u) : u.tables = s.tables := by rw [h.frame]; rfl

theorem pointRec_setPoint_ne {m n : Nat} (h : n ≠ m) (r : PointRec) (s : State) :
    (s.setPoint m r).pointRec n = s.pointRec n := by
  rw [State.pointRec, State.setPoint_points_recs, List.getD_eq_getElem?_getD, List.getElem?_set_ne h.symm,
    ← List.getD_eq_getElem?_getD, State.pointRec]

section Replaced
variable {g : State → PointDef → PointRec} {ds : List PointDef}

/-- The records of the points of a list of definitions replaced in turn. -/
def replaced (g : State → PointDef → PointRec) (ds : List PointDef) (s : State) : State :=
  ds.foldl (fun u d => u.setPoint d.number (g u d)) s

theorem recordsOnly_replaced (g : State → PointDef → PointRec) (ds : List PointDef) (s : State) :
    RecordsOnly s (replaced g ds s) :=
  foldl_keeps (P := RecordsOnly s) (fun _ _ h => h.setPoint _ _) (.refl s) ds

theorem pointRec_replaced_other {n : Nat} (hn : ∀ d ∈ ds, d.number ≠ n) :
    (replaced g ds s).pointRec n = s.pointRec n := by
  unfold replaced
  induction ds generalizing s with
  | nil => rfl
  | cons d ds ih =>
    rw [List.foldl_cons, ih fun e he => hn e (List.mem_cons_of_mem _ he),
      pointRec_setPoint_ne (hn d List.mem_cons_self).symm]

/-- The record of one of them, as its turn gives it: it and the points outside the list stood until then. -/
theorem pointRec_replaced (hnodup : (ds.map (·.number)).Nodup) {d : PointDef} (hd : d ∈ ds)
    (hlength : d.number < s.points.recs.length) : ∃ u, RecordsOnly s u ∧
      (∀ n, (∀ e ∈ ds, e.number ≠ n) → u.pointRec n = s.pointRec n) ∧ u.pointRec d.number = s.pointRec d.number ∧
      (replaced g ds s).pointRec d.number = g u d := by
  have hne : ∀ e ∈ ds, e ≠ d → d.number ≠ e.number := fun e he hed hnumber =>
    hed (List.inj_on_of_nodup_map hnodup hd he hnumber).symm
  obtain ⟨u, ⟨honly, hothers⟩, hsame, hturn⟩ := foldl_turn
    (P := fun u => RecordsOnly s u ∧ ∀ n, (∀ e ∈ ds, e.number ≠ n) → u.pointRec n = s.pointRec n)
    (E := fun u => u.pointRec d.number) (f := fun u d => u.setPoint d.number (g u d))
    (fun u hu e he => ⟨hu.1.setPoint _ _, fun n hn => by
      rw [pointRec_setPoint_ne (hn e he).symm, hu.2 n hn]⟩)
    (fun u _ e he hed => pointRec_setPoint_ne (hne e he hed) _ u) (List.Nodup.of_map _ hnodup) hd
    ⟨.refl s, fun _ _ => rfl⟩
  refine ⟨u, honly, hothers, hsame, hturn.trans ?_⟩
  rw [State.pointRec_setPoint _ _ _ _ (by rw [honly.length]; exact hlength), if_pos rfl]

end Replaced

/-! ### Points aged and graded (R46 to R48) -/

/-- A record one second older (R46). -/
def older (r : PointRec) : PointRec := { r with age := addSat max16 r.age 1 }

/-- A point's record graded in a state (R47, R48). -/
def gradeOf (u : State) (d : PointDef) : PointRec := (u.pointRec d.number).grade d (u.substituteRec d)

/-- Every defined point a second older. -/
def agedPoints (s : State) : State := replaced (fun u d => older (u.pointRec d.number)) s.pointDefs s

/-- Then those without a substitute graded. -/
def gradedAlone (s : State) : State :=
  replaced gradeOf (s.pointDefs.filter fun d => d.substitute.isNone) (agedPoints s)

/-- Those with a substitute are graded last (R46). -/
theorem ageAndGrade_eq (s : State) : ageAndGrade s =
    replaced gradeOf (s.pointDefs.filter fun d => d.substitute.isSome) (gradedAlone s) := rfl

theorem recordsOnly_gradedAlone (s : State) : RecordsOnly s (gradedAlone s) :=
  (recordsOnly_replaced _ _ s).trans (recordsOnly_replaced _ _ _)

theorem recordsOnly_ageAndGrade (s : State) : RecordsOnly s (ageAndGrade s) :=
  (recordsOnly_gradedAlone s).trans (recordsOnly_replaced _ _ _)

theorem pointDef_of_mem (h : Shapes s) {d : PointDef} (hd : d ∈ s.pointDefs) : s.pointDef d.number = some d := by
  have hfound : (s.pointDef d.number).isSome = true := List.find?_isSome.mpr ⟨d, hd, by simp⟩
  obtain ⟨e, he⟩ := Option.isSome_iff_exists.mp hfound
  have hmem : e ∈ s.pointDefs := List.mem_of_find?_eq_some he
  rw [he, List.inj_on_of_nodup_map h.numbers.1 hmem hd (number_of_pointDef he)]

/-- An undefined point stands (R46). -/
theorem pointRec_ageAndGrade_undefined {n : Nat} (h : s.pointDef n = none) :
    (ageAndGrade s).pointRec n = s.pointRec n := by
  have hnumber : ∀ d ∈ s.pointDefs, d.number ≠ n := by simpa [State.pointDef] using h
  rw [ageAndGrade_eq, pointRec_replaced_other fun d hd => hnumber d (List.mem_filter.mp hd).1, gradedAlone,
    pointRec_replaced_other fun d hd => hnumber d (List.mem_filter.mp hd).1, agedPoints,
    pointRec_replaced_other hnumber]

section Defined
variable (h : Shapes s) {d : PointDef} (hd : d ∈ s.pointDefs)
include h hd

/-- The definitions of which some are taken hold no other of this number (R52). -/
theorem number_ne_of_filter {p : PointDef → Bool} (hp : p d = false) :
    ∀ e ∈ s.pointDefs.filter p, e.number ≠ d.number := fun e he hnumber => by
  obtain ⟨he, hpe⟩ := List.mem_filter.mp he
  rw [List.inj_on_of_nodup_map h.numbers.1 he hd hnumber, hp] at hpe
  exact Bool.false_ne_true hpe

/-- A point graded among some of the definitions, its record and those of the points outside them as they stood. -/
theorem pointRec_replaced_filter (hu : RecordsOnly s u) {p : PointDef → Bool} (hp : p d = true) :
    ∃ v : State, (∀ n, (∀ e ∈ s.pointDefs.filter p, e.number ≠ n) → v.pointRec n = u.pointRec n) ∧
      (replaced gradeOf (s.pointDefs.filter p) u).pointRec d.number =
        (u.pointRec d.number).grade d (v.substituteRec d) := by
  obtain ⟨v, -, hothers, hstood, hturn⟩ := pointRec_replaced (g := gradeOf) (s := u)
    (h.numbers.1.sublist (List.filter_sublist.map _)) (List.mem_filter.mpr ⟨hd, hp⟩)
    (by rw [hu.length, h.points]; exact h.numbers.2 d hd)
  exact ⟨v, hothers, by rw [hturn, gradeOf, hstood]⟩

theorem pointRec_agedPoints : (agedPoints s).pointRec d.number = older (s.pointRec d.number) := by
  obtain ⟨u, -, -, hstood, hturn⟩ := pointRec_replaced (g := fun u d => older (u.pointRec d.number)) (s := s)
    h.numbers.1 hd (by rw [h.points]; exact h.numbers.2 d hd)
  rw [agedPoints, hturn, hstood]

theorem pointRec_gradedAlone_none (hsub : d.substitute = none) :
    (gradedAlone s).pointRec d.number = (older (s.pointRec d.number)).grade d none := by
  obtain ⟨v, -, hgraded⟩ := pointRec_replaced_filter h hd (recordsOnly_replaced _ s.pointDefs s)
    (p := fun d => d.substitute.isNone) (by rw [hsub]; rfl)
  rw [gradedAlone, agedPoints, hgraded, State.substituteRec, hsub, ← agedPoints, pointRec_agedPoints h hd]
  rfl

theorem pointRec_gradedAlone_some {n : Nat} (hsub : d.substitute = some n) :
    (gradedAlone s).pointRec d.number = older (s.pointRec d.number) := by
  rw [gradedAlone, pointRec_replaced_other (number_ne_of_filter h hd (by rw [hsub]; rfl)), pointRec_agedPoints h hd]

/-- A defined point's record after the point second: a second older, graded by its substitute's record after it, which
is not substituted for in turn (R46 to R48). -/
theorem pointRec_ageAndGrade (hsub : ∀ n, d.substitute = some n → ∀ d', s.pointDef n = some d' → d'.substitute = none) :
    (ageAndGrade s).pointRec d.number =
      (older (s.pointRec d.number)).grade d (d.substitute.map (ageAndGrade s).pointRec) := by
  rw [ageAndGrade_eq]
  cases hn : d.substitute with
  | none =>
    rw [pointRec_replaced_other (number_ne_of_filter h hd (by rw [hn]; rfl)), pointRec_gradedAlone_none h hd hn]
    rfl
  | some n =>
    have hsubstitute : ∀ e ∈ s.pointDefs.filter fun d => d.substitute.isSome, e.number ≠ n := fun e he hnumber => by
      obtain ⟨he, hsome⟩ := List.mem_filter.mp he
      rw [hsub n hn e (hnumber ▸ pointDef_of_mem h he)] at hsome
      exact Bool.false_ne_true hsome
    obtain ⟨v, hothers, hgraded⟩ := pointRec_replaced_filter h hd (recordsOnly_gradedAlone s)
      (p := fun d => d.substitute.isSome) (by rw [hn]; rfl)
    rw [hgraded, pointRec_gradedAlone_some h hd hn, State.substituteRec, hn, Option.map_some, Option.map_some,
      hothers n hsubstitute, pointRec_replaced_other hsubstitute]

end Defined

/-! ### The drives and the alarms told (R51, R55) -/

theorem outsideDrives_tellAgeing (old : Points) (s : State) : outsideDrives (tellAgeing old s) = outsideDrives s :=
  (foldl_view outsideDrives _ (fun u n => outsideDrives_statePointFailed n u) _ _).trans
    (foldl_view outsideDrives _ (fun u n => outsideDrives_pointChanged n _ u) _ s)

theorem pointRec_congr (h : t.points = s.points) (n : Nat) : t.pointRec n = s.pointRec n := by
  rw [State.pointRec, h, State.pointRec]

theorem pointDef_congr (h : t.tables.active = s.tables.active) (n : Nat) : t.pointDef n = s.pointDef n := by
  rw [State.pointDef, State.pointDefs, h, State.pointDef, State.pointDefs]

theorem outsideDrives_pointsPutBack {x : Points} (h : outsideDrives t = outsideDrives (withPoints x s)) :
    outsideDrives { t with points := s.points } = outsideDrives s :=
  congrArg (fun v : State => { v with points := s.points }) h

/-- POINT_FAILED follows the age of a defined point (R51). -/
theorem condition_tellAgeing (h73 : s.alarms.entries.length = 73) (old : Points) {n : Nat} (hn : n < 48) {d : PointDef}
    (hdef : s.pointDef n = some d) : ((tellAgeing old s).alarm (26 + n)).condition =
      (d.alarmEnable && decide (d.fail < (s.pointRec n).age)) := by
  have htold := foldl_view outsideDrives (fun u n => pointChanged n (old.recs.getD n PointRec.start) u)
    (fun u n => outsideDrives_pointChanged n _ u) pointNumbers s
  have hlength : (pointNumbers.foldl (fun u n => pointChanged n (old.recs.getD n PointRec.start) u) s).alarms.entries.length
      = 73 := (worked_foldl _ (fun _ n hu => worked_pointChanged hu n _) (.refl s) pointNumbers).entries.trans h73
  obtain ⟨u, ⟨hframe, hentries⟩, -, hturn⟩ := foldl_turn (l := pointNumbers) (a := n)
    (P := fun u => outsideDrives u = outsideDrives s ∧ u.alarms.entries.length = 73)
    (E := fun u => u.alarm (26 + n)) (f := fun u n => statePointFailed n u)
    (fun u hu m _ => ⟨(outsideDrives_statePointFailed m u).trans hu.1,
      (worked_statePointFailed (.refl u) m).entries.trans hu.2⟩)
    (fun u hu m hm hne => alarm_stateCondition_ne ⟨by omega, by
      have hm48 : m < 48 := by simpa [pointNumbers] using hm
      rw [hu.2]
      omega⟩ (by omega) (by omega) _)
    (by decide) (by simpa [pointNumbers] using hn) ⟨htold, hlength⟩
  rw [tellAgeing, hturn, statePointFailed, condition_stateCondition ⟨by omega, by rw [hentries]; omega⟩,
    pointDef_congr (congrArg Tables.active (tables_of_outsideDrives hframe)), hdef,
    pointRec_congr (points_of_outsideDrives hframe)]

/-- The point second leaves the records aged and graded, and each POINT_FAILED by its point's age. -/
theorem pointSecond_leaves (hon : s.on = true) (hsettled : Settled s) (hshapes : Shapes s) :
    ∃ t, exec .pointSecondTimerExpiry s = .next t ∧ t.points = (ageAndGrade s).points ∧
      (∀ d ∈ s.pointDefs, (t.alarm (26 + d.number)).condition =
        (d.alarmEnable && decide (d.fail < (t.pointRec d.number).age))) ∧
      outsideDrives { t with points := s.points } = outsideDrives s := by
  have honly := recordsOnly_ageAndGrade s
  have htold : outsideDrives (pointSecond s) = outsideDrives (ageAndGrade s) := outsideDrives_tellAgeing _ _
  have hquiet : (pointSecond s).awaits .quiet = false := by
    rw [awaits_of_outsideDrives htold, honly.frame]
    exact hsettled.quiet
  have hexec : exec .pointSecondTimerExpiry s = .next (ended (pointSecond s)) := by
    have hfinish : finishDrives (pointSecond s) = ended (pointSecond s) := finishDrives_eq _ hquiet
    simp only [exec, execPointSecondTimerExpiry, hon, if_true, hfinish]
  have hframe := (outsideDrives_ended (pointSecond s)).trans htold
  have hpoints := points_of_outsideDrives hframe
  refine ⟨_, hexec, hpoints, fun d hd => ?_, ?_⟩
  · have h73 : (ageAndGrade s).alarms.entries.length = 73 :=
      (worked_ageAndGrade (.refl s)).entries.trans hshapes.alarms
    have hdef : (ageAndGrade s).pointDef d.number = some d := by
      rw [pointDef_congr (congrArg Tables.active honly.tables), pointDef_of_mem hshapes hd]
    rw [alarm_ended, pointSecond, condition_tellAgeing h73 _ (hshapes.numbers.2 d hd) hdef, ← pointSecond,
      pointRec_congr hpoints]
  · rw [honly.frame] at hframe
    exact outsideDrives_pointsPutBack hframe

/-- A record a second older and graded, by its age, its history and its substitute (R46 to R48, R66). -/
theorem older_graded (r : PointRec) (d : PointDef) (sub : Option PointRec) :
    let r' := (older r).grade d sub
    r'.age = min 65535 (r.age + 1) ∧ r'.accepted = r.accepted ∧ r'.forced = r.forced ∧
      (r.forced = true → r'.value = r.value ∧ r'.quality = r.quality) ∧
      (r.forced = false → r'.age ≤ d.stale ∨ r'.age ≤ d.fail →
        r'.value = if r.accepted.isSome then r.value else 0) ∧
      (r.forced = false → r'.age ≤ d.stale → r'.quality = (r.accepted.map Prod.snd).getD .none) ∧
      (r.forced = false → d.stale < r'.age → r'.age ≤ d.fail →
        r'.quality = if r.accepted.isSome then .stale else .none) ∧
      (r.forced = false → d.stale < r'.age → d.fail < r'.age →
        (∀ v, sub = some v → v.quality.usable = true → r'.value = v.value ∧ r'.quality = .substituted) ∧
        ((∀ v, sub = some v → v.quality.usable = false) → r'.value = r.value ∧ r'.quality = .failed)) := by
  have hage : ((older r).grade d sub).age = (older r).age := PointRec.age_grade ..
  dsimp only
  rw [hage]
  refine ⟨rfl, PointRec.accepted_grade .., PointRec.forced_grade .., fun hf => ?_, fun hf hwithin => ?_,
    fun hf hstale => ?_, fun hf hstale hfail => ?_, fun hf hstale hfail => ⟨fun v hv husable => ?_, fun hsub => ?_⟩⟩
  · rw [grade_of_forced (r := older r) hf]
    exact ⟨rfl, rfl⟩
  · rw [grade_within (r := older r) hf hwithin]
    rfl
  · rw [grade_within (r := older r) hf (.inl hstale)]
    cases haccepted : r.accepted with
    | none => simp [older, haccepted]
    | some vg => simp [older, haccepted, show addSat max16 r.age 1 ≤ d.stale from hstale]
  · rw [grade_within (r := older r) hf (.inr hfail)]
    cases haccepted : r.accepted with
    | none => simp [older, haccepted]
    | some vg => simp [older, haccepted, show ¬ addSat max16 r.age 1 ≤ d.stale from hstale.not_ge]
  · rw [grade_substituted (r := older r) hf hstale hfail hv husable]
    exact ⟨rfl, rfl⟩
  · rw [grade_failed (r := older r) hf hstale hfail hsub]
    exact ⟨rfl, rfl⟩

/-- Settles O19, by the record that the three passes over the definitions leave of each point. -/
theorem pointsAgeAndAreGraded : Obligations.PointsAgeAndAreGraded := by
  intro s hon hsettled hshapes
  obtain ⟨t, hexec, hpoints, hfailed, hframe⟩ := pointSecond_leaves hon hsettled hshapes
  have honly := recordsOnly_ageAndGrade s
  have hrec : ∀ n, t.pointRec n = (ageAndGrade s).pointRec n := pointRec_congr hpoints
  have hrec' : t.pointRec = (ageAndGrade s).pointRec := funext hrec
  refine ⟨t, hexec, fun d hd hsub => ?_, fun n hn => ?_, ?_, ?_, hframe⟩
  · have hgraded := pointRec_ageAndGrade hshapes hd hsub
    rw [← hrec'] at hgraded
    obtain ⟨age, accepted, forced, kept, value, fresh, stale, past⟩ :=
      older_graded (s.pointRec d.number) d (d.substitute.map t.pointRec)
    rw [← hgraded] at age accepted forced kept value fresh stale past
    refine ⟨age, accepted, forced, kept, value, fresh, stale, fun hf hstale hfail => ?_, hfailed d hd⟩
    obtain ⟨substituted, failed⟩ := past hf hstale hfail
    refine ⟨fun n hn => substituted _ (by rw [hn]; rfl), fun hnone => failed (by simp [hnone]),
      fun n hn husable => failed (by simpa [hn] using husable)⟩
  · rw [hrec, pointRec_ageAndGrade_undefined hn]
  · rw [hpoints, honly.frame]
    rfl
  · rw [hpoints, honly.frame]
    rfl

end Sys2Proof.Proofs
end

section
/-! PROOF. An activation leaves the tables as the commit put them in force, whatever block it reaches; what its event's
end leaves of the blocks (R172). -/

namespace Sys2Proof.Proofs

open Sys2Proof.Machine Sys2Proof.Safety Sys2Proof.Laws

variable {s t u : State}

/-! ### The tables while a block works (R172) -/

theorem tables_expirePassed (s : State) : (expirePassed s).tables = s.tables := by
  unfold expirePassed
  induction s.transit.lap.length generalizing s with
  | zero => rfl
  | succ n ih =>
    unfold expireSome
    split
    · rw [ih]
      cases hlap : s.transit.lap with
      | nil => simp only [resolveOldest, hlap]
      | cons e rest =>
        rw [resolveOldest_lost hlap]
        exact (tables_of_outsideDrives (outsideDrives_failedOutcome e _)).trans rfl
    · rfl

theorem tables_closeRecord (w : Weir) (c : Capture) (s : State) : (closeRecord w c s).tables = s.tables := by
  have hnote : (noteClosed w c s).tables = s.tables := by
    unfold noteClosed
    split <;> rfl
  exact (tables_of_outsideDrives (outsideDrives_stateSpill w _)).trans hnote

theorem tables_weirGone (w : Weir) (s : State) : (weirGone w s).tables = s.tables := by
  unfold weirGone
  dsimp only
  split
  · rfl
  · rfl
  · exact tables_closeRecord w _ _
  · exact tables_closeRecord w _ _

theorem tables_weirActivated (w : Weir) (s : State) : (weirActivated w s).tables = s.tables := by
  unfold weirActivated
  split
  · exact tables_weirGone w s
  · split <;> rfl

theorem tables_stationActivated (old s : State) : (stationActivated old s).tables = s.tables := by
  have hline : (compareStall (compareGap (judgeHoldOut (rebuildGate s)))).tables = s.tables := by
    have hsettled : ∀ v, (settleFairness v).tables = v.tables := fun v => by
      unfold settleFairness
      split <;> rfl
    have hrebuilt : (rebuildGate s).tables = s.tables := hsettled _
    have hstall : ∀ v, (compareStall v).tables = v.tables := fun v => by
      unfold compareStall
      split
      · rfl
      · split
        · exact (tables_of_outsideDrives (t := stateCondition 23 true _) (outsideDrives_stateCondition ..)).trans rfl
        · rfl
    rw [hstall, compareGap_eq, judgeHoldOut_eq]
    exact hrebuilt
  have hwell : ∀ v, (wellChanged old v).tables = v.tables := fun v => by
    unfold wellChanged
    split <;> rfl
  have hfresh : ∀ p v, (freshSources p v).tables = v.tables := fun p v =>
    (tables_of_outsideDrives (t := statePumpConditions p _) (outsideDrives_statePumpConditions ..)).trans rfl
  have hinstalled : ∀ v, (installedChanged old v).tables = v.tables := fun v => by
    unfold installedChanged
    split
    · rfl
    · refine (eachPump_view State.tables _ (fun p w => ?_) _).trans rfl
      split
      · rfl
      · exact hfresh p w
  have hroles : ∀ p v, (rolesChanged old p v).tables = v.tables := fun p v =>
    tables_of_outsideDrives (by simp [rolesChanged])
  have hweir : ∀ w v, (weirRoleChanged old w v).tables = v.tables := fun w v => by
    unfold weirRoleChanged
    repeat' split
    exacts [rfl, tables_weirGone w v, rfl, rfl]
  have hadded : ∀ v, (annunciatorAdded old v).tables = v.tables := fun v => by
    unfold annunciatorAdded
    split
    · exact tables_of_outsideDrives (outsideDrives_postAnnunciate _ v)
    · rfl
  rw [stationActivated, hadded, eachWeir_view State.tables _ hweir,
    eachSide_view State.tables _ fun r v => tables_of_outsideDrives (outsideDrives_judgeRakeMode r v),
    eachPump_view State.tables _ hroles, tables_of_outsideDrives (outsideDrives_judgeSupply _), hinstalled, hwell,
    tables_expirePassed, hline]

/-- The points after a POINT activation, `old` the state before it (R53). -/
def pointsRedefined (old s : State) : Points :=
  { s.points with recs := pointNumbers.map fun n => pointRecAfter (old.pointDef n) (s.pointDef n) (old.pointRec n) }

/-- A POINT activation touches points, drives and alarms (R53, R55). -/
theorem outsideDrives_pointActivated (old s : State) : outsideDrives (pointActivated old s) =
    outsideDrives (withPoints (pointsRedefined old s) s) := by
  have hredefined : ∀ v n, outsideDrives (pointRedefined old n v) = outsideDrives v := fun v n => by
    unfold pointRedefined
    repeat' split
    all_goals simp
  rw [pointActivated, foldl_view outsideDrives _ hredefined,
    foldl_view outsideDrives _ fun v n => outsideDrives_pointChanged n _ v]
  rfl

theorem outsideAlarms_alarmActivated (p interval n : Nat) (s : State) :
    outsideAlarms (alarmActivated p interval n s) = outsideAlarms s := by
  unfold alarmActivated
  split
  · exact outsideAlarms_disableAlarm n s
  · rw [outsideAlarms_compareRenotify]
    split
    · exact outsideAlarms_changeAlarm ..
    · rfl

theorem tables_alarmsActivated (old s : State) : (alarmsActivated old s).tables = s.tables := by
  have hsummary : ∀ interval v, (compareSummary interval v).tables = v.tables := fun interval v => by
    unfold compareSummary
    dsimp only
    split <;> rfl
  rw [alarmsActivated, hsummary]
  exact foldl_view State.tables _ (fun v n =>
    (readers_of_outsideAlarms (outsideAlarms_alarmActivated _ _ n v)).1) _ s

/-- The blocks that an activation reaches leave the tables (R172). -/
theorem tables_deliver (x : TableId) (old s : State) : (deliver x old s).tables = s.tables := by
  cases x with
  | station => exact tables_stationActivated old s
  | access | tap | storage | band => rfl
  | point => exact (tables_of_outsideDrives (t := pointActivated old s) (outsideDrives_pointActivated old s)).trans rfl
  | pump =>
    have hstagger : ∀ v, (compareStagger v).tables = v.tables := fun v => by
      unfold compareStagger
      split <;> rfl
    exact (hstagger _).trans (eachPump_view State.tables _ (fun p v => (pumpWork_pumpActivated old v).tables) s)
  | screen => exact eachSide_view State.tables _ (fun r v => (screenWork_screenActivated old r v).tables) s
  | weir => exact eachWeir_view State.tables _ tables_weirActivated s
  | alarm => exact tables_alarmsActivated old s

/-! ### The end of the event (R79, R156, R172) -/

/-- The end of an activation's event leaves the blocks that are no drives, and every alarm entry. -/
structure BlocksStand (u t : State) : Prop where
  active : t.tables.active = u.tables.active
  points : t.points = u.points
  flow : t.flow = u.flow
  spill : t.spill = u.spill
  report : t.report = u.report
  clock : t.clock = u.clock
  chip : t.chip = u.chip
  bands : t.seq.engaged = u.seq.engaged ∧ t.seq.demand = u.seq.demand
  alarm : ∀ n, t.alarm n = u.alarm n

theorem blocksStand_ended (u : State) : BlocksStand u (ended u) := by
  have hframe := outsideDrives_ended u
  obtain ⟨hengaged, hdemand, -⟩ := bands_of_outsideDrives hframe
  exact ⟨congrArg Tables.active (tables_of_outsideDrives hframe), points_of_outsideDrives hframe,
    flow_of_outsideDrives hframe, spill_of_outsideDrives hframe, report_of_outsideDrives hframe,
    clock_of_outsideDrives hframe, chip_of_outsideDrives hframe, ⟨hengaged, hdemand⟩, fun n => alarm_ended n u⟩

/-- A commit with method IMMEDIATE that passes: its table in force, the work of the block it reaches, and one response
(R172, R182). -/
theorem commit_delivered {src tag table method : Byte} {check : BitVec 16} {x : TableId} {gs : List (List Byte)}
    {d : TableData} (h : Commits s src table method check x gs d) (hquiet : s.awaits .quiet = false) :
    ∃ t, exec (.tableCommit src tag table method check) s = .next t ∧
      t.tables.active = s.tables.active.put gs.flatten d ∧
      BlocksStand (deliver x (beforeActivation x gs s) (putInForce x gs d s)) t := by
  have htables := tables_deliver x (beforeActivation x gs s) (putInForce x gs d s)
  obtain ⟨rest, hexec⟩ := exec_tableCommit (tag := tag) h hquiet htables
  have hstand : BlocksStand (setOutcome x .activated (deliver x (beforeActivation x gs s) (putInForce x gs d s)))
      (ended (activated x gs d s)) := blocksStand_ended _
  have hactive := congrArg Tables.active htables
  rw [(putInForce_spec x gs d s).active] at hactive
  generalize ended (activated x gs d s) = e at hexec hstand
  generalize deliver x (beforeActivation x gs s) (putInForce x gs d s) = v at hactive hstand ⊢
  exact ⟨_, hexec, hstand.active.trans hactive, hstand.active, hstand.points, hstand.flow, hstand.spill,
    hstand.report, hstand.clock, hstand.chip, hstand.bands, hstand.alarm⟩

/-- A commit of a table that reaches no block touches no more outside the drives than the table manager's records and
the response (R172). -/
theorem commit_reachesNone {src tag table method : Byte} {check : BitVec 16} {x : TableId} {gs : List (List Byte)}
    {d : TableData} (h : Commits s src table method check x gs d) (hquiet : s.awaits .quiet = false)
    (hx : x = .tap ∨ x = .access) (ht : exec (.tableCommit src tag table method check) s = .next t) :
    outsideDrives { t with
      tables := s.tables
      transit := { t.transit with response := s.transit.response } } = outsideDrives s := by
  have hnone : ∀ old v, deliver x old v = v := fun _ _ => by rcases hx with rfl | rfl <;> rfl
  obtain ⟨rest, hexec⟩ := exec_tableCommit (tag := tag) h hquiet (congrArg State.tables (hnone _ _))
  have hdone : activated x gs d s = setOutcome x .activated (putInForce x gs d s) :=
    congrArg (setOutcome x .activated) (hnone _ _)
  have hframe : outsideDrives (ended (activated x gs d s)) =
      outsideDrives (setOutcome x .activated (putInForce x gs d s)) :=
    (outsideDrives_ended _).trans (congrArg outsideDrives hdone)
  have hforce := outsideDrives_of_outsideAlarms (putInForce_spec x gs d s).frame
  generalize ended (activated x gs d s) = e at hexec hframe
  have hsame : outsideDrives { e with tables := s.tables } = outsideDrives s :=
    (congrArg (fun w : State => { w with tables := s.tables }) hframe).trans
      (congrArg (fun w : State => { w with tables := s.tables }) hforce)
  have hresponse : e.transit.response = s.transit.response :=
    response_of_outsideDrives (t := { e with tables := s.tables }) hsame
  obtain rfl := Host.Outcome.next.inj (hexec.symm.trans ht)
  rw [← hresponse]
  exact hsame

/-- A table put in force leaves every alarm entry but STORE_FAULT's (R173). -/
theorem alarm_putInForce (h73 : s.alarms.entries.length = 73) (x : TableId) (gs : List (List Byte)) (d : TableData)
    {n : Nat} (hn : 1 ≤ n) (hne : n ≠ 24) : (putInForce x gs d s).alarm n = s.alarm n := by
  have hqueue : ∀ v, (queueWrite x gs.flatten v).alarm n = v.alarm n := fun v => by
    unfold queueWrite
    rw [startWrite_eq]
    rfl
  rw [putInForce, hqueue]
  exact alarm_stateCondition_ne ⟨by omega, by
    change 24 ≤ s.alarms.entries.length
    omega⟩ hn hne _

end Sys2Proof.Proofs
end

section
/-! PROOF. The work of an activation at the points and at the bands, and what a table put in force leaves (R53, R102,
R172). -/

namespace Sys2Proof.Proofs

open Sys2Proof.Machine Sys2Proof.Safety Sys2Proof.Laws

variable {s t u : State}

/-- A table put in force leaves the clock, the reports and the weirs (R172). -/
theorem PutInForce.reports {x : TableId} {image : List Byte} {d : TableData} (h : PutInForce x image d s u) :
    u.clock = s.clock ∧ u.report = s.report ∧ u.spill = s.spill := by
  have hdrives := outsideDrives_of_outsideAlarms h.frame
  exact ⟨(clock_of_outsideDrives hdrives).trans rfl, (report_of_outsideDrives hdrives).trans rfl,
    (spill_of_outsideDrives hdrives).trans rfl⟩

/-! ### POINT (R53) -/

theorem points_pointActivated (old s : State) : (pointActivated old s).points = pointsRedefined old s :=
  (points_of_outsideDrives (outsideDrives_pointActivated old s)).trans rfl

theorem pointRec_pointsRedefined (h : t.points = pointsRedefined s u) {n : Nat} (hn : n < 48) :
    t.pointRec n = pointRecAfter (s.pointDef n) (u.pointDef n) (s.pointRec n) := by
  rw [State.pointRec, h, pointsRedefined, List.getD_eq_getElem?_getD, List.getElem?_map, pointNumbers,
    List.getElem?_range hn]
  rfl

theorem outsideDrives_pointRedefined (old : State) (n : Nat) (s : State) :
    outsideDrives (pointRedefined old n s) = outsideDrives s := by
  unfold pointRedefined
  repeat' split
  all_goals simp

theorem entries_pointRedefined (old : State) (n : Nat) (s : State) :
    (pointRedefined old n s).alarms.entries.length = s.alarms.entries.length := by
  unfold pointRedefined
  repeat' split
  exacts [rfl, (worked_stateCondition (.refl s) _ _).entries, (worked_stateCondition (.refl s) _ _).entries, rfl]

theorem pointRedefined_standing {old : State} {n : Nat} {a b : PointDef} (ha : old.pointDef n = some a)
    (hb : s.pointDef n = some b) (hcls : a.cls = b.cls) : pointRedefined old n s = s := by
  simp only [pointRedefined, ha, hb, if_pos hcls]

theorem pointRedefined_gone {old : State} {n : Nat} {a : PointDef} (ha : old.pointDef n = some a)
    (hgone : ∀ b, s.pointDef n = some b → a.cls ≠ b.cls) : pointRedefined old n s = stateCondition (26 + n) false s := by
  cases hb : s.pointDef n with
  | none => simp only [pointRedefined, ha, hb]
  | some b => simp only [pointRedefined, ha, hb, if_neg (hgone b hb)]

theorem alarm_pointRedefined_ne (h73 : s.alarms.entries.length = 73) (old : State) {m n : Nat} (hm : m < 48)
    (hne : m ≠ n) : (pointRedefined old m s).alarm (26 + n) = s.alarm (26 + n) := by
  have hother : (stateCondition (26 + m) false s).alarm (26 + n) = s.alarm (26 + n) :=
    alarm_stateCondition_ne ⟨by omega, by omega⟩ (by omega) (by omega) _
  unfold pointRedefined
  repeat' split
  exacts [rfl, hother, hother, rfl]

/-- POINT_FAILED of a point after a POINT activation is what the turn of its own point leaves (R53). -/
theorem alarm_pointActivated (h73 : s.alarms.entries.length = 73) (old : State) {n : Nat} (hn : n < 48) :
    ∃ v, v.pointDef n = s.pointDef n ∧ v.alarms.entries.length = 73 ∧ v.alarm (26 + n) = s.alarm (26 + n) ∧
      (pointActivated old s).alarm (26 + n) = (pointRedefined old n v).alarm (26 + n) := by
  set told := pointNumbers.foldl (fun v m => pointChanged m (old.pointRec m) v) (withPoints (pointsRedefined old s) s)
    with htold
  have hframe : outsideDrives told = outsideDrives (withPoints (pointsRedefined old s) s) :=
    foldl_view outsideDrives _ (fun v m => outsideDrives_pointChanged m _ v) _ _
  have hlater : laterEntries told = laterEntries s :=
    foldl_view laterEntries _ (fun v m => laterEntries_pointChanged m _ v) _ _
  have hlength : told.alarms.entries.length = 73 :=
    (worked_foldl _ (fun _ m hu => worked_pointChanged hu m _) (.refl _) _).entries.trans h73
  obtain ⟨v, ⟨hv, hv73⟩, hsame, hturn⟩ := foldl_turn (l := pointNumbers) (a := n)
    (P := fun v => outsideDrives v = outsideDrives told ∧ v.alarms.entries.length = 73)
    (E := fun v => v.alarm (26 + n)) (f := fun v m => pointRedefined old m v)
    (fun v hv m _ => ⟨(outsideDrives_pointRedefined old m v).trans hv.1, (entries_pointRedefined old m v).trans hv.2⟩)
    (fun v hv m hm hne => alarm_pointRedefined_ne hv.2 old (by simpa [pointNumbers] using hm) hne)
    (by decide) (by simpa [pointNumbers] using hn) ⟨rfl, hlength⟩
  have htables : v.tables = s.tables := (tables_of_outsideDrives (hv.trans hframe)).trans rfl
  exact ⟨v, pointDef_congr (congrArg Tables.active htables) n, hv73,
    hsame.trans (alarm_of_laterEntries hlater (by omega)), hturn⟩

/-- POINT at one point: the record and POINT_FAILED stand with the class, and are as at a start otherwise (R53). -/
theorem point_pointActivated (h73 : s.alarms.entries.length = 73) (old : State)
    (ht : BlocksStand (pointActivated old s) t) {n : Nat} (hn : n < 48) :
    (∀ a b, old.pointDef n = some a → s.pointDef n = some b → a.cls = b.cls →
      t.pointRec n = old.pointRec n ∧ (t.alarm (26 + n)).condition = (s.alarm (26 + n)).condition) ∧
    (∀ a, old.pointDef n = some a → (∀ b, s.pointDef n = some b → a.cls ≠ b.cls) →
      t.pointRec n = PointRec.start ∧ (t.alarm (26 + n)).condition = false) ∧
    (old.pointDef n = none → t.pointRec n = PointRec.start) := by
  have hrec := pointRec_pointsRedefined (ht.points.trans (points_pointActivated old s)) hn
  obtain ⟨v, hdef, hv73, hsame, hturn⟩ := alarm_pointActivated h73 old hn
  rw [← ht.alarm] at hturn
  refine ⟨fun a b ha hb hcls => ?_, fun a ha hgone => ?_, fun hnone => ?_⟩
  · rw [hturn, pointRedefined_standing ha (hdef.trans hb) hcls, hsame, hrec, ha, hb]
    exact ⟨if_pos hcls, rfl⟩
  · rw [hturn, pointRedefined_gone ha (fun b hb => hgone b (hdef ▸ hb)),
      condition_stateCondition ⟨by omega, by omega⟩, hrec, ha]
    refine ⟨?_, rfl⟩
    cases hb : s.pointDef n with
    | none => rfl
    | some b => exact if_neg (hgone b hb)
  · rw [hrec, hnone]
    rfl

/-! ### BAND (R102) -/

theorem length_bandsAtActivation (bands : List Band) (old : List Bool) :
    (s.bandsAtActivation bands old).length = bands.length := by
  unfold State.bandsAtActivation
  split
  · exact List.length_map ..
  · simp

theorem getElem?_bandsAtActivation {bands : List Band} {old : List Bool} {i : Nat} {b : Band} (hb : bands[i]? = some b) :
    (s.bandsAtActivation bands old)[i]? = some (decide (s.flow.record.basis = .filtered) &&
      (decide (b.start ≤ s.flow.record.level) ||
        (decide (b.stop ≤ s.flow.record.level) && (old[i]?).getD false))) := by
  obtain ⟨hi, -⟩ := List.getElem?_eq_some_iff.mp hb
  have hpadded : (old ++ List.replicate bands.length false)[i]? = some ((old[i]?).getD false) := by
    rcases lt_or_ge i old.length with h | h
    · rw [List.getElem?_append_left h, List.getElem?_eq_getElem h]
      rfl
    · rw [List.getElem?_append_right h, List.getElem?_replicate_of_lt (by omega), List.getElem?_eq_none h]
      rfl
  by_cases hbasis : s.flow.record.basis = .filtered
  · have hlevel : s.usableLevel = some s.flow.record.level := if_pos hbasis
    have hzip : (bands.zip (old ++ List.replicate bands.length false))[i]? = some (b, (old[i]?).getD false) :=
      List.getElem?_zip_eq_some.mpr ⟨hb, hpadded⟩
    rw [State.bandsAtActivation, hlevel, List.getElem?_map, hzip, hbasis]
    rfl
  · have hlevel : s.usableLevel = none := if_neg hbasis
    rw [State.bandsAtActivation, hlevel, List.getElem?_map, hb, decide_eq_false hbasis]
    rfl

end Sys2Proof.Proofs
end

section
/-! PROOF. A WEIR activation at one weir, and at both: an ONSET ends, an open record is flagged, and closed where its
weir is defined no more (R151). -/

namespace Sys2Proof.Proofs

open Sys2Proof.Machine Sys2Proof.Safety Sys2Proof.Laws

variable {s t u : State} {w : Weir}

/-- The weir has a spill under way (R140, R142). -/
abbrev Spills (s : State) (w : Weir) : Prop := (s.weir w).state = .spilling ∨ (s.weir w).state = .receding

/-- Where a record that an activation closes ends (R151). -/
def endsAt (s : State) (w : Weir) : Capture :=
  if (s.weir w).state = .receding then (s.weir w).candidate.getD ⟨s.clockTime, s.clock.running⟩
  else ⟨s.clockTime, s.clock.running⟩

/-- A record flagged TABLE_CHANGED (R151). -/
def tableChanged (r : SpillRec) : SpillRec := { r with flags := { r.flags with tableChanged := true } }

/-- What a WEIR activation makes of a record, in the state with the table in force (R151). -/
def recordActivated (s : State) (r : SpillRec) : SpillRec :=
  if r.state = .opened ∧ Spills s r.weir then
    if (s.weirDef r.weir).isSome then tableChanged r else (tableChanged r).closed (endsAt s r.weir)
  else r

theorem weir_recordActivated (s : State) (r : SpillRec) : (recordActivated s r).weir = r.weir := by
  unfold recordActivated
  repeat' split
  all_goals rfl

theorem recordActivated_congr (h : t.tables = s.tables) (hclock : t.clock = s.clock) {r : SpillRec}
    (hw : t.weir r.weir = s.weir r.weir) : recordActivated t r = recordActivated s r := by
  have hdef : t.weirDef r.weir = s.weirDef r.weir := by rw [State.weirDef, h, State.weirDef]
  have htime : t.clockTime = s.clockTime := by rw [State.clockTime, hclock, State.clockTime]
  have hends : endsAt t r.weir = endsAt s r.weir := by rw [endsAt, hw, htime, hclock, endsAt]
  simp only [recordActivated, Spills, hw, hdef, hends]

/-! ### One weir's turn -/

/-- What a WEIR activation leaves at one weir: its records and its state, SPILL where it closes, and nothing of the
other weir (R151). -/
structure WeirTurn (w : Weir) (s t : State) : Prop where
  log : t.spill.log = s.spill.log.map fun r => if r.weir = w then recordActivated s r else r
  weir : t.weir w =
    if (s.weir w).state = .dry ∨ (Spills s w ∧ (s.weirDef w).isSome = true) then s.weir w else WeirRec.dry
  numbers : t.spill.falseOnsets = s.spill.falseOnsets ∧ t.spill.nextNumber = s.spill.nextNumber
  others : OtherWeirsStand w s t
  clock : t.clock = s.clock
  entries : t.alarms.entries.length = s.alarms.entries.length
  condition : Spills s w → (s.weirDef w).isSome = false → (t.alarm w.spillEntry).condition = false
  entry : ∀ w', w' ≠ w → t.alarm w'.spillEntry = s.alarm w'.spillEntry

theorem log_noSpill (h : ¬Spills s w) :
    (s.spill.log.map fun r => if r.weir = w then recordActivated s r else r) = s.spill.log := by
  refine (List.map_congr_left (g := id) fun r _ => ?_).trans (List.map_id _)
  split
  · subst w
    exact if_neg fun hr => h hr.2
  · rfl

theorem weirTurn_dry (h : (s.weir w).state = .dry) : WeirTurn w s s where
  log := (log_noSpill (by simp [Spills, h])).symm
  weir := (if_pos (.inl h)).symm
  numbers := ⟨rfl, rfl⟩
  others := ⟨rfl, rfl, fun _ _ => rfl⟩
  clock := rfl
  entries := rfl
  condition hspills := absurd hspills (by simp [Spills, h])
  entry _ _ := rfl

theorem weirTurn_onset (h : (s.weir w).state = .onset) : WeirTurn w s (s.setWeir w WeirRec.dry) where
  log := (log_noSpill (s := s) (w := w) (by simp [Spills, h])).symm
  weir := by simp [State.weir_setWeir, Spills, h]
  numbers := ⟨rfl, rfl⟩
  others := otherWeirsStand_setWeir w _ s
  clock := rfl
  entries := rfl
  condition hspills := absurd hspills (by simp [Spills, h])
  entry _ _ := rfl

theorem recordActivated_spills {r : SpillRec} (hw : r.weir = w) (h : Spills s w) : recordActivated s r =
    if r.state = .opened then
      if (s.weirDef w).isSome then tableChanged r else (tableChanged r).closed (endsAt s w)
    else r := by
  subst w
  simp only [recordActivated, h, and_true]

theorem log_flagged (h : Spills s w) (hdef : (s.weirDef w).isSome = true) : (flagChanged w s).spill.log =
    s.spill.log.map fun r => if r.weir = w then recordActivated s r else r := by
  refine List.map_congr_left fun r _ => ?_
  by_cases hw : r.weir = w
  · rw [if_pos hw, recordActivated_spills hw h, if_pos hdef]
    simp only [hw, true_and, tableChanged]
  · rw [if_neg hw, if_neg fun hr => hw hr.1]

theorem weirTurn_flagged (h : Spills s w) (hdef : (s.weirDef w).isSome = true) : WeirTurn w s (flagChanged w s) where
  log := log_flagged h hdef
  weir := (if_pos (.inr ⟨h, hdef⟩)).symm
  numbers := ⟨rfl, rfl⟩
  others := otherWeirsStand_changeOpen w _ s
  clock := rfl
  entries := rfl
  condition _ hnone := absurd hdef (by simp [hnone])
  entry _ _ := rfl

theorem spill_closeRecord (w : Weir) (c : Capture) (s : State) : (closeRecord w c s).spill =
    ((changeOpen w (fun r => r.closed c) s).setWeir w WeirRec.dry).spill := by
  have hnote : (noteClosed w c s).spill = s.spill := by
    unfold noteClosed
    split <;> rfl
  rw [closeRecord, spill_of_outsideDrives (outsideDrives_stateSpill w _)]
  simp only [State.setWeir, changeOpen, hnote]

theorem log_closed (h : Spills s w) (hdef : (s.weirDef w).isSome = false) :
    (closeRecord w (endsAt s w) (flagChanged w s)).spill.log =
      s.spill.log.map fun r => if r.weir = w then recordActivated s r else r := by
  rw [spill_closeRecord]
  change List.map _ (List.map _ s.spill.log) = _
  rw [List.map_map]
  refine List.map_congr_left fun r _ => ?_
  by_cases hw : r.weir = w
  · rw [if_pos hw, recordActivated_spills hw h, hdef, Function.comp_apply]
    by_cases hopen : r.state = .opened
    · simp only [hw, hopen, and_self, if_true, tableChanged]
      rfl
    · simp only [hopen, and_false, if_false]
  · rw [if_neg hw, Function.comp_apply, if_neg (c := r.weir = w ∧ r.state = .opened) fun hr => hw hr.1,
      if_neg fun hr => hw hr.1]

theorem listed_spillEntry (h73 : s.alarms.entries.length = 73) (w : Weir) : Listed s w.spillEntry := by
  cases w <;> exact ⟨by decide, by rw [h73]; decide⟩

theorem spillEntry_ne {w' : Weir} (h : w' ≠ w) : w'.spillEntry ≠ w.spillEntry := by
  cases w <;> cases w'
  exacts [absurd rfl h, by decide, by decide, absurd rfl h]

/-- A closed record states SPILL absent, after work that leaves alarms and clock (R144). -/
theorem closeRecord_stated (w : Weir) (c : Capture) (s : State) : ∃ v,
    closeRecord w c s = stateCondition w.spillEntry false v ∧ v.alarms = s.alarms ∧ v.clock = s.clock := by
  set v := (changeOpen w (fun r => r.closed c) (noteClosed w c s)).setWeir w WeirRec.dry with hv
  have hnote : (noteClosed w c s).alarms = s.alarms ∧ (noteClosed w c s).clock = s.clock := by
    unfold noteClosed
    split <;> exact ⟨rfl, rfl⟩
  have hdry : v.weir w = WeirRec.dry := by rw [hv, State.weir_setWeir, if_pos rfl]
  refine ⟨v, ?_, hnote⟩
  change stateCondition w.spillEntry (match (v.weir w).state with
    | .spilling => true
    | .receding => true
    | _ => false) v = _
  rw [hdry]
  rfl

theorem weirTurn_closed (h73 : s.alarms.entries.length = 73) (h : Spills s w) (hdef : (s.weirDef w).isSome = false) :
    WeirTurn w s (closeRecord w (endsAt s w) (flagChanged w s)) := by
  have hnotDry : ¬(s.weir w).state = .dry := by rcases h with h | h <;> simp [h]
  have hworked : Worked s (closeRecord w (endsAt s w) (flagChanged w s)) := by simp [Worked.refl]
  obtain ⟨v, hstated, halarms, hclock⟩ := closeRecord_stated w (endsAt s w) (flagChanged w s)
  have hlisted : Listed v w.spillEntry := listed_spillEntry ((congrArg (·.entries.length) halarms).trans h73) w
  refine ⟨log_closed h hdef, ?_, ?_, ?_, ?_, hworked.entries, fun _ _ => ?_, fun w' hne => ?_⟩
  · rw [if_neg (by simp [hnotDry, hdef]), State.weir, spill_closeRecord]
    exact (State.weir_setWeir (s := changeOpen w _ _) w w _).trans (if_pos rfl)
  · rw [spill_closeRecord]
    exact ⟨rfl, rfl⟩
  · exact (otherWeirsStand_changeOpen w _ s).trans (otherWeirsStand_closeRecord w (endsAt s w) (flagChanged w s))
  · rw [hstated, clock_of_outsideDrives (outsideDrives_stateCondition ..)]
    exact hclock
  · rw [hstated, condition_stateCondition hlisted]
  · rw [hstated, alarm_stateCondition_ne hlisted (listed_spillEntry h73 w').1 (spillEntry_ne hne), State.alarm, halarms]
    rfl

theorem weirActivated_dry (h : (s.weir w).state = .dry) : weirActivated w s = s := by
  unfold weirActivated weirGone
  split <;> simp only [h]

theorem weirActivated_onset (h : (s.weir w).state = .onset) : weirActivated w s = s.setWeir w WeirRec.dry := by
  unfold weirActivated weirGone
  split <;> simp only [h]

theorem weirActivated_spills (h : Spills s w) : weirActivated w s =
    if (s.weirDef w).isSome then flagChanged w s else closeRecord w (endsAt s w) (flagChanged w s) := by
  unfold weirActivated weirGone endsAt
  rcases h with h | h <;> cases s.weirDef w <;> simp [h]

/-- The turn of one weir in a WEIR activation (R151). -/
theorem weirTurn_weirActivated (h73 : s.alarms.entries.length = 73) (w : Weir) : WeirTurn w s (weirActivated w s) := by
  have hspills : Spills s w → WeirTurn w s (weirActivated w s) := fun h => by
    rw [weirActivated_spills h]
    split
    · exact weirTurn_flagged h ‹_›
    · exact weirTurn_closed h73 h (Bool.eq_false_iff.mpr ‹_›)
  cases h : (s.weir w).state with
  | dry =>
    rw [weirActivated_dry h]
    exact weirTurn_dry h
  | onset =>
    rw [weirActivated_onset h]
    exact weirTurn_onset h
  | spilling => exact hspills (.inl h)
  | receding => exact hspills (.inr h)

/-! ### Both weirs -/

/-- The two turns together: every record by its own weir, every weir by its own record (R151). -/
structure WeirsActivated (s t : State) : Prop where
  log : t.spill.log = s.spill.log.map (recordActivated s)
  weir : ∀ w, t.weir w =
    if (s.weir w).state = .dry ∨ (Spills s w ∧ (s.weirDef w).isSome = true) then s.weir w else WeirRec.dry
  numbers : t.spill.falseOnsets = s.spill.falseOnsets ∧ t.spill.nextNumber = s.spill.nextNumber
  condition : ∀ w, Spills s w → (s.weirDef w).isSome = false → (t.alarm w.spillEntry).condition = false

theorem WeirTurn.both (h1 : WeirTurn .w1 s u) (h2 : WeirTurn .w2 u t) : WeirsActivated s t := by
  have hw2 : u.weir .w2 = s.weir .w2 := h1.others.weirs .w2 (by decide)
  have hspills : Spills u .w2 ↔ Spills s .w2 := by rw [Spills, hw2]
  have hdef : u.weirDef .w2 = s.weirDef .w2 := by rw [State.weirDef, h1.others.tables, State.weirDef]
  refine ⟨?_, fun w => ?_, ⟨h2.numbers.1.trans h1.numbers.1, h2.numbers.2.trans h1.numbers.2⟩, fun w => ?_⟩
  · rw [h2.log, h1.log, List.map_map]
    refine List.map_congr_left fun r _ => ?_
    cases hw : r.weir with
    | w1 => simp [hw, weir_recordActivated]
    | w2 => simp [hw, recordActivated_congr h1.others.tables h1.clock (r := r) (by rw [hw, hw2])]
  · cases w with
    | w1 => rw [h2.others.weirs .w1 (by decide), h1.weir]
    | w2 => simp only [h2.weir, hw2, hspills, hdef]
  · cases w with
    | w1 =>
      intro h hnone
      rw [h2.entry .w1 (by decide)]
      exact h1.condition h hnone
    | w2 => exact fun h hnone => h2.condition (hspills.mpr h) (hdef ▸ hnone)

/-- What a WEIR activation leaves of the spill records and of SPILL (R151). -/
theorem weirsActivated (h73 : s.alarms.entries.length = 73) : WeirsActivated s (eachWeir weirActivated s) :=
  have h1 := weirTurn_weirActivated h73 .w1
  h1.both (weirTurn_weirActivated (h1.entries.trans h73) .w2)

end Sys2Proof.Proofs
end

section
/-! PROOF. An ALARM activation at one entry and at all of them (R159, R160, R161). -/

namespace Sys2Proof.Proofs

open Sys2Proof.Machine Sys2Proof.Safety Sys2Proof.Laws

variable {s t u : State} {n : Nat}

/-! ### One entry's turn -/

/-- Whether the renotify timer of an entry may run: it is notified and of priority 1 (R159). -/
abbrev Renotifies (s : State) (n : Nat) : Prop :=
  1 ≤ s.priority n ∧ s.priority n ≤ s.notifyThreshold ∧ s.priority n = 1

theorem notified_eq : (s.notified n && decide (s.priority n = 1)) = decide (Renotifies s n) := by
  simp [State.notified, Renotifies, Bool.and_assoc]

/-- The renotify timer of an entry after its interval is compared with the one before (R159). -/
def comparedRenotify (s : State) (old n : Nat) (e : AlarmEntry) : Option Nat :=
  if renotifyIn s.alarmTable = 0 ∨ ¬Renotifies s n then none
  else if renotifyIn s.alarmTable = old then e.renotify
  else if old = 0 then
    if e.state = .activeUnack ∨ e.state = .returnedUnack then some s.now else e.renotify
  else e.renotify.map fun since => if 60 * renotifyIn s.alarmTable ≤ s.now - since then s.now else since

theorem unack_iff (st : AlarmState) : st.unack = true ↔ st = .activeUnack ∨ st = .returnedUnack := by
  cases st <;> simp [AlarmState.unack]

theorem renotifies_congr (htable : t.alarmTable = s.alarmTable) : Renotifies t n ↔ Renotifies s n := by
  simp only [Renotifies, State.priority, State.notifyThreshold, htable]

theorem comparedRenotify_congr (htable : t.alarmTable = s.alarmTable) (hnow : t.now = s.now) (old n : Nat)
    (e : AlarmEntry) : comparedRenotify t old n e = comparedRenotify s old n e := by
  simp only [comparedRenotify, renotifies_congr htable, htable, hnow]

/-- The readers of an alarm's turn agree where all but the alarms does. -/
theorem alarmReaders_of_outsideAlarms (h : outsideAlarms t = outsideAlarms s) :
    t.alarmTable = s.alarmTable ∧ t.now = s.now ∧ t.clockTime = s.clockTime := by
  obtain ⟨htables, hclock, hchip⟩ := readers_of_outsideAlarms h
  refine ⟨?_, ?_, ?_⟩
  · rw [State.alarmTable, htables, State.alarmTable]
  · rw [State.now, hchip, State.now]
  · rw [State.clockTime, hclock, State.clockTime]

theorem Listed.changeAlarm (h : Listed s n) (st : AlarmState) : Listed (changeAlarm n st s) n := by
  refine ⟨h.1, h.2.trans_eq ?_⟩
  rw [entries_changeAlarm]
  exact (List.length_set ..).symm

theorem alarm_repeatAlarm (h : Listed s n) :
    (repeatAlarm n s).alarm n = { s.alarm n with renotify := some s.now } :=
  alarm_setAlarm_self h _

theorem map_reached (s : State) (length : Nat) (timer : Option Nat) :
    (timer.map fun since => if length ≤ s.now - since then s.now else since) =
      if s.reached length timer then some s.now else timer := by
  cases timer with
  | none => rfl
  | some since => by_cases h : length ≤ s.now - since <;> simp [State.reached, State.elapsed, h]

theorem alarm_compareRenotify (h : Listed s n) (old : Nat) : (compareRenotify old n s).alarm n =
    { s.alarm n with renotify := comparedRenotify s old n (s.alarm n) } := by
  unfold compareRenotify comparedRenotify
  dsimp only
  simp only [notified_eq, map_reached, decide_eq_false_iff_not]
  by_cases hstops : renotifyIn s.alarmTable = 0 ∨ ¬Renotifies s n
  · rw [if_pos hstops, if_pos hstops, alarm_setAlarm_self h]
  rw [if_neg hstops, if_neg hstops]
  by_cases hsame : renotifyIn s.alarmTable = old
  · rw [if_pos hsame, if_pos hsame]
  rw [if_neg hsame, if_neg hsame]
  by_cases hold : old = 0
  · rw [if_pos hold, if_pos hold]
    by_cases hunack : (s.alarm n).state.unack = true
    · rw [if_pos hunack, if_pos ((unack_iff _).mp hunack), alarm_setAlarm_self h]
    · rw [if_neg hunack, if_neg fun hu => hunack ((unack_iff _).mpr hu)]
  rw [if_neg hold, if_neg hold]
  by_cases hreached : s.reached (60 * renotifyIn s.alarmTable) (s.alarm n).renotify = true
  · rw [if_pos hreached, if_pos hreached, alarm_repeatAlarm h]
  · rw [if_neg hreached, if_neg hreached]

/-- What an entry in ACTIVE_UNACK that has left NORMAL in this millisecond is (R155, R160). -/
def raisedEntry (s : State) (n : Nat) (e : AlarmEntry) : AlarmEntry :=
  { e with
    state := .activeUnack
    firstActive := some s.clockTime
    lastChange := some s.clockTime
    count := min 255 (e.count + 1)
    renotify := if Renotifies s n ∧ renotifyIn s.alarmTable ≠ 0 then some s.now else none }

theorem raisedEntry_congr (htable : t.alarmTable = s.alarmTable) (hnow : t.now = s.now)
    (htime : t.clockTime = s.clockTime) (n : Nat) (e : AlarmEntry) : raisedEntry t n e = raisedEntry s n e := by
  simp only [raisedEntry, renotifies_congr htable, htable, hnow, htime]

theorem changedEntry_raised (h : (s.alarm n).state = .normal) :
    changedEntry n .activeUnack s = raisedEntry s n (s.alarm n) := by
  have hrenotify : s.renotifyAfter n .activeUnack =
      if Renotifies s n ∧ renotifyIn s.alarmTable ≠ 0 then some s.now else none := by
    unfold State.renotifyAfter
    rw [Bool.and_assoc AlarmState.activeUnack.unack, notified_eq]
    simp [AlarmState.unack]
  simp only [changedEntry, raisedEntry, hrenotify, h, decide_true, if_true, addSat]

/-- A timer started in this millisecond is left by the comparison. -/
theorem comparedRenotify_raised (s : State) (old : Nat) (e : AlarmEntry) :
    comparedRenotify s old n (raisedEntry s n e) = (raisedEntry s n e).renotify := by
  unfold comparedRenotify raisedEntry
  by_cases hmay : Renotifies s n ∧ renotifyIn s.alarmTable ≠ 0
  · rw [if_neg (not_or.mpr ⟨hmay.2, not_not.mpr hmay.1⟩)]
    simp only [if_pos hmay, true_or, ite_self, Option.map_some]
  · have hstops : renotifyIn s.alarmTable = 0 ∨ ¬Renotifies s n := by tauto
    simp only [if_pos hstops, if_neg hmay]

theorem alarm_alarmActivated_disabled (h : Listed s n) (p interval : Nat) (hp : s.priority n = 0) :
    (alarmActivated p interval n s).alarm n = { s.alarm n with
      state := .normal
      lastChange := if (s.alarm n).state = .normal then (s.alarm n).lastChange else some s.clockTime
      renotify := none } := by
  rw [alarmActivated, if_pos hp]
  exact alarm_setAlarm_self h _

theorem alarm_alarmActivated_raised (h : Listed s n) {p interval : Nat} (hp : s.priority n ≠ 0)
    (hraised : p = 0 ∧ (s.alarm n).condition = true) (hnormal : (s.alarm n).state = .normal) :
    (alarmActivated p interval n s).alarm n = raisedEntry s n (s.alarm n) := by
  have hframe : outsideAlarms (changeAlarm n .activeUnack s) = outsideAlarms s := outsideAlarms_changeAlarm ..
  obtain ⟨htable, hnow, -⟩ := alarmReaders_of_outsideAlarms hframe
  rw [alarmActivated, if_neg hp, if_pos hraised, alarm_compareRenotify (h.changeAlarm .activeUnack), alarm_changeAlarm h,
    changedEntry_raised hnormal, comparedRenotify_congr htable hnow, comparedRenotify_raised]

theorem alarm_alarmActivated_standing (h : Listed s n) {p interval : Nat} (hp : s.priority n ≠ 0)
    (hraised : ¬(p = 0 ∧ (s.alarm n).condition = true)) : (alarmActivated p interval n s).alarm n =
      { s.alarm n with renotify := comparedRenotify s interval n (s.alarm n) } := by
  rw [alarmActivated, if_neg hp, if_neg hraised, alarm_compareRenotify h]

theorem alarm_alarmActivated_ne (h : Listed s n) {k : Nat} (hk : 1 ≤ k) (hne : k ≠ n) (p interval : Nat) :
    (alarmActivated p interval n s).alarm k = s.alarm k := by
  have hset : ∀ {v : State}, Listed v n → ∀ e, (v.setAlarm n e).alarm k = v.alarm k := fun hv e =>
    (State.alarm_setAlarm _ n k e hv.1 hv.2 hk).trans (if_neg hne)
  have hcompared : ∀ v, Listed v n → (compareRenotify interval n v).alarm k = v.alarm k := fun v hv => by
    unfold compareRenotify
    dsimp only
    split_ifs
    exacts [hset hv _, rfl, hset hv _, rfl, hset hv _, rfl]
  unfold alarmActivated
  split_ifs
  · exact hset h _
  · rw [hcompared _ (h.changeAlarm .activeUnack), alarm_changeAlarm_ne h hk hne]
  · exact hcompared s h

/-! ### Every entry (R159, R160) -/

theorem nodup_alarmNumbers : alarmNumbers.Nodup := List.nodup_range.map (add_left_injective 1)

theorem alarm_compareSummary (interval : Nat) (s : State) : (compareSummary interval s).alarm n = s.alarm n := by
  unfold compareSummary
  dsimp only
  split <;> rfl

/-- What an entry is after an ALARM activation is what its own turn makes of it, with the table in force. -/
theorem alarm_alarmsActivated (h73 : s.alarms.entries.length = 73) (old : State) (hn : 1 ≤ n ∧ n ≤ 73) :
    ∃ v, outsideAlarms v = outsideAlarms s ∧ Listed v n ∧ v.alarm n = s.alarm n ∧ (alarmsActivated old s).alarm n =
      (alarmActivated (old.priority n) (renotifyIn old.alarmTable) n v).alarm n := by
  obtain ⟨v, ⟨hframe, hv73⟩, hsame, hturn⟩ := foldl_turn (l := alarmNumbers) (a := n)
    (P := fun v => outsideAlarms v = outsideAlarms s ∧ v.alarms.entries.length = 73)
    (E := fun v => v.alarm n) (f := fun v m => alarmActivated (old.priority m) (renotifyIn old.alarmTable) m v)
    (fun v hv m _ => ⟨(outsideAlarms_alarmActivated _ _ m v).trans hv.1,
      (worked_alarmActivated (.refl v) _ _ m).entries.trans hv.2⟩)
    (fun v hv m hm hne => by
      obtain ⟨h1, h2⟩ := mem_alarmNumbers.mp hm
      exact alarm_alarmActivated_ne ⟨h1, h2.trans_eq hv.2.symm⟩ hn.1 hne.symm _ _)
    nodup_alarmNumbers (mem_alarmNumbers.mpr hn) ⟨rfl, h73⟩
  refine ⟨v, hframe, ⟨hn.1, hn.2.trans_eq hv73.symm⟩, hsame, ?_⟩
  rw [← hturn, alarmsActivated, alarm_compareSummary]

/-- A changed summary interval restarts the summary timer, and stops it where it is 0 (R161). -/
theorem summaryTimer_alarmsActivated (old s : State) : (alarmsActivated old s).report.summaryTimer =
    if summaryIn s.alarmTable = summaryIn old.alarmTable then s.report.summaryTimer
    else if summaryIn s.alarmTable = 0 then none else some s.now := by
  rw [alarmsActivated]
  set v := alarmNumbers.foldl (fun v n => alarmActivated (old.priority n) (renotifyIn old.alarmTable) n v) s
  have hframe : outsideAlarms v = outsideAlarms s :=
    foldl_view outsideAlarms _ (fun v n => outsideAlarms_alarmActivated _ _ n v) _ _
  obtain ⟨htable, hnow, -⟩ := alarmReaders_of_outsideAlarms hframe
  have hreport : v.report = s.report := report_of_outsideDrives (outsideDrives_of_outsideAlarms hframe)
  unfold compareSummary
  dsimp only
  rw [htable, hnow]
  split_ifs
  exacts [congrArg Report.summaryTimer hreport, rfl, rfl]

end Sys2Proof.Proofs
end

section
/-! PROOF. O50: an activation at the blocks, one commit at a time. -/

namespace Sys2Proof.Proofs

open Sys2Proof.Machine Sys2Proof.Safety Sys2Proof.Laws

variable {s t u : State} {x : TableId} {image : List Byte} {d : TableData}

/-! ### Readers of the weirs and the alarm table -/

theorem weir_congr (h : t.spill = s.spill) (w : Weir) : t.weir w = s.weir w := by rw [State.weir, h, State.weir]

theorem weirDef_congr (h : t.tables.active = s.tables.active) (w : Weir) : t.weirDef w = s.weirDef w := by
  rw [State.weirDef, h, State.weirDef]

theorem alarmTable_congr (h : t.tables.active = s.tables.active) : t.alarmTable = s.alarmTable := by
  rw [State.alarmTable, h, State.alarmTable]

/-! ### Block by block -/

/-- STORAGE empties the ring (R69). -/
theorem storage_reached (hu : PutInForce x image d s u) (ht : BlocksStand (storageActivated u) t) :
    t.flow = { s.flow with ring := [] } := by
  obtain ⟨-, -, -, -, -, hflow⟩ := hu.drives
  rw [ht.flow, storageActivated, hflow]

/-- BAND engages the bands of the table in force by the level, and demand stands (R102). -/
theorem bands_reached (hu : PutInForce x image d s u) (ht : BlocksStand (bandActivated u) t) :
    t.seq.demand = s.seq.demand ∧ t.seq.engaged.length = t.bands.length ∧
      ∀ (i : Nat) (b : Band), t.bands[i]? = some b → t.seq.engaged[i]? = some
        (decide (s.flow.record.basis = .filtered) &&
          (decide (b.start ≤ s.flow.record.level) ||
            (decide (b.stop ≤ s.flow.record.level) && (s.seq.engaged[i]?).getD false))) := by
  obtain ⟨hseq, -, -, -, -, hflow⟩ := hu.drives
  obtain ⟨hengaged, hdemand⟩ := ht.bands
  have hbands : t.bands = u.bands := by rw [State.bands, State.bandTable, ht.active]; rfl
  have hengaged : t.seq.engaged = u.bandsAtActivation t.bands s.seq.engaged := by
    rw [hengaged, bandActivated, hbands, hseq]
  refine ⟨hdemand.trans (show u.seq.demand = s.seq.demand by rw [hseq]), ?_, fun i b hb => ?_⟩
  · rw [hengaged, length_bandsAtActivation]
  · rw [hengaged, getElem?_bandsAtActivation hb, hflow]

/-- POINT redefines the points, each by its class before and after (R53). -/
theorem points_reached (hstands : ∀ n, 1 ≤ n → n ≠ 24 → u.alarm n = s.alarm n) (h73 : u.alarms.entries.length = 73)
    (hu : PutInForce x image d s u) {a : State} (ha : a.points = s.points ∧ a.tables.active = s.tables.active)
    (ht : BlocksStand (pointActivated a u) t) :
    t.points.rejected = s.points.rejected ∧ t.points.toUndefined = s.points.toUndefined ∧
      ∀ n, n < 48 →
        (∀ a b, s.pointDef n = some a → t.pointDef n = some b → a.cls = b.cls →
          t.pointRec n = s.pointRec n ∧ (t.alarm (26 + n)).condition = (s.alarm (26 + n)).condition) ∧
        (∀ a, s.pointDef n = some a → (∀ b, t.pointDef n = some b → a.cls ≠ b.cls) →
          t.pointRec n = PointRec.start ∧ (t.alarm (26 + n)).condition = false) ∧
        (s.pointDef n = none → t.pointRec n = PointRec.start) := by
  obtain ⟨-, -, -, hpoints, -, -⟩ := hu.drives
  have hactive : t.tables.active = u.tables.active :=
    ht.active.trans (congrArg Tables.active (tables_deliver .point a u))
  have hredefined : t.points = pointsRedefined a u := ht.points.trans (points_pointActivated a u)
  refine ⟨?_, ?_, fun n hn => ?_⟩
  · rw [hredefined, pointsRedefined, hpoints]
  · rw [hredefined, pointsRedefined, hpoints]
  · have hpoint := point_pointActivated h73 a ht hn
    rwa [hstands (26 + n) (by omega) (by omega), ← pointDef_congr hactive, pointDef_congr ha.2, pointRec_congr ha.1] at hpoint

/-- WEIR takes each weir's turn (R151). -/
theorem weirs_reached (h73 : u.alarms.entries.length = 73) (hu : PutInForce x image d s u)
    (ht : BlocksStand (eachWeir weirActivated u) t) :
    t.spill.falseOnsets = s.spill.falseOnsets ∧ t.spill.nextNumber = s.spill.nextNumber ∧
      (∀ w, t.weir w =
        if (s.weir w).state = .dry ∨ (Spills s w ∧ (t.weirDef w).isSome = true) then s.weir w else WeirRec.dry) ∧
      (∀ w, Spills s w → (t.weirDef w).isSome = false → (t.alarm w.spillEntry).condition = false) ∧
      t.spill.log = s.spill.log.map fun r =>
        if r.state = .opened ∧ Spills s r.weir then
          if (t.weirDef r.weir).isSome then tableChanged r else (tableChanged r).closed (endsAt s r.weir)
        else r := by
  obtain ⟨hclock, -, hspill⟩ := hu.reports
  have hactive : t.tables.active = u.tables.active :=
    ht.active.trans (congrArg Tables.active (tables_deliver .weir u u))
  have hdef : ∀ w, u.weirDef w = t.weirDef w := fun w => (weirDef_congr hactive w).symm
  have hweir : ∀ w, u.weir w = s.weir w := weir_congr hspill
  have hspills : ∀ w, Spills u w ↔ Spills s w := fun w => by rw [Spills, hweir]
  have hends : ∀ w, endsAt u w = endsAt s w := fun w => by
    rw [endsAt, hweir, State.clockTime, hclock, endsAt, State.clockTime]
  have hdone := weirsActivated h73
  refine ⟨?_, ?_, fun w => ?_, fun w h hnone => ?_, ?_⟩
  · rw [ht.spill, hdone.numbers.1, hspill]
  · rw [ht.spill, hdone.numbers.2, hspill]
  · rw [weir_congr ht.spill, hdone.weir]
    simp only [hspills, hweir, hdef]
  · rw [ht.alarm]
    exact hdone.condition w ((hspills w).mpr h) (hdef w ▸ hnone)
  · rw [ht.spill, hdone.log, hspill]
    refine List.map_congr_left fun r _ => ?_
    simp only [recordActivated, hspills, hdef, hends]

/-- ALARM takes each entry's turn, and compares the summary interval (R159, R160, R161). -/
theorem alarms_reached (hstands : ∀ n, 1 ≤ n → n ≠ 24 → u.alarm n = s.alarm n) (h73 : u.alarms.entries.length = 73)
    (hu : PutInForce x image d s u) {a : State} (ha : a.tables.active = s.tables.active)
    (ht : BlocksStand (alarmsActivated a u) t) :
    (∀ n, 1 ≤ n → n ≤ 73 → n ≠ 24 →
      (t.priority n = 0 → t.alarm n = { s.alarm n with
        state := .normal
        lastChange := if (s.alarm n).state = .normal then (s.alarm n).lastChange else some s.clockTime
        renotify := none }) ∧
      (t.priority n ≠ 0 → s.priority n = 0 ∧ (s.alarm n).condition = true → (s.alarm n).state = .normal →
        t.alarm n = raisedEntry { s with tables := t.tables } n (s.alarm n)) ∧
      (t.priority n ≠ 0 → ¬(s.priority n = 0 ∧ (s.alarm n).condition = true) → t.alarm n =
        { s.alarm n with renotify :=
            comparedRenotify { s with tables := t.tables } (renotifyIn s.alarmTable) n (s.alarm n) })) ∧
    t.report.summaryTimer =
      if summaryIn t.alarmTable = summaryIn s.alarmTable then s.report.summaryTimer
      else if summaryIn t.alarmTable = 0 then none else some s.now := by
  have hactive : t.tables.active = u.tables.active :=
    ht.active.trans (congrArg Tables.active (tables_deliver .alarm a u))
  have hold : a.alarmTable = s.alarmTable := alarmTable_congr ha
  obtain ⟨hclock, hreport, -⟩ := hu.reports
  obtain ⟨-, -, -, -, hchip, -⟩ := hu.drives
  have hnow : u.now = s.now := by rw [State.now, hchip, State.now]
  have htime : u.clockTime = s.clockTime := by rw [State.clockTime, hclock, State.clockTime]
  have htable : u.alarmTable = t.alarmTable := (alarmTable_congr hactive).symm
  refine ⟨fun n h1 h2 hne => ?_, ?_⟩
  · obtain ⟨v, hframe, hlisted, hsame, hturn⟩ := alarm_alarmsActivated h73 a ⟨h1, h2⟩
    obtain ⟨hvtable, hvnow, hvtime⟩ := alarmReaders_of_outsideAlarms hframe
    have hpriority : v.priority n = t.priority n := by rw [State.priority, hvtable, htable, State.priority]
    have hbefore : a.priority n = s.priority n := by rw [State.priority, hold, State.priority]
    have hentry : v.alarm n = s.alarm n := hsame.trans (hstands n h1 hne)
    rw [← ht.alarm, hbefore, hold] at hturn
    rw [← hentry, ← hpriority, hturn]
    refine ⟨fun hp => ?_, fun hp hraised hnormal => ?_, fun hp hraised => ?_⟩
    · rw [alarm_alarmActivated_disabled hlisted _ _ hp, hvtime, htime]
    · rw [alarm_alarmActivated_raised hlisted hp hraised hnormal]
      exact raisedEntry_congr (s := { s with tables := t.tables }) (hvtable.trans htable) (hvnow.trans hnow)
        (hvtime.trans htime) n _
    · rw [alarm_alarmActivated_standing hlisted hp hraised, comparedRenotify_congr
        (s := { s with tables := t.tables }) (hvtable.trans htable) (hvnow.trans hnow)]
  · rw [ht.report, summaryTimer_alarmsActivated, htable, hold, hreport, hnow]

/-- Settles O50: each block's work on the state with the table in force, which the end of the event leaves. -/
theorem activationReachesTheBlocks : Obligations.ActivationReachesTheBlocks := by
  unfold Obligations.ActivationReachesTheBlocks
  intro src tag table method check x gs d s hsettled hshapes h
  obtain ⟨t, hexec, hactive, ht⟩ := commit_delivered (tag := tag) h hsettled.quiet
  have hu := putInForce_spec x gs d s
  have h73 : (putInForce x gs d s).alarms.entries.length = 73 := hu.entries.trans hshapes.alarms
  have hstands : ∀ n, 1 ≤ n → n ≠ 24 → (putInForce x gs d s).alarm n = s.alarm n :=
    fun n => alarm_putInForce hshapes.alarms x gs d
  refine ⟨t, hexec, hactive, fun hx => commit_reachesNone h hsettled.quiet hx hexec, ?_, ?_, ?_, ?_, ?_⟩
  · rintro rfl
    exact storage_reached hu ht
  · rintro rfl
    exact points_reached hstands h73 hu ⟨rfl, rfl⟩ ht
  · rintro rfl
    exact bands_reached hu ht
  · rintro rfl
    exact weirs_reached h73 hu ht
  · rintro rfl
    exact alarms_reached hstands h73 hu rfl ht

end Sys2Proof.Proofs
end

section
/-! PROOF. A curve read at, between and beyond its breakpoints; the inflow over the window (R60, R68). -/

namespace Sys2Proof.Proofs

open Sys2Proof.Machine Sys2Proof.Safety Sys2Proof.Laws

/-! ### A curve (R60) -/

/-- The curve read between two neighbouring breakpoints (R60). -/
def between (a b : Int × Int) (x : Int) : Int := a.2 + ((x - a.1) * (b.2 - a.2)).tdiv (b.1 - a.1)

theorem between_left (a b : Int × Int) : between a b a.1 = a.2 := by simp [between]

/-- No breakpoint stands before the first. -/
theorem head_le_of_mem {p z : Int × Int} {rest : Curve} (hinc : (p :: rest).Pairwise fun a b => a.1 < b.1)
    (hz : z ∈ p :: rest) : p.1 ≤ z.1 := by
  rcases List.mem_cons.mp hz with rfl | hz
  · exact le_rfl
  · exact (List.rel_of_pairwise_cons hinc hz).le

/-- Past every breakpoint the curve holds its last y. -/
theorem interpFrom_last {x : Int} {z : Int × Int} (hz : z.1 ≤ x) : ∀ (p : Int × Int) (rest : Curve),
    (p :: rest).Pairwise (fun a b => a.1 < b.1) → (p :: rest).getLast? = some z → interpFrom x p rest = z.2
  | p, [], _, hlast => by
    obtain rfl : p = z := by simpa using hlast
    rfl
  | p, q :: rest, hinc, hlast => by
    rw [List.getLast?_cons_cons] at hlast
    have htail := List.Pairwise.of_cons hinc
    have hq := head_le_of_mem htail (List.mem_of_getLast? hlast)
    rw [interpFrom, if_neg (by omega)]
    exact interpFrom_last hz q rest htail hlast

/-- Between two neighbouring breakpoints the curve is interpolated. -/
theorem interpFrom_between {x : Int} {a b : Int × Int} (hx : a.1 ≤ x) (hxb : x < b.1) :
    ∀ (i : Nat) (p : Int × Int) (rest : Curve), (p :: rest).Pairwise (fun a b => a.1 < b.1) →
      (p :: rest)[i]? = some a → rest[i]? = some b → interpFrom x p rest = between a b x
  | 0, p, [], _, _, hb => by simp at hb
  | 0, p, q :: rest, _, ha, hb => by
    obtain rfl : p = a := by simpa using ha
    obtain rfl : q = b := by simpa using hb
    rw [interpFrom, if_pos hxb, between]
  | i + 1, p, [], _, _, hb => by simp at hb
  | i + 1, p, q :: rest, hinc, ha, hb => by
    have htail := List.Pairwise.of_cons hinc
    have hq := head_le_of_mem htail (List.mem_of_getElem? (i := i) ha)
    rw [interpFrom, if_neg (by omega)]
    exact interpFrom_between hx hxb i q rest htail ha hb

variable {curve : Curve} {x : Int}

theorem interp_head {a : Int × Int} (ha : curve.head? = some a) (hx : x ≤ a.1) : interp curve x = a.2 := by
  cases curve with
  | nil => simp at ha
  | cons p rest =>
    obtain rfl : p = a := by simpa using ha
    rw [interp, if_pos hx]

theorem interp_last {z : Int × Int} (hinc : curve.Pairwise (fun a b => a.1 < b.1)) (hz : curve.getLast? = some z)
    (hx : z.1 ≤ x) : interp curve x = z.2 := by
  cases curve with
  | nil => simp at hz
  | cons p rest =>
    rw [interp]
    split_ifs with hp
    · cases rest with
      | nil =>
        obtain rfl : p = z := by simpa using hz
        rfl
      | cons q rest =>
        have hlt := List.rel_of_pairwise_cons hinc (List.mem_of_getLast? (List.getLast?_cons_cons ▸ hz))
        omega
    · exact interpFrom_last hx p rest hinc hz

theorem interp_between {i : Nat} {a b : Int × Int} (hinc : curve.Pairwise (fun a b => a.1 < b.1))
    (ha : curve[i]? = some a) (hb : curve[i + 1]? = some b) (hx : a.1 ≤ x) (hxb : x < b.1) :
    interp curve x = between a b x := by
  cases curve with
  | nil => simp at ha
  | cons p rest =>
    rw [interp]
    split_ifs with hp
    · cases i with
      | zero =>
        obtain rfl : p = a := by simpa using ha
        obtain rfl : x = p.1 := le_antisymm hp hx
        rw [between_left]
      | succ i =>
        have hlt := List.rel_of_pairwise_cons hinc (List.mem_of_getElem? ha)
        omega
    · exact interpFrom_between hx hxb i p rest hinc ha hb

/-! ### The inflow (R68) -/

/-- The entry that stands `i` periods back from the newest one of the ring. -/
def periodsBack (ring : List RingEntry) (i : Nat) : RingEntry := ring.getD (ring.length - 1 - i) ⟨0, 0, 0⟩

theorem getElem?_reverse_ring {ring : List RingEntry} {i : Nat} (hi : i < ring.length) :
    ring.reverse[i]? = some (periodsBack ring i) := by
  rw [List.getElem?_reverse hi, periodsBack, List.getD_eq_getElem?_getD, List.getElem?_eq_getElem (by omega),
    Option.getD_some]

/-- The first `m` figures of a list, summed. -/
theorem sum_take {α : Type} (f : α → Int) (g : Nat → α) (m : Nat) {l : List α} (h : ∀ i < m, l[i]? = some (g i)) :
    ((l.take m).map f).sum = ∑ i ∈ Finset.range m, f (g i) := by
  induction m with
  | zero => simp
  | succ m ih =>
    rw [List.take_add_one, h m (Nat.lt_succ_self m), Finset.sum_range_succ, ← ih fun i hi => h i (by omega)]
    simp

theorem inflowSum_eq {ring : List RingEntry} {m : Nat} (hm : m < ring.length) :
    inflowSum ring.reverse m = (periodsBack ring 0).volume - (periodsBack ring m).volume +
      ∑ i ∈ Finset.range m, ((periodsBack ring i).pumped + (periodsBack ring i).spilled) := by
  unfold inflowSum
  dsimp only
  rw [getElem?_reverse_ring (by omega), getElem?_reverse_ring hm, ← List.sum_eq_foldl,
    sum_take _ (periodsBack ring) m fun i hi => getElem?_reverse_ring (by omega)]
  rfl

/-- Settles O21: a curve along its breakpoints, the sum along the ring from its newest entry. -/
theorem curvesAndInflowAreExact : Obligations.CurvesAndInflowAreExact := by
  unfold Obligations.CurvesAndInflowAreExact
  refine ⟨fun curve x hinc => ⟨fun a ha hx => interp_head ha hx, fun z hz hx => interp_last hinc hz hx,
    fun i a b ha hb hx hxb => interp_between hinc ha hb hx hxb⟩, fun window ring => ⟨fun hm => ?_, fun hm => ?_⟩⟩
  · rw [inflow, periods, hm]
    rfl
  · have hsum := inflowSum_eq (ring := ring) (m := min window (ring.length - 1)) (by omega)
    simp only [inflow, periods, if_neg hm.ne', hsum]
    exact ⟨rfl, rfl⟩

end Sys2Proof.Proofs
end

section
/-! PROOF. The balance record stands as it was formed: what the blocks that take it, the spill monitor among them, and
the end of the event leave of it (R58, R59). -/

namespace Sys2Proof.Proofs

open Sys2Proof.Machine Sys2Proof.Safety Sys2Proof.Laws

variable {s t u : State}

/-! ### What the spill monitor leaves (R138 to R147) -/

/-- The state with everything erased that the spill monitor may change: its own records, the alarm list and the notices
of the event. -/
def outsideSpill (s : State) : State := { outsideAlarms s with spill := Spill.cold }

theorem outsideSpill_of_outsideAlarms (h : outsideAlarms t = outsideAlarms s) : outsideSpill t = outsideSpill s := by
  rw [outsideSpill, h, outsideSpill]

@[simp] theorem outsideSpill_stateSpill (w : Weir) (s : State) : outsideSpill (stateSpill w s) = outsideSpill s :=
  outsideSpill_of_outsideAlarms (outsideAlarms_stateSpill w s)

@[simp] theorem outsideSpill_setSpill (x : Spill) (s : State) : outsideSpill { s with spill := x } = outsideSpill s := rfl

@[simp] theorem outsideSpill_setWeir (w : Weir) (v : WeirRec) (s : State) :
    outsideSpill (s.setWeir w v) = outsideSpill s := rfl

@[simp] theorem outsideSpill_changeOpen (w : Weir) (f : SpillRec → SpillRec) (s : State) :
    outsideSpill (changeOpen w f s) = outsideSpill s := rfl

theorem outsideSpill_noteClosed (w : Weir) (c : Capture) (s : State) :
    outsideSpill (noteClosed w c s) = outsideSpill s := by
  unfold noteClosed
  split <;> rfl

@[simp] theorem outsideSpill_closeRecord (w : Weir) (c : Capture) (s : State) :
    outsideSpill (closeRecord w c s) = outsideSpill s := by
  rw [closeRecord, outsideSpill_stateSpill, outsideSpill_setWeir, outsideSpill_changeOpen, outsideSpill_noteClosed]

theorem outsideSpill_newRecord (w : Weir) (follows : Bool) (s : State) :
    outsideSpill (newRecord w follows s) = outsideSpill s := by
  have hroom : outsideSpill (evict s) = outsideSpill s := by
    unfold evict
    split_ifs
    · rfl
    · rfl
    · exact (outsideSpill_of_outsideAlarms (t := stateLogLoss _) (outsideAlarms_stateLogLoss _)).trans rfl
  exact hroom

theorem outsideSpill_confirmRecord (w : Weir) (d : WeirDef) (s : State) :
    outsideSpill (confirmRecord w d s).2 = outsideSpill s := by
  unfold confirmRecord
  repeat' split
  all_goals first | exact outsideSpill_newRecord .. | rfl

@[simp] theorem outsideSpill_confirm (w : Weir) (d : WeirDef) (s : State) :
    outsideSpill (confirm w d s) = outsideSpill s := by
  have hopened : ∀ b v, outsideSpill (noteOpened w b v) = outsideSpill v := fun b v => by
    unfold noteOpened
    split <;> rfl
  rw [confirm, outsideSpill_stateSpill, enterSpilling, outsideSpill_setWeir, hopened, outsideSpill_changeOpen,
    outsideSpill_confirmRecord]

theorem outsideSpill_judgeDry (w : Weir) (d : WeirDef) (x : WeirFlow) (s : State) :
    outsideSpill (judgeDry w d x s) = outsideSpill s := by
  unfold judgeDry openOnset
  repeat' split
  all_goals simp

theorem outsideSpill_judgeOnset (w : Weir) (d : WeirDef) (x : WeirFlow) (s : State) :
    outsideSpill (judgeOnset w d x s) = outsideSpill s := by
  unfold judgeOnset countOnset falseOnset countFalseOnset
  repeat' split
  all_goals simp

theorem outsideSpill_advanceEnd (w : Weir) (d : WeirDef) (c : Capture) (n : Nat) (s : State) :
    outsideSpill (advanceEnd w d c n s) = outsideSpill s := by
  unfold advanceEnd
  split <;> simp

theorem outsideSpill_judgeSpilling (w : Weir) (d : WeirDef) (flow h : Int) (s : State) :
    outsideSpill (judgeSpilling w d flow h s) = outsideSpill s := by
  unfold judgeSpilling
  split
  · rw [outsideSpill_advanceEnd, addToOpen, outsideSpill_changeOpen]
  · rfl

theorem outsideSpill_judgeReceding (w : Weir) (d : WeirDef) (flow h : Int) (s : State) :
    outsideSpill (judgeReceding w d flow h s) = outsideSpill s := by
  unfold judgeReceding
  split
  · rfl
  · exact outsideSpill_advanceEnd ..

/-- A weir judged touches the spill monitor, the alarm list and the notices of the event. -/
theorem outsideSpill_judgeWeir (w : Weir) (s : State) : outsideSpill (judgeWeir w s) = outsideSpill s := by
  unfold judgeWeir
  split
  · rfl
  · dsimp only
    cases (s.weir w).state with
    | dry => exact outsideSpill_judgeDry ..
    | onset => exact outsideSpill_judgeOnset ..
    | spilling =>
      dsimp only
      repeat' split
      exacts [outsideSpill_judgeSpilling .., rfl, rfl]
    | receding =>
      dsimp only
      repeat' split
      exacts [outsideSpill_judgeReceding .., rfl, rfl]

theorem outsideSpill_judgeWeirs (s : State) : outsideSpill (judgeWeirs s) = outsideSpill s :=
  eachWeir_view outsideSpill _ outsideSpill_judgeWeir s

/-! ### What the delivery and the end of the event leave (R58, R59) -/

/-- The flow accountant's state stands, and with it what no block that takes the balance record touches. -/
structure RecordStands (s t : State) : Prop where
  flow : t.flow = s.flow
  points : t.points = s.points
  tables : t.tables = s.tables
  clock : t.clock = s.clock
  chip : t.chip = s.chip
  handler : t.handler = s.handler
  queue : t.transit.queue = s.transit.queue
  response : t.transit.response = s.transit.response

theorem RecordStands.trans (h : RecordStands s t) (h' : RecordStands t u) : RecordStands s u :=
  ⟨h'.flow.trans h.flow, h'.points.trans h.points, h'.tables.trans h.tables, h'.clock.trans h.clock,
    h'.chip.trans h.chip, h'.handler.trans h.handler, h'.queue.trans h.queue, h'.response.trans h.response⟩

theorem RecordStands.of_outsideBlocks (h : outsideBlocks t = outsideBlocks s) : RecordStands s t where
  flow := flow_of_outsideBlocks h
  points := by simpa [outsideBlocks] using congrArg State.points h
  tables := tables_of_outsideBlocks h
  clock := clock_of_outsideBlocks h
  chip := by simpa [outsideBlocks] using congrArg State.chip h
  handler := by simpa [outsideBlocks] using congrArg State.handler h
  queue := by simpa [outsideBlocks] using congrArg (fun u : State => u.transit.queue) h
  response := by simpa [outsideBlocks] using congrArg (fun u : State => u.transit.response) h

theorem RecordStands.of_outsideSpill (h : outsideSpill t = outsideSpill s) : RecordStands s t where
  flow := by simpa [outsideSpill, outsideAlarms] using congrArg State.flow h
  points := by simpa [outsideSpill, outsideAlarms] using congrArg State.points h
  tables := by simpa [outsideSpill, outsideAlarms] using congrArg State.tables h
  clock := by simpa [outsideSpill, outsideAlarms] using congrArg State.clock h
  chip := by simpa [outsideSpill, outsideAlarms] using congrArg State.chip h
  handler := by simpa [outsideSpill, outsideAlarms] using congrArg State.handler h
  queue := by simpa [outsideSpill, outsideAlarms] using congrArg (fun u : State => u.transit.queue) h
  response := by simpa [outsideSpill, outsideAlarms] using congrArg (fun u : State => u.transit.response) h

theorem RecordStands.of_outsideDrives (h : outsideDrives t = outsideDrives s) : RecordStands s t where
  flow := flow_of_outsideDrives h
  points := points_of_outsideDrives h
  tables := tables_of_outsideDrives h
  clock := clock_of_outsideDrives h
  chip := chip_of_outsideDrives h
  handler := handler_of_outsideDrives h
  queue := queue_of_outsideDrives h
  response := response_of_outsideDrives h

/-- The delivery and the end of the event leave the record as it was formed (R58, R59). -/
theorem recordStands_finished (o : BalanceOrder) (hquiet : s.awaits .quiet = false) :
    RecordStands (formRecord s) (finishDrives (judgeWeirs (deliveredToDrives o (formRecord s)))) := by
  have hdrives := RecordStands.of_outsideBlocks (outsideBlocks_deliveredToDrives o (formRecord s))
  have hweirs := hdrives.trans (.of_outsideSpill (outsideSpill_judgeWeirs _))
  have hawaits : (judgeWeirs (deliveredToDrives o (formRecord s))).awaits .quiet = false := by
    simp only [State.awaits, hweirs.tables]
    exact hquiet
  exact hweirs.trans (.of_outsideDrives (outsideDrives_finishDrives _ hawaits))

end Sys2Proof.Proofs
end

section
/-! PROOF. The balance record formed: level, volume, head, flows, weirs, ring and inflow (R60 to R68). -/

namespace Sys2Proof.Proofs

open Sys2Proof.Machine Sys2Proof.Safety Sys2Proof.Laws

variable {s : State}

/-! ### Level and volume (R61, R62) -/

/-- The record with the wet-well level usable: filtered (R61). -/
theorem level_formRecord_usable {l : Int} (h : s.usableValue (·.wetWell) = some l) :
    let f := filterStep s.flow.filter s.filterK l
    (formRecord s).flow.filter = some f ∧ (formRecord s).flow.record.level = levelOf f ∧
      (formRecord s).flow.held = some (levelOf f) ∧ (formRecord s).flow.record.basis = .filtered := by
  have hfiltered : s.filtered = (some (filterStep s.flow.filter s.filterK l),
      some (levelOf (filterStep s.flow.filter s.filterK l))) := by
    rw [State.filtered, h]
  simp only [formRecord, hfiltered, basisOf, Option.isSome_some, if_true, and_self]

/-- The record with the wet-well level not usable: the level held, or none (R61). -/
theorem level_formRecord_unusable (h : s.usableValue (·.wetWell) = none) :
    (formRecord s).flow.filter = none ∧ (formRecord s).flow.held = s.flow.held ∧
      (formRecord s).flow.record.level = s.flow.held.getD 0 ∧
      (formRecord s).flow.record.basis = if s.flow.held.isSome then .held else .none := by
  have hfiltered : s.filtered = (none, s.flow.held) := by
    rw [State.filtered, h]
  simp only [formRecord, hfiltered, basisOf]
  cases s.flow.held <;> simp

theorem volume_formRecord (s : State) : (formRecord s).flow.record.volume =
    if (formRecord s).flow.record.basis = .filtered then
      s.storage.map fun x => interp x.curve (formRecord s).flow.record.level
    else none := by
  have hvolume : (formRecord s).flow.record.volume =
      s.volumeAt (formRecord s).flow.record.level (formRecord s).flow.record.basis := rfl
  rw [hvolume]
  unfold State.volumeAt
  cases s.storage <;> cases (formRecord s).flow.record.basis <;> rfl

/-! ### The head (R63) -/

theorem head_formRecord (s : State) : (formRecord s).flow.record.head =
    s.headAt (formRecord s).flow.record.level (formRecord s).flow.record.basis := rfl

/-- The head over the discharge level, 0 without a level in the wet well, with the allowance (R63). -/
theorem headAt_eq {p : PumpTable} (hp : s.pumpTable = some p) (level : Int) (basis : LevelBasis) :
    s.headAt level basis = some
      ⟨(if basis = .none then 0 else max 0 ((s.usableValue (·.river)).getD p.design - level)) + p.allowance,
        if (s.usableValue (·.river)).isSome then .river else .design, basis⟩ := by
  rw [State.headAt, hp]
  dsimp only
  cases s.usableValue (·.river) <;> by_cases hb : basis = .none <;> simp [hb]

/-! ### Flows and totals (R64 to R66) -/

theorem flow_formRecord (s : State) (p : Pump) : (formRecord s).flow.record.flows.get p =
    if s.installed p && s.feedbackActive p then
      match s.pumpEntry p, (formRecord s).flow.record.head with
      | some e, some h => interp e.curve h.value
      | _, _ => 0
    else 0 := by
  have hflow : (formRecord s).flow.record.flows.get p = s.pumpFlow (formRecord s).flow.record.head p := by
    cases p <;> rfl
  rw [hflow]
  unfold State.pumpFlow State.rating
  exact if_congr (by rw [Bool.and_eq_true]) rfl rfl

theorem total_formRecord (s : State) : (formRecord s).flow.record.total =
    (pumps.map (formRecord s).flow.record.flows.get).sum := by
  have htotal : (formRecord s).flow.record.total = (formRecord s).flow.record.flows.sum := rfl
  rw [htotal, Six.sum]
  simp only [pumps, List.map_cons, List.map_nil, List.sum_cons, List.sum_nil, Six.get]
  ring

theorem totals_formRecord (s : State) (p : Pump) : (formRecord s).flow.totals.get p =
    min 4294967295 (s.flow.totals.get p + ((formRecord s).flow.record.flows.get p).toNat) := by
  cases p <;> rfl

theorem weir_formRecord (s : State) (w : Weir) : (formRecord s).flow.record.weirs.get w =
    match s.weirDef w, s.roleRec fun r => r.weirLevel.get w with
    | some d, some r =>
      let level := if r.quality = .none then 0 else r.value
      ⟨some (level - d.crest), r.quality.usable, if d.crest < level then interp d.curve (level - d.crest) else 0⟩
    | _, _ => ⟨none, false, 0⟩ := by
  have hweir : (formRecord s).flow.record.weirs.get w = s.weirAt w := by
    cases w <;> rfl
  rw [hweir]
  unfold State.weirAt
  cases s.weirDef w with
  | none => rfl
  | some d =>
    cases s.roleRec fun r => r.weirLevel.get w with
    | none => rfl
    | some r => simp only [PointRec.figure, sub_pos]

/-! ### Ring and inflow (R67, R68) -/

theorem spilledOf_eq (x : Weirs WeirFlow) :
    spilledOf x = ((weirs.filter fun w => (x.get w).usable).map fun w => (x.get w).flow).sum := by
  cases h1 : x.w1.usable <;> cases h2 : x.w2.usable <;> simp [spilledOf, weirs, Weirs.get, h1, h2]

theorem ring_formRecord (s : State) : (formRecord s).flow.ring =
    pushRing s.flow.ring (formRecord s).flow.record.volume (formRecord s).flow.record.total
      (spilledOf (formRecord s).flow.record.weirs) := rfl

/-- Settles O22: the record as it is formed, which stands at the end of the event. -/
theorem balanceRecordIsFormed : Obligations.BalanceRecordIsFormed := by
  intro o s hon hsettled hperiod
  have hstands := recordStands_finished o hsettled.quiet
  refine ⟨_, exec_balanceUpdate o hon hperiod, ?_⟩
  rw [hstands.flow]
  refine ⟨rfl, rfl, fun l hl => ?_, level_formRecord_unusable, volume_formRecord s, fun hp => ?_, fun p hp => ?_,
    flow_formRecord s, total_formRecord s, totals_formRecord s, weir_formRecord s, fun hv => ?_, fun v hv => ?_, rfl,
    hstands.points, hstands.tables, hstands.clock, hstands.chip, hstands.handler, hstands.queue, hstands.response⟩
  · exact ⟨_, rfl, level_formRecord_usable hl⟩
  · rw [head_formRecord, State.headAt, hp]
  · exact ⟨_, (head_formRecord s).trans (headAt_eq hp _ _), rfl, rfl, rfl⟩
  · rw [ring_formRecord, hv, pushRing]
  · rw [ring_formRecord, hv, pushRing, spilledOf_eq]
    rfl

end Sys2Proof.Proofs
end

section
/-! PROOF. A balance expiry hands its record on in the order its operand names; what stage five moves, pump by pump
(R59, R98, R104, R105). -/

namespace Sys2Proof.Proofs

open Sys2Proof.Machine Sys2Proof.Safety Sys2Proof.Laws

variable {s t u : State} {p : Pump}

/-! ### The delivery (R58, R59, R98) -/

/-- The record handed to protection, the screens and the sequencer in the order of the operand, then to the weirs. -/
theorem delivered_in_order (o : BalanceOrder) (s : State) :
    judgeWeirs (deliveredToDrives o s) = judgeWeir .w2 (judgeWeir .w1
      (match o.protectionFirst, o.screenFirst with
      | true, true => sequence (judgeScreens (protectAll s))
      | true, false => judgeScreens (sequence (protectAll s))
      | false, true => protectAll (sequence (judgeScreens s))
      | false, false => judgeScreens (protectAll (sequence s)))) := by
  have hweirs : ∀ u, judgeWeirs u = judgeWeir .w2 (judgeWeir .w1 u) := fun _ => rfl
  rw [hweirs, deliveredToDrives]
  obtain ⟨protectionFirst, screenFirst⟩ := o
  cases protectionFirst <;> cases screenFirst <;> simp [guarded]

/-! ### Eligibility (R103) -/

theorem timerElapsed_congr (hchip : t.chip = s.chip) (length : Nat) (timer : Option Nat) :
    t.timerElapsed length timer = s.timerElapsed length timer := by
  cases timer with
  | none => rfl
  | some since => rw [State.timerElapsed, State.elapsed, State.now, hchip, State.timerElapsed, State.elapsed, State.now]

/-- Eligibility turns on the mode, the minimum off timer and the history beside what the grants leave. -/
theorem eligible_congr (hframe : outsideGrants t = outsideGrants s)
    (hmode : (t.pump p).state.mode = (s.pump p).state.mode) (hoff : (t.pump p).minOff = (s.pump p).minOff)
    (hhistory : (t.pump p).history = (s.pump p).history) : t.eligible p = s.eligible p := by
  have hkept := keptByGrants_of_outsideGrants hframe p
  have hlatch : (t.pump p).latch = (s.pump p).latch := by
    simpa [keptByGrants] using congrArg PumpRec.latch hkept
  have hsources : (t.pump p).sources = (s.pump p).sources := by
    simpa [keptByGrants] using congrArg PumpRec.sources hkept
  have hdrives := outsideDrives_of_outsideGrants hframe
  have htables := tables_of_outsideDrives hdrives
  have hchip := chip_of_outsideDrives hdrives
  have hclock := clock_of_outsideDrives hdrives
  have hentry : t.pumpEntry p = s.pumpEntry p := by
    rw [State.pumpEntry, State.pumpTable, htables, State.pumpEntry, State.pumpTable]
  have hfeedback : t.feedbackActive p = s.feedbackActive p :=
    feedbackActive_congr (by rw [State.station, htables, State.station]) (points_of_outsideDrives hdrives) p
  have hpresent : ∀ f, t.sourcePresent p f = s.sourcePresent p f := fun f => by
    cases f <;> simp only [State.sourcePresent, hsources, hfeedback]
  have hsetting : ∀ f, t.sourceSetting p f = s.sourceSetting p f := fun f => by
    cases f <;> simp only [State.sourceSetting, hentry]
  have hinhibit : t.startInhibit p = s.startInhibit p := by
    have hwith : t.presentWith p .hold .inhibitStart = s.presentWith p .hold .inhibitStart := by
      funext f
      rw [State.presentWith, hpresent, hsetting, State.presentWith]
    rw [State.startInhibit, hwith, State.startInhibit]
  have helapsed : ∀ n x, t.timerElapsed n x = s.timerElapsed n x := timerElapsed_congr hchip
  have hoffLength : t.minOffLength p = s.minOffLength p := by
    rw [State.minOffLength, hentry, State.minOffLength]
  have hlimit : t.startLimit p = s.startLimit p := by
    rw [State.startLimit, hentry, State.startLimit]
  have hcount : t.startCount p = s.startCount p := by
    rw [State.startCount, hclock, hhistory, State.startCount]
  rw [State.eligible, hmode, hlatch, hinhibit, hoffLength, hoff, helapsed, hcount, hlimit, State.eligible]

/-! ### Pumps moved one at a time -/

/-- Pumps move from states that `src` tells to states that `dst` tells; the records of all others stand, as does all
that the grants leave. -/
structure Moves (src dst : PumpState → Prop) (s t : State) : Prop where
  frame : outsideGrants t = outsideGrants s
  each : ∀ q, t.pump q = s.pump q ∨ src (s.pump q).state ∧ dst (t.pump q).state

section Moves
variable {src dst : PumpState → Prop}

theorem Moves.refl (s : State) : Moves src dst s s := ⟨rfl, fun _ => .inl rfl⟩

/-- A pump that has moved moves no further. -/
theorem Moves.trans (hne : ∀ st, dst st → ¬src st) (h : Moves src dst s t) (h' : Moves src dst t u) :
    Moves src dst s u where
  frame := h'.frame.trans h.frame
  each q := by
    rcases h.each q with hstands | ⟨hfrom, hto⟩
    · rw [← hstands]
      exact h'.each q
    · rcases h'.each q with hstands' | ⟨hfrom', -⟩
      · rw [hstands']
        exact .inr ⟨hfrom, hto⟩
      · exact absurd hfrom' (hne _ hto)

/-- A pump whose state is none that pumps move to has its record standing. -/
theorem Moves.stands (h : Moves src dst s t) (hto : ¬dst (t.pump p).state) : t.pump p = s.pump p :=
  (h.each p).resolve_right fun hmoved => hto hmoved.2

/-- A pump whose state is none that pumps move from has its record standing. -/
theorem Moves.kept (h : Moves src dst s t) (hfrom : ¬src (s.pump p).state) : t.pump p = s.pump p :=
  (h.each p).resolve_right fun hmoved => hfrom hmoved.1

theorem Moves.demand (h : Moves src dst s t) : t.seq.demand = s.seq.demand :=
  (bands_of_outsideDrives (outsideDrives_of_outsideGrants h.frame)).2.1

/-- A pump whose record stands is eligible as before. -/
theorem Moves.eligible (h : Moves src dst s t) (hstands : t.pump p = s.pump p) : t.eligible p = s.eligible p :=
  eligible_congr h.frame (by rw [hstands]) (by rw [hstands]) (by rw [hstands])

end Moves

/-- A state set anew within AUTO leaves the eligibility of the pump. -/
theorem eligible_setState {st : PumpState} (hmode : st.mode = (s.pump p).state.mode) :
    (s.setPump p { s.pump p with state := st }).eligible p = s.eligible p :=
  eligible_congr (outsideGrants_setPump _ _ _ rfl) (by rw [State.pump_setPump_same]; exact hmode)
    (by rw [State.pump_setPump_same]) (by rw [State.pump_setPump_same])

theorem moves_setState {src dst : PumpState → Prop} {st : PumpState} (hfrom : src (s.pump p).state) (hto : dst st) :
    Moves src dst s (s.setPump p { s.pump p with state := st }) where
  frame := outsideGrants_setPump _ _ _ rfl
  each q := by
    by_cases hq : q = p
    · subst hq
      rw [State.pump_setPump_same]
      exact .inr ⟨hfrom, hto⟩
    · exact .inl (pump_setPump_other hq _ s)

/-! ### The number of pumps waiting, starting and running (R104) -/

/-- A pump in this state counts toward A (R104). -/
def commits (st : PumpState) : Bool := decide (st = .startWait) || st.granted

theorem committed_eq (s : State) : s.committed = (pumps.map fun q => (commits (s.pump q).state).toNat).sum := by
  have hcount : ∀ l : List Pump, (l.filter fun q => commits (s.pump q).state).length =
      (l.map fun q => (commits (s.pump q).state).toNat).sum := fun l => by
    induction l with
    | nil => rfl
    | cons q l ih => cases h : commits (s.pump q).state <;> simp [h, ih]; omega
  exact hcount pumps

/-- A changes with the state of the one pump that moves. -/
theorem committed_move (hothers : ∀ q, q ≠ p → t.pump q = s.pump q) :
    t.committed + (commits (s.pump p).state).toNat = s.committed + (commits (t.pump p).state).toNat := by
  rw [committed_eq, committed_eq]
  cases p <;> simp [pumps, hothers] <;> omega

/-! ### A pump stopped (R93, R105) -/

/-- The states that a pump stopped can come to (R93, R117). -/
def stopped (st : PumpState) : Prop := st = .stopping ∨ st = .idle ∨ st = .tripped

theorem stopped_tripInhibited (h : stopped (s.pump p).state) : stopped ((tripInhibited p s).pump p).state := by
  unfold tripInhibited
  split
  · rw [protectTo, pump_postPump, if_pos rfl, State.pump_setPump_same]
    exact .inr (.inr rfl)
  · exact h

theorem stopped_pumpStopped (p : Pump) (s : State) : stopped ((pumpStopped p s).pump p).state := by
  refine stopped_tripInhibited ?_
  rw [pump_toDutyTail, State.pump_setPump_same]
  exact .inr (.inl rfl)

theorem stopped_enterStopping (p : Pump) (s : State) : stopped ((enterStopping p s).pump p).state := by
  unfold enterStopping
  dsimp only
  split
  · rw [pump_postPump, if_pos rfl, State.pump_setPump_same]
    exact .inl rfl
  · exact stopped_pumpStopped p _

end Sys2Proof.Proofs
end

section
/-! PROOF. Stage five leaves demand met as far as the pumps allow (R104, R105). -/

namespace Sys2Proof.Proofs

open Sys2Proof.Machine Sys2Proof.Safety Sys2Proof.Laws

variable {s t u : State} {p : Pump}

/-- Work along a list that stays in a relation, each turn doing its own part, which later turns keep. -/
theorem foldl_done {α : Type} {R : State → State → Prop} {Done : α → State → Prop} {f : State → α → State}
    (hrefl : ∀ u, R u u) (htrans : ∀ u v w, R u v → R v w → R u w) (hstep : ∀ u a, R u (f u a))
    (hdone : ∀ u a, Done a (f u a)) (hkeep : ∀ a u v, R u v → Done a u → Done a v) (l : List α) (s : State) :
    R s (l.foldl f s) ∧ ∀ a ∈ l, Done a (l.foldl f s) := by
  induction l generalizing s with
  | nil => exact ⟨hrefl s, fun _ ha => absurd ha List.not_mem_nil⟩
  | cons a l ih =>
    obtain ⟨hrel, hall⟩ := ih (f s a)
    refine ⟨htrans _ _ _ (hstep s a) hrel, fun b hb => ?_⟩
    rcases List.mem_cons.mp hb with rfl | hb
    · exact hkeep _ _ _ hrel (hdone s b)
    · exact hall b hb

/-! ### Waiting pumps no longer eligible (R104) -/

/-- Where pump `p` waits, it is eligible. -/
def WaiterEligible (p : Pump) (s : State) : Prop := (s.pump p).state = .startWait → s.eligible p = true

/-- A pump waiting before and after stays eligible. -/
theorem Moves.waiterEligible {src dst : PumpState → Prop} (h : Moves src dst s t) (hto : ¬dst .startWait)
    (hs : WaiterEligible p s) : WaiterEligible p t := fun hwaits => by
  have hstands : t.pump p = s.pump p := h.stands fun hmoved => hto (hwaits ▸ hmoved)
  rw [h.eligible hstands]
  exact hs (by rw [← hstands, hwaits])

/-- A pump dropped leaves START_WAIT for IDLE. -/
abbrev Dropped : State → State → Prop := Moves (· = .startWait) (· = .idle)

theorem dropIneligible_drops (p : Pump) (s : State) : Dropped s (dropIneligible p s) := by
  unfold dropIneligible
  split_ifs with h
  · exact moves_setState h.1 rfl
  · exact .refl s

theorem dropIneligible_done (p : Pump) (s : State) : WaiterEligible p (dropIneligible p s) := by
  unfold dropIneligible
  split_ifs with h
  · intro hwaits
    rw [State.pump_setPump_same] at hwaits
    cases hwaits
  · exact fun hwaits => by
      simpa [hwaits] using h

theorem dropped (s : State) : Dropped s (eachPump dropIneligible s) ∧
    ∀ p, WaiterEligible p (eachPump dropIneligible s) := by
  obtain ⟨hdrops, hdone⟩ := foldl_done (R := Dropped) (Done := WaiterEligible) (f := fun u p => dropIneligible p u)
    .refl (fun _ _ _ => .trans fun st hidle hwaits => by cases hidle.symm.trans hwaits)
    (fun u p => dropIneligible_drops p u) (fun u p => dropIneligible_done p u)
    (fun p u v h => h.waiterEligible (by decide)) pumps s
  exact ⟨hdrops, fun p => hdone p (by cases p <;> simp [pumps])⟩

/-! ### Demand above A (R104) -/

/-- Eligible pumps raised from IDLE to START_WAIT, no more than D asks for. -/
structure Raised (s t : State) : Prop where
  moves : Moves (· = .idle) (· = .startWait) s t
  more : s.committed ≤ t.committed
  bound : s.committed ≤ s.seq.demand.d → t.committed ≤ s.seq.demand.d
  waiters : (∀ p, WaiterEligible p s) → ∀ p, WaiterEligible p t

theorem Raised.refl (s : State) : Raised s s := ⟨.refl s, le_rfl, id, id⟩

theorem Raised.trans (h : Raised s t) (h' : Raised t u) : Raised s u where
  moves := h.moves.trans (fun st hwaits hidle => by cases hidle.symm.trans hwaits) h'.moves
  more := h.more.trans h'.more
  bound hs := h.moves.demand ▸ h'.bound (h.moves.demand.symm ▸ h.bound hs)
  waiters := h'.waiters ∘ h.waiters

/-- One eligible pump raised while A is below D. -/
theorem raised_one (hbelow : s.committed < s.seq.demand.d) (hmoves : Moves (· = .idle) (· = .startWait) s t)
    (hothers : ∀ q, q ≠ p → t.pump q = s.pump q) (hfrom : (s.pump p).state = .idle)
    (hto : (t.pump p).state = .startWait) (heligible : t.eligible p = true) : Raised s t := by
  have hcount := committed_move hothers
  rw [hfrom, hto] at hcount
  have hone : t.committed = s.committed + 1 := hcount
  refine ⟨hmoves, by omega, fun _ => by omega, fun hwaiters q hwaits => ?_⟩
  by_cases hq : q = p
  · exact hq ▸ heligible
  · rw [hmoves.eligible (hothers q hq)]
    exact hwaiters q (by rw [← hothers q hq, hwaits])

theorem raised_raisePump (s : State) (p : Pump) : Raised s (raisePump s p) := by
  unfold raisePump
  split_ifs with h
  · obtain ⟨hbelow, hidle, heligible⟩ := h
    exact raised_one hbelow (moves_setState hidle rfl) (fun q hq => pump_setPump_other hq _ s) hidle
      (by rw [State.pump_setPump_same]) ((eligible_setState (by rw [hidle]; rfl)).trans heligible)
  · exact .refl s

/-- Demand above A leaves pump `p` where it is, if it is IDLE, for its not being eligible. -/
def NoneToRaise (p : Pump) (s : State) : Prop :=
  s.committed < s.seq.demand.d → (s.pump p).state = .idle → s.eligible p = false

theorem raisePump_done (s : State) (p : Pump) : NoneToRaise p (raisePump s p) := by
  unfold raisePump
  split_ifs with h
  · intro _ hidle
    rw [State.pump_setPump_same] at hidle
    cases hidle
  · intro hmore hidle
    rw [not_and, not_and] at h
    exact Bool.eq_false_iff.mpr (h hmore hidle)

theorem Raised.noneToRaise (h : Raised s t) (hs : NoneToRaise p s) : NoneToRaise p t := fun hmore hidle => by
  have hstands : t.pump p = s.pump p := h.moves.stands fun hwaits => by cases hidle.symm.trans hwaits
  rw [h.moves.demand] at hmore
  rw [h.moves.eligible hstands]
  exact hs (h.more.trans_lt hmore) (by rw [← hstands, hidle])

theorem raised_foldl (duty : List Pump) (s : State) : Raised s (duty.foldl raisePump s) ∧
    ∀ p ∈ duty, NoneToRaise p (duty.foldl raisePump s) :=
  foldl_done .refl (fun _ _ _ => .trans) raised_raisePump raisePump_done (fun _ _ _ h => h.noneToRaise) duty s

/-! ### Demand below A (R105) -/

/-- Pumps waiting and running brought down, no more than D asks for. -/
structure Lowered (s t : State) : Prop where
  moves : Moves (fun st => st = .startWait ∨ st = .running) (fun st => commits st = false) s t
  fewer : t.committed ≤ s.committed
  bound : s.seq.demand.d ≤ s.committed → s.seq.demand.d ≤ t.committed

theorem Lowered.refl (s : State) : Lowered s s := ⟨.refl s, le_rfl, id⟩

theorem Lowered.trans (h : Lowered s t) (h' : Lowered t u) : Lowered s u where
  moves := h.moves.trans (fun st hto hfrom => by rcases hfrom with rfl | rfl <;> cases hto) h'.moves
  fewer := h'.fewer.trans h.fewer
  bound hs := h.moves.demand ▸ h'.bound (h.moves.demand.symm ▸ h.bound hs)

/-- One pump brought down while A is above D. -/
theorem lowered_one (hmore : s.seq.demand.d < s.committed) (hframe : outsideGrants t = outsideGrants s)
    (hothers : ∀ q, q ≠ p → t.pump q = s.pump q) (hfrom : (s.pump p).state = .startWait ∨ (s.pump p).state = .running)
    (hto : commits (t.pump p).state = false) : Lowered s t := by
  have hcommits : commits (s.pump p).state = true := by
    rcases hfrom with h | h <;> rw [h] <;> rfl
  have hcount := committed_move hothers
  rw [hcommits, hto] at hcount
  have hone : t.committed + 1 = s.committed := hcount
  refine ⟨⟨hframe, fun q => ?_⟩, by omega, fun _ => by omega⟩
  by_cases hq : q = p
  · exact .inr (hq ▸ ⟨hfrom, hto⟩)
  · exact .inl (hothers q hq)

theorem lowered_lowerWaiting (s : State) (p : Pump) : Lowered s (lowerWaiting s p) := by
  unfold lowerWaiting
  split_ifs with h
  · refine lowered_one h.1 (outsideGrants_setPump _ _ _ rfl) (fun q hq => pump_setPump_other hq _ s) (.inl h.2) ?_
    rw [State.pump_setPump_same]
    rfl
  · exact .refl s

theorem commits_of_stopped {st : PumpState} (h : stopped st) : commits st = false := by
  rcases h with rfl | rfl | rfl <;> rfl

theorem lowered_lowerRunning (s : State) (p : Pump) : Lowered s (lowerRunning s p) := by
  unfold lowerRunning
  split_ifs with h
  · exact lowered_one h.1 (outsideGrants_enterStopping p s) (fun q hq => pump_enterStopping_other hq s) (.inr h.2.1)
      (commits_of_stopped (stopped_enterStopping p s))
  · exact .refl s

/-- Demand below A leaves pump `p` not waiting. -/
def NoneWaiting (p : Pump) (s : State) : Prop := s.seq.demand.d < s.committed → (s.pump p).state ≠ .startWait

/-- Demand below A leaves pump `p`, if it runs, for its minimum run time. -/
def NoneToStop (p : Pump) (s : State) : Prop := s.seq.demand.d < s.committed → (s.pump p).state = .running →
  s.timerElapsed (s.minRunLength p) (s.pump p).minRun = false

theorem lowerWaiting_done (s : State) (p : Pump) : NoneWaiting p (lowerWaiting s p) := by
  unfold lowerWaiting
  split_ifs with h
  · intro _ hwaits
    rw [State.pump_setPump_same] at hwaits
    cases hwaits
  · exact fun hmore hwaits => h ⟨hmore, hwaits⟩

theorem lowerRunning_done (s : State) (p : Pump) : NoneToStop p (lowerRunning s p) := by
  unfold lowerRunning
  split_ifs with h
  · intro _ hruns
    have hcommits := commits_of_stopped (stopped_enterStopping p s)
    rw [hruns] at hcommits
    cases hcommits
  · intro hmore hruns
    rw [not_and, not_and] at h
    exact Bool.eq_false_iff.mpr (h hmore hruns)

/-- A is above D before a lowering that leaves it above. -/
theorem Lowered.above (h : Lowered s t) (hmore : t.seq.demand.d < t.committed) : s.seq.demand.d < s.committed := by
  rw [h.moves.demand] at hmore
  exact hmore.trans_le h.fewer

theorem Lowered.stands (h : Lowered s t) (hcommits : commits (t.pump p).state = true) : t.pump p = s.pump p :=
  h.moves.stands fun hmoved => Bool.false_ne_true (hmoved.symm.trans hcommits)

theorem Lowered.noneWaiting (h : Lowered s t) (hs : NoneWaiting p s) : NoneWaiting p t := fun hmore hwaits =>
  hs (h.above hmore) (by rw [← h.stands (by rw [hwaits]; rfl), hwaits])

theorem Lowered.noneToStop (h : Lowered s t) (hs : NoneToStop p s) : NoneToStop p t := fun hmore hruns => by
  have hstands : t.pump p = s.pump p := h.stands (by rw [hruns]; rfl)
  have hdrives := outsideDrives_of_outsideGrants h.moves.frame
  have hlength : t.minRunLength p = s.minRunLength p := by
    rw [State.minRunLength, State.pumpEntry, State.pumpTable, tables_of_outsideDrives hdrives, State.minRunLength,
      State.pumpEntry, State.pumpTable]
  rw [timerElapsed_congr (chip_of_outsideDrives hdrives), hlength, hstands]
  exact hs (h.above hmore) (by rw [← hstands, hruns])

theorem lowered_waiting (duty : List Pump) (s : State) : Lowered s (duty.foldl lowerWaiting s) ∧
    ∀ p ∈ duty, NoneWaiting p (duty.foldl lowerWaiting s) :=
  foldl_done .refl (fun _ _ _ => .trans) lowered_lowerWaiting lowerWaiting_done (fun _ _ _ h => h.noneWaiting) duty s

theorem lowered_running (run : List Pump) (s : State) : Lowered s (run.foldl lowerRunning s) ∧
    ∀ p ∈ run, NoneToStop p (run.foldl lowerRunning s) :=
  foldl_done .refl (fun _ _ _ => .trans) lowered_lowerRunning lowerRunning_done (fun _ _ _ h => h.noneToStop) run s

/-! ### Stage five (R104, R105) -/

/-- What stage five leaves in AUTOMATIC (R104, R105). -/
structure DemandMet (s t : State) : Prop where
  waiters : ∀ p, WaiterEligible p t
  raised : ∀ p ∈ s.seq.duty, NoneToRaise p t
  lowered : ∀ p ∈ s.seq.duty, NoneWaiting p t
  stopped : ∀ p ∈ s.seq.run, NoneToStop p t
  stands : ∀ p, (s.pump p).state ≠ .idle → (s.pump p).state ≠ .startWait → (s.pump p).state ≠ .running →
    t.pump p = s.pump p
  frame : outsideGrants t = outsideGrants s

theorem orders_dropIneligible (s : State) : (eachPump dropIneligible s).seq.duty = s.seq.duty ∧
    (eachPump dropIneligible s).seq.run = s.seq.run := by
  have hone : ∀ p u, (dropIneligible p u).seq.duty = u.seq.duty ∧ (dropIneligible p u).seq.run = u.seq.run := fun p u => by
    unfold dropIneligible
    split <;> exact ⟨rfl, rfl⟩
  exact ⟨eachPump_view (fun u : State => u.seq.duty) _ (fun p u => (hone p u).1) s,
    eachPump_view (fun u : State => u.seq.run) _ (fun p u => (hone p u).2) s⟩

theorem run_lowerWaiting (duty : List Pump) (s : State) : (duty.foldl lowerWaiting s).seq.run = s.seq.run := by
  refine foldl_view (fun u : State => u.seq.run) _ (fun u p => ?_) duty s
  unfold lowerWaiting
  split <;> rfl

theorem actOnDemand_meets (hauto : s.automatic = true) : DemandMet s (actOnDemand s) := by
  obtain ⟨hdrops, hwaiters⟩ := dropped s
  obtain ⟨hduty, hrun⟩ := orders_dropIneligible s
  unfold actOnDemand
  dsimp only
  rw [if_pos hauto]
  generalize eachPump dropIneligible s = u at hdrops hwaiters hduty hrun ⊢
  split_ifs with hbelow
  · rw [hduty]
    obtain ⟨hraised, hnone⟩ := raised_foldl s.seq.duty u
    generalize s.seq.duty.foldl raisePump u = t at hraised hnone ⊢
    have hbound : ¬t.seq.demand.d < t.committed := by
      rw [hraised.moves.demand]
      exact not_lt.mpr (hraised.bound hbelow.le)
    refine ⟨hraised.waiters hwaiters, hnone, fun _ _ h => absurd h hbound, fun _ _ h => absurd h hbound,
      fun p hidle hwait _ => ?_, hraised.moves.frame.trans hdrops.frame⟩
    have hdropped := hdrops.kept hwait
    exact (hraised.moves.kept (by rw [hdropped]; exact hidle)).trans hdropped
  · have hrunv := run_lowerWaiting u.seq.duty.reverse u
    obtain ⟨hwaiting, hnone⟩ := lowered_waiting u.seq.duty.reverse u
    generalize u.seq.duty.reverse.foldl lowerWaiting u = v at hwaiting hnone hrunv ⊢
    obtain ⟨hrunning, hstopped⟩ := lowered_running v.seq.run v
    generalize v.seq.run.foldl lowerRunning v = t at hrunning hstopped ⊢
    have hlowered := hwaiting.trans hrunning
    have hbound : ¬t.committed < t.seq.demand.d := by
      rw [hlowered.moves.demand]
      exact not_lt.mpr (hlowered.bound (not_lt.mp hbelow))
    refine ⟨fun p => hlowered.moves.waiterEligible (by decide) (hwaiters p), fun _ _ h => absurd h hbound,
      fun p hp => hrunning.noneWaiting (hnone p (by rw [List.mem_reverse, hduty]; exact hp)),
      fun p hp => hstopped p (by rw [hrunv, hrun]; exact hp), fun p _ hwait hruns => ?_,
      hlowered.moves.frame.trans hdrops.frame⟩
    have hdropped := hdrops.kept hwait
    exact (hlowered.moves.kept (by rw [hdropped]; exact not_or.mpr ⟨hwait, hruns⟩)).trans hdropped

/-- Settles O24: the order of the delivery, and stage five by what its turns along the orders leave undone. -/
theorem demandIsMetAsFarAsPumpsAllow : Obligations.DemandIsMetAsFarAsPumpsAllow := by
  refine ⟨fun o s hon hperiod => ?_, fun s hauto => ?_⟩
  · rw [exec_balanceUpdate o hon hperiod, delivered_in_order]
    rfl
  · have h := actOnDemand_meets hauto
    have hdrives := outsideDrives_of_outsideGrants h.frame
    have hdemand := (bands_of_outsideDrives hdrives).2.1
    refine ⟨h.waiters, fun hbelow p hp => h.raised p hp (by rw [hdemand]; exact hbelow), fun habove =>
      ⟨fun p hp => h.lowered p hp (by rw [hdemand]; exact habove),
        fun p hp => h.stopped p hp (by rw [hdemand]; exact habove)⟩, fun p hstarting => ?_, fun p hmode => ?_, hdemand,
      hdrives⟩
    · rw [h.stands p (by rw [hstarting]; decide) (by rw [hstarting]; decide) (by rw [hstarting]; decide), hstarting]
    · exact h.stands p (fun hst => hmode (by rw [hst]; rfl)) (fun hst => hmode (by rw [hst]; rfl))
        (fun hst => hmode (by rw [hst]; rfl))

end Sys2Proof.Proofs
end

section
/-! PROOF. A table activated or refused: what its activation leaves of the tables (R172, R173). -/

namespace Sys2Proof.Proofs

open Sys2Proof.Machine Sys2Proof.Safety Sys2Proof.Laws

variable {s t u : State} {x : TableId} {image : List Byte} {d : TableData}

/-! ### The tables after an activation (R172, R173) -/

/-- A table's image activated: the active copy, its shadow emptied, its outcome and mark, its write begun or queued. -/
structure TableActivated (x : TableId) (image : List Byte) (d : TableData) (s t : State) : Prop where
  active : t.tables.active = s.tables.active.put image d
  shadows : t.tables.shadows = s.tables.shadows.set x .empty
  outcomes : t.tables.outcomes = s.tables.outcomes.set x .activated
  marks : t.tables.marks = s.tables.marks.set x false
  refused : t.tables.refused = s.tables.refused
  written : t.tables.writing = some (x, image) ∨ (x, image) ∈ t.tables.queue

theorem TableActivated.congr (h : TableActivated x image d s t) (hu : u.tables = t.tables) :
    TableActivated x image d s u := by
  obtain ⟨hactive, hshadows, houtcomes, hmarks, hrefused, hwritten⟩ := h
  rw [← hu] at hactive hshadows houtcomes hmarks hrefused hwritten
  exact ⟨hactive, hshadows, houtcomes, hmarks, hrefused, hwritten⟩

/-- A write queued is begun or stands in the queue (R173). -/
theorem written_queueWrite (x : TableId) (image : List Byte) (s : State) :
    (queueWrite x image s).tables.writing = some (x, image) ∨ (x, image) ∈ (queueWrite x image s).tables.queue := by
  have hstart : ∀ u : State, (x, image) ∈ u.tables.queue →
      (startWrite u).tables.writing = some (x, image) ∨ (x, image) ∈ (startWrite u).tables.queue := fun u hu => by
    unfold startWrite
    split
    · next w rest _ hqueue =>
      rw [hqueue, List.mem_cons] at hu
      exact hu.imp_left fun hw => congrArg some hw.symm
    · exact .inr hu
  refine hstart _ ?_
  dsimp only
  split_ifs with hany
  · obtain ⟨w, hw, hx⟩ := List.any_eq_true.mp hany
    exact List.mem_map.mpr ⟨w, hw, if_pos (of_decide_eq_true hx)⟩
  · simp

theorem tables_queueWrite (x : TableId) (image : List Byte) (s : State) : (queueWrite x image s).tables =
    { s.tables with
      writing := (queueWrite x image s).tables.writing
      queue := (queueWrite x image s).tables.queue } := by
  unfold queueWrite
  rw [startWrite_eq]

theorem tables_setMark (x : TableId) (b : Bool) (s : State) :
    (setMark x b s).tables = { s.tables with marks := s.tables.marks.set x b } :=
  (views_stateStoreFault _).1

theorem tableActivated_activateImage (hd : readTable s.surroundings x image = .ok d) :
    TableActivated x image d s (activateImage x image s) := by
  have hread : readTable (setShadow x .empty s).surroundings x image = .ok d := hd
  unfold activateImage
  dsimp only
  rw [hread]
  dsimp only
  have hwritten := written_queueWrite x image (setMark x false ((setShadow x .empty s).putTable image d))
  have htables := tables_queueWrite x image (setMark x false ((setShadow x .empty s).putTable image d))
  rw [tables_setMark] at htables
  generalize queueWrite x image _ = v at hwritten htables ⊢
  have hdeliver := tables_deliver x (setShadow x .empty s) v
  generalize deliver x _ v = w at hdeliver ⊢
  rw [← hdeliver] at hwritten
  rw [htables] at hdeliver
  have hset : (setOutcome x .activated w).tables =
      { w.tables with outcomes := w.tables.outcomes.set x .activated } := rfl
  refine ⟨?_, ?_, ?_, ?_, ?_, hwritten⟩ <;> rw [hset, hdeliver] <;> rfl

/-- A refusal leaves the table in force, counted (R172). -/
theorem tables_activateImage_refused {e : Reason × Nat} (he : readTable s.surroundings x image = .error e) :
    (activateImage x image s).tables = { s.tables with
      shadows := s.tables.shadows.set x .empty
      outcomes := s.tables.outcomes.set x .refused
      refused := inc16 s.tables.refused } := by
  have hread : readTable (setShadow x .empty s).surroundings x image = .error e := he
  unfold activateImage
  dsimp only
  rw [hread]
  rfl

theorem shadows_activateImage (x : TableId) (image : List Byte) (s : State) :
    (activateImage x image s).tables.shadows = s.tables.shadows.set x .empty := by
  cases h : readTable s.surroundings x image with
  | ok d => exact (tableActivated_activateImage h).shadows
  | error e => rw [tables_activateImage_refused h]

/-- The image put in force is the active copy, and every other table's stands (R172). -/
theorem TableActivated.activeImage (h : TableActivated x image d s t) (hd : tableOf d = x) :
    t.activeImage x = some image ∧ ∀ y, y ≠ x → t.activeImage y = s.activeImage y := by
  refine ⟨?_, fun y hy => ?_⟩
  · rw [activeImage_eq, h.active, activeCopy_put, if_pos hd.symm]
    rfl
  · rw [activeImage_eq, activeImage_eq, h.active, activeCopy_put, if_neg (hd ▸ hy)]

/-! ### The one table that waits for a method (R172) -/

theorem awaits_eq_false {m : Method} : s.awaits m = false ↔ ∀ y gs, s.tables.shadows.get y ≠ .waiting gs m := by
  simp only [State.awaits, List.any_eq_false]
  refine ⟨fun h y gs hy => h y (mem_tableIds y) (by simp [hy]), fun h y _ hy => ?_⟩
  split at hy
  · next gs m' hshadow =>
    obtain rfl := of_decide_eq_true hy
    exact h y gs hshadow
  · cases hy

theorem activateIf_fixed {m : Method} {y : TableId} (h : ∀ gs, s.tables.shadows.get y ≠ .waiting gs m) :
    activateIf m s y = s := by
  unfold activateIf
  split
  · next gs m' hshadow =>
    refine if_neg fun hm => h gs ?_
    rw [hshadow, hm]
  · rfl

variable {m : Method} {gs : List (List Byte)}

theorem activateIf_awaited (hw : s.tables.shadows.get x = .waiting gs m) :
    activateIf m s x = activateImage x gs.flatten s := by
  unfold activateIf
  rw [hw]
  exact if_pos rfl

/-- An activation leaves waiting what waited beside it. -/
theorem awaits_activateImage (h : ∀ y gs', y ≠ x → s.tables.shadows.get y ≠ .waiting gs' m) (image : List Byte) :
    (activateImage x image s).awaits m = false := by
  refine awaits_eq_false.mpr fun y gs' => ?_
  rw [shadows_activateImage, PerTable.get_set]
  split_ifs with hy
  · exact Shadow.noConfusion
  · exact h y gs' hy

/-- Where one table alone waits for a method, it alone is activated. -/
theorem activateAll_one (hw : s.tables.shadows.get x = .waiting gs m)
    (hothers : ∀ y gs', y ≠ x → s.tables.shadows.get y ≠ .waiting gs' m) :
    activateAll m s = activateImage x gs.flatten s := by
  have hafter := awaits_eq_false.mp (awaits_activateImage hothers gs.flatten)
  have hfold : ∀ l : List TableId, x ∈ l → l.foldl (activateIf m) s = activateImage x gs.flatten s := by
    intro l
    induction l with
    | nil => exact fun hx => absurd hx List.not_mem_nil
    | cons y l ih =>
      intro hx
      rw [List.foldl_cons]
      by_cases hy : y = x
      · rw [hy, activateIf_awaited hw]
        exact foldl_fixed (fun z => activateIf_fixed (hafter z)) l
      · rw [activateIf_fixed fun gs' => hothers y gs' hy]
        exact ih ((List.mem_cons.mp hx).resolve_left (Ne.symm hy))
  exact hfold tableIds (mem_tableIds x)

/-! ### NEXT_PERIOD at the balance expiry (R58, R172) -/

/-- The one table that waits for NEXT_PERIOD is activated or refused at the balance expiry, and the tables stand as
that leaves them. -/
theorem exec_balanceUpdate_waiting (o : BalanceOrder) (hon : s.on = true) (hquiet : s.awaits .quiet = false)
    (hw : s.tables.shadows.get x = .waiting gs .nextPeriod)
    (hothers : ∀ y gs', y ≠ x → s.tables.shadows.get y ≠ .waiting gs' .nextPeriod) :
    ∃ t, exec (.balanceUpdate o) s = .next t ∧ t.tables = (activateImage x gs.flatten s).tables := by
  have hexec : exec (.balanceUpdate o) s = .next (finishDrives (judgeWeirs (deliveredToDrives o
      (formRecord (activateAll .nextPeriod s))))) := by
    rw [exec, execBalanceUpdate, if_pos hon]
    rfl
  rw [activateAll_one hw hothers] at hexec
  have hstands := recordStands_finished (s := activateImage x gs.flatten s) o
    (awaits_set_empty hquiet (shadows_activateImage x gs.flatten s))
  exact ⟨_, hexec, hstands.tables⟩

end Sys2Proof.Proofs
end

section
/-! PROOF. A TABLE_COMMIT judged in steps, and what a pass answers (R170, R182). -/

namespace Sys2Proof.Proofs

open Sys2Proof.Machine Sys2Proof.Safety Sys2Proof.Laws

variable {s t : State} {src tag table method : Byte} {check : BitVec 16} {x : TableId} {m : Method}
  {gs : List (List Byte)} {d : TableData}

/-! ### Answers (R182) -/

theorem respond_badState (src code tag : Byte) (s : State) :
    respond src code tag false (Answer.plain .badState) s = withReply s src code tag [3, 0] := rfl

theorem respond_rejected (src code tag : Byte) (reason : Reason) (i : Nat) (s : State) :
    respond src code tag false (Answer.rejected reason i) s =
      withReply s src code tag ([6, 0, BitVec.ofNat 8 reason.code] ++ u16 i) := rfl

/-! ### The steps of a commit (R170) -/

/-- A commit taken is judged and answered once. -/
theorem exec_commit (h : Taken s src .configure) : exec (.tableCommit src tag table method check) s =
    .next (respond src 34 tag false (doTableCommit table method check s).1 (doTableCommit table method check s).2) := by
  have hrequest : exec (.tableCommit src tag table method check) s =
      .next (request src tag (.tableCommit table method check) s) := rfl
  have htaken := request_taken src tag (.tableCommit table method check) .configure
    (parseParams_tableCommit table method check) (by rw [Request.code]; decide) h
  have hrestart : s.startsRestart (.tableCommit table method check) = false := by simp [State.startsRestart]
  have hcode : (Request.tableCommit table method check).code = 34 := by rw [Request.code]
  rw [hrestart, hcode] at htaken
  rw [hrequest, htaken]
  rfl

theorem doTableCommit_malformed (h : tableOfCode table = none ∨ methodOfCode method = none) :
    doTableCommit table method check s = (Answer.plain .malformed, s) := by
  unfold doTableCommit
  split
  · next hx hm => rcases h with h | h <;> simp_all
  · rfl

section Named
variable (hx : tableOfCode table = some x) (hm : methodOfCode method = some m)
include hx hm

theorem doTableCommit_notLoading (h : ∀ l, s.tables.shadows.get x ≠ .loading l) :
    doTableCommit table method check s = (Answer.plain .badState, s) := by
  unfold doTableCommit
  rw [hx, hm]
  dsimp only
  split
  · next l hl => exact absurd hl (h l)
  · rfl

variable {l : List (Option (List Byte))} (hl : s.tables.shadows.get x = .loading l)
include hl

theorem doTableCommit_pastStandby (h : x = .station ∧ s.tables.mode ≠ .standby) :
    doTableCommit table method check s = (Answer.plain .badState, s) := by
  unfold doTableCommit
  rw [hx, hm]
  dsimp only
  rw [hl]
  exact if_pos ⟨h.1, decide_eq_true h.2⟩

variable (hstandby : x = .station → s.tables.mode = .standby)
include hstandby

theorem doTableCommit_loading : doTableCommit table method check s =
    match allSegments l with
    | none => (Answer.plain .badState, s)
    | some gs => commitImage x m gs check s := by
  have hmay : ¬(x = .station ∧ s.pastStandby = true) := fun hc => by
    have hmode := hstandby hc.1
    simp [State.pastStandby, hmode] at hc
  unfold doTableCommit
  rw [hx, hm]
  dsimp only
  rw [hl]
  exact if_neg hmay

theorem doTableCommit_missing (h : none ∈ l) :
    doTableCommit table method check s = (Answer.plain .badState, s) := by
  have hnone : ∀ l : List (Option (List Byte)), none ∈ l → allSegments l = none := fun l => by
    induction l with
    | nil => exact fun h => absurd h List.not_mem_nil
    | cons g l ih =>
      cases g with
      | none => exact fun _ => rfl
      | some g =>
        intro h
        rw [allSegments, ih (by simpa using h)]
        rfl
  rw [doTableCommit_loading hx hm hl hstandby, hnone l h]

theorem doTableCommit_whole (h : l = gs.map some) :
    doTableCommit table method check s = commitImage x m gs check s := by
  rw [doTableCommit_loading hx hm hl hstandby, h, allSegments_some]

end Named

theorem commitImage_check (h : crc gs.flatten ≠ check) :
    commitImage x m gs check s = (Answer.rejected .check 0, s) := by
  unfold commitImage
  exact if_pos h

theorem commitImage_refused (h : crc gs.flatten = check) {e : Reason × Nat}
    (he : readTable s.surroundings x gs.flatten = .error e) :
    commitImage x m gs check s = (Answer.rejected e.1 e.2, s) := by
  rw [commitImage, if_neg (not_not.mpr h), he]

theorem commitImage_passed (h : crc gs.flatten = check) (hd : readTable s.surroundings x gs.flatten = .ok d) :
    commitImage x m gs check s = commitPassed x m gs s := by
  rw [commitImage, if_neg (not_not.mpr h), hd]

/-! ### A pass (R170 step 8, R172) -/

/-- The state with the image PENDING for its method. -/
def pendingFor (x : TableId) (m : Method) (gs : List (List Byte)) (s : State) : State :=
  setShadow x (.waiting gs (commitMethod x m)) s

/-- The state at the end of the event of a commit that passed. -/
def committedFor (x : TableId) (m : Method) (gs : List (List Byte)) (s : State) : State :=
  finishDrives (activateIf .immediate (pendingFor x m gs s) x)

/-- The response to a commit that passed: 1 where the table was activated, 0 where it is pending. -/
theorem respond_passed (src tag : Byte) (x : TableId) (m : Method) (gs : List (List Byte)) (s : State) :
    respond src 34 tag false (commitPassed x m gs s).1 (commitPassed x m gs s).2 =
      withReply (committedFor x m gs s) src 34 tag ([0, 0] ++ flag (!(committedFor x m gs s).isWaiting x)) := by
  have hpassed : commitPassed x m gs s =
      (Answer.done (flag (!(committedFor x m gs s).isWaiting x)), committedFor x m gs s) := rfl
  rw [hpassed, respond_done]

theorem worked_committedFor (x : TableId) (m : Method) (gs : List (List Byte)) (s : State) :
    Worked s (committedFor x m gs s) :=
  worked_finishDrives (worked_activateIf (worked_setShadow (.refl s) _ _) _ _)

/-! ### A pass by its method (R172) -/

theorem shadow_pendingFor (x : TableId) (m : Method) (gs : List (List Byte)) (s : State) :
    (pendingFor x m gs s).tables.shadows.get x = .waiting gs (commitMethod x m) := by
  rw [pendingFor, shadow_setShadow, if_pos rfl]

/-- Beside a commit's own table, none waits for QUIET where none did. -/
theorem othersQuiet_pendingFor (hq : s.awaits .quiet = false) (y : TableId) (gs' : List (List Byte)) (hy : y ≠ x) :
    (pendingFor x m gs s).tables.shadows.get y ≠ .waiting gs' .quiet := by
  rw [pendingFor, shadow_setShadow, if_neg hy]
  exact awaits_eq_false.mp hq y gs'

theorem TableActivated.of_pendingFor (h : TableActivated x gs.flatten d (pendingFor x m gs s) t) :
    TableActivated x gs.flatten d s t :=
  ⟨h.active, h.shadows.trans (perTable_set_set ..), h.outcomes, h.marks, h.refused, h.written⟩

theorem isWaiting_activated {image : List Byte} (h : TableActivated x image d s t) : t.isWaiting x = false := by
  rw [State.isWaiting, h.shadows, PerTable.get_set, if_pos rfl]

/-- With method IMMEDIATE, and for STATION and ACCESS with any, the table is activated in the event. -/
theorem committedFor_immediate (hq : s.awaits .quiet = false) (hd : readTable s.surroundings x gs.flatten = .ok d)
    (h : commitMethod x m = .immediate) : TableActivated x gs.flatten d s (committedFor x m gs s) := by
  have hshadow := shadow_pendingFor x m gs s
  rw [h] at hshadow
  have hactivated := tableActivated_activateImage (s := pendingFor x m gs s) hd
  have hquiet := awaits_activateImage (othersQuiet_pendingFor (x := x) (m := m) (gs := gs) hq) gs.flatten
  rw [committedFor, activateIf_awaited hshadow]
  exact (hactivated.congr (tables_of_outsideDrives (outsideDrives_finishDrives _ hquiet))).of_pendingFor

/-- With another method the event of the commit ends with the table PENDING. -/
theorem committedFor_pending (h : commitMethod x m ≠ .immediate) :
    committedFor x m gs s = finishDrives (pendingFor x m gs s) := by
  rw [committedFor, activateIf_fixed]
  rw [shadow_pendingFor]
  rintro gs' hgs
  exact h (Shadow.waiting.inj hgs).2

theorem commitMethod_eq (hstation : x ≠ .station) (haccess : x ≠ .access) : commitMethod x m = m := by
  cases x <;> first | contradiction | rfl

theorem isWaiting_pending {u : State} (hu : u.tables = (pendingFor x m gs s).tables) : u.isWaiting x = true := by
  rw [State.isWaiting, hu, shadow_pendingFor]

end Sys2Proof.Proofs
end

section
/-! PROOF. What keeps the drives from coming to rest in a grant pass, and a QUIET commit among them (R79, R81, R172). -/

namespace Sys2Proof.Proofs

open Sys2Proof.Machine Sys2Proof.Safety Sys2Proof.Laws

variable {s t u : State} {p : Pump}

/-! ### Nothing to grant (R79) -/

/-- Where no drive waits and nothing is to be shed, the drives are settled as they stand. -/
theorem settleDrives_eq (hover : s.overOccupied = false) (hpumps : ∀ p, (s.pump p).state ≠ .startWait)
    (hrakes : ∀ r, (s.rake r).state ≠ .waitSlot) : settleDrives s = s := by
  have hurgent : eachSide grantUrgent s = s :=
    foldl_fixed (fun r => by rw [grantUrgent, waiting_eq_false (hrakes r)]; rfl) _
  have hduty : s.seq.duty.foldl (fun s p => grantCandidate p s) s = s :=
    foldl_fixed (fun p => by rw [grantCandidate, if_neg fun hc => hpumps p hc.1]) _
  have hother : eachSide grantOther s = s :=
    foldl_fixed (fun r => by rw [grantOther, waiting_eq_false (hrakes r)]; rfl) _
  rw [settleDrives, shedCheck_eq hover, grantPass, hurgent, hduty, hother]

/-! ### A pump that is neither waiting nor running (R79 to R81) -/

theorem run_releaseDrive (q : Pump) (s : State) : (releaseDrive q s).seq.run ⊆ s.seq.run := by
  unfold releaseDrive leaveRunOrder startStagger
  split
  · exact List.Subset.refl _
  · exact List.filter_subset_self _
  · exact List.Subset.refl _

theorem run_postPump (q : Pump) (c : CommandCode) (s : State) : (postPump q c s).seq.run = s.seq.run := by
  rw [postPump, run_postCommand]
  rfl

theorem run_tripInhibited (q : Pump) (s : State) : (tripInhibited q s).seq.run ⊆ s.seq.run := by
  unfold tripInhibited
  split
  · rw [protectTo, run_postPump]
    exact run_releaseDrive q s
  · exact List.Subset.refl _

/-- Shedding puts no pump into the run order. -/
theorem run_shedPump (q : Pump) (s : State) : (shedPump q s).seq.run ⊆ s.seq.run := by
  unfold shedPump
  split
  · unfold enterStopping
    dsimp only
    split
    · rw [run_postPump]
      exact run_releaseDrive q s
    · refine List.Subset.trans (run_tripInhibited q _) ?_
      change (postPump q .stop _).seq.run ⊆ _
      rw [run_postPump]
      exact run_releaseDrive q s
  · exact List.Subset.refl _

theorem seq_grantRake (r : Side) (s : State) : (grantRake r s).seq = s.seq := by
  have htimer : ∀ u, (judgeJamTimer r u).seq = u.seq := fun u => by
    unfold judgeJamTimer
    dsimp only
    split_ifs <;> rfl
  rw [grantRake, htimer, postRake, run_postCommand]
  rfl

/-- A pump's record stands, and it does not enter the run order. -/
structure OutOfRun (p : Pump) (s t : State) : Prop where
  pump : t.pump p = s.pump p
  run : p ∉ t.seq.run

theorem OutOfRun.grantIfFree (h : OutOfRun p s t) (r : Side) : OutOfRun p s (grantIfFree r t) := by
  unfold Machine.grantIfFree
  split
  · exact ⟨(pump_grantRake r t p).trans h.pump, by rw [seq_grantRake]; exact h.run⟩
  · exact h

/-- An urgent request sheds a pump of the run order alone (R81). -/
theorem OutOfRun.preempt (h : OutOfRun p s t) (r : Side) : OutOfRun p s (preempt r t) := by
  unfold Machine.preempt
  split
  · split
    · exact h
    · next q hlast =>
      have hq : p ≠ q := fun hpq => h.run (hpq ▸ List.mem_of_getLast? hlast)
      have hpump : (shedPump q t).pump p = t.pump p := by
        unfold shedPump
        split
        · exact pump_enterStopping_other hq t
        · rfl
      exact ⟨hpump.trans h.pump, fun hrun => h.run (run_shedPump q t hrun)⟩
  · exact h

theorem OutOfRun.grantUrgent (h : OutOfRun p s t) (r : Side) : OutOfRun p s (grantUrgent r t) := by
  unfold Machine.grantUrgent
  split
  · exact (h.preempt r).grantIfFree r
  · exact h

/-- A pump that does not wait is left by the pass over the duty order (R79). -/
theorem pump_grantCandidate (hp : (t.pump p).state ≠ .startWait) (q : Pump) :
    (grantCandidate q t).pump p = t.pump p := by
  by_cases hq : p = q
  · subst hq
    rw [grantCandidate, if_neg fun hc => hp hc.1]
  · unfold grantCandidate
    split_ifs <;> simp [hq]

/-- A grant pass leaves a pump that neither waits nor stands in the run order (R79, R81). -/
theorem pump_grantPass (hwait : (s.pump p).state ≠ .startWait) (hrun : p ∉ s.seq.run) :
    (grantPass s).pump p = s.pump p := by
  have hurgent : OutOfRun p s (eachSide grantUrgent s) :=
    foldl_keeps (P := OutOfRun p s) (fun _ r hu => hu.grantUrgent r) ⟨rfl, hrun⟩ _
  have hduty : ∀ l : List Pump, (l.foldl (fun s p => grantCandidate p s) (eachSide grantUrgent s)).pump p = s.pump p :=
    foldl_keeps (P := fun u => u.pump p = s.pump p)
      (fun u q hu => (pump_grantCandidate (by rw [hu]; exact hwait) q).trans hu) hurgent.pump
  have hother : ∀ v r, (grantOther r v).pump p = v.pump p := fun v r => by
    unfold grantOther Machine.grantIfFree
    split_ifs
    · exact pump_grantRake r v p
    · rfl
    · rfl
  exact (eachSide_view (fun u : State => u.pump p) grantOther (fun r v => hother v r) _).trans (hduty _)

/-! ### The drives not quiet (R172) -/

/-- The drives are kept from being quiet: a pump STARTING or STOPPING, or a rake REVERSING. -/
def Busy (s : State) : Prop :=
  (∃ p, (s.pump p).state = .starting ∨ (s.pump p).state = .stopping) ∨ ∃ r, (s.rake r).state = .reversing

theorem quiet_of_busy (h : Busy s) : s.quiet = false := by
  rw [State.quiet, Bool.and_eq_false_iff]
  rcases h with ⟨p, hp⟩ | ⟨r, hr⟩
  · refine .inl (Bool.eq_false_iff.mpr fun hall => ?_)
    have hone := List.all_eq_true.mp hall p (by cases p <;> simp [pumps])
    rcases hp with hp | hp <;> simp [hp] at hone
  · refine .inr (Bool.eq_false_iff.mpr fun hall => ?_)
    have hone := List.all_eq_true.mp hall r (by cases r <;> simp [sides])
    simp [hr] at hone

/-- With nothing to shed, the drives settled are as busy as before. -/
theorem Busy.settleDrives (h : Busy s) (hrun : RunOrderTrue s) (hover : s.overOccupied = false) :
    Busy (settleDrives s) := by
  rw [Machine.settleDrives, shedCheck_eq hover]
  refine h.imp (fun ⟨p, hp⟩ => ⟨p, ?_⟩) (fun ⟨r, hr⟩ => ⟨r, ?_⟩)
  · rw [pump_grantPass (by rcases hp with hp | hp <;> rw [hp] <;> decide) fun hmem => ?_]
    · exact hp
    · have hrunning := (hrun.2 p).mp hmem
      rcases hp with hp | hp <;> rw [hp] at hrunning <;> cases hrunning
  · rw [(rakeStands_grantPass (by rw [hr]; decide)).rake, hr]

/-! ### A commit with method QUIET (R172) -/

section Quiet
variable {x : TableId} {gs : List (List Byte)} {d : TableData} (hstation : x ≠ .station) (haccess : x ≠ .access)
include hstation haccess

theorem shadow_pendingFor_own (m : Method) : (pendingFor x m gs s).tables.shadows.get x = .waiting gs m := by
  rw [shadow_pendingFor, commitMethod_eq hstation haccess]

/-- Where the drives are busy the table stays PENDING. -/
theorem tables_committedFor_busy (hover : s.overOccupied = false) (hrun : RunOrderTrue s) (hbusy : Busy s) :
    (committedFor x .quiet gs s).tables = (pendingFor x .quiet gs s).tables := by
  have hsettled : Busy (settleDrives (pendingFor x .quiet gs s)) :=
    Busy.settleDrives (s := pendingFor x .quiet gs s) hbusy hrun hover
  have hnone : activateQuiet (settleDrives (pendingFor x .quiet gs s)) = settleDrives (pendingFor x .quiet gs s) := by
    rw [activateQuiet, quiet_of_busy hsettled]
    rfl
  rw [committedFor_pending (by rw [commitMethod_eq hstation haccess]; decide), finishDrives, hnone]
  exact tables_of_outsideDrives ((outsideDrives_finishAlarms _).trans (outsideDrives_settleDrives _))

/-- Where the drives are quiet and none waits the table is activated in the event. -/
theorem committedFor_quiet (hq : s.awaits .quiet = false) (hover : s.overOccupied = false)
    (hd : readTable s.surroundings x gs.flatten = .ok d) (hquiet : s.quiet = true)
    (hpumps : ∀ p, (s.pump p).state ≠ .startWait) (hrakes : ∀ r, (s.rake r).state ≠ .waitSlot) :
    TableActivated x gs.flatten d s (committedFor x .quiet gs s) := by
  have hshadow := shadow_pendingFor_own (s := s) (gs := gs) hstation haccess .quiet
  have hsettled : settleDrives (pendingFor x .quiet gs s) = pendingFor x .quiet gs s :=
    settleDrives_eq (s := pendingFor x .quiet gs s) hover hpumps hrakes
  have hawaits : (pendingFor x .quiet gs s).awaits .quiet = true :=
    Bool.eq_true_of_not_eq_false fun h => awaits_eq_false.mp h x gs hshadow
  have hquiet' : (pendingFor x .quiet gs s).quiet = true := hquiet
  have hall := activateAll_one hshadow (othersQuiet_pendingFor hq)
  have hactivated := tableActivated_activateImage (s := pendingFor x .quiet gs s) hd
  rw [committedFor_pending (by rw [commitMethod_eq hstation haccess]; decide), finishDrives, hsettled, activateQuiet,
    hquiet', hawaits, if_pos (Bool.and_self true), hall]
  exact (hactivated.congr (tables_of_outsideDrives
    ((outsideDrives_finishAlarms _).trans (outsideDrives_settleDrives _)))).of_pendingFor

end Quiet

end Sys2Proof.Proofs
end

section
/-! PROOF. O49: a commit judged step by step, and a pass by its method (R58, R170, R172). -/

namespace Sys2Proof.Proofs

open Sys2Proof.Machine Sys2Proof.Safety Sys2Proof.Laws

variable {s t : State} {src tag table method : Byte} {check : BitVec 16} {x : TableId} {m : Method}
  {gs : List (List Byte)} {d : TableData}

/-- A commit that passes is answered by whether its table still waits at the end of the event. -/
structure PassAnswered (s w t : State) (src tag : Byte) (x : TableId) : Prop where
  tables : t.tables = w.tables
  answered : Answered s t src 34 tag ([0, 0] ++ flag (!w.isWaiting x))
  rest : { t with transit := { t.transit with response := s.transit.response } } = w

theorem passAnswered_withReply {w : State} (hresponse : w.transit.response = s.transit.response) (src tag : Byte)
    (x : TableId) : PassAnswered s w (withReply w src 34 tag ([0, 0] ++ flag (!w.isWaiting x))) src tag x where
  tables := rfl
  answered := by rw [Answered, withReply, hresponse]
  rest := by rw [← hresponse]; rfl

theorem exec_commit_passed (h : Taken s src .configure) (hx : tableOfCode table = some x)
    (hm : methodOfCode method = some m) (hl : s.tables.shadows.get x = .loading (gs.map some))
    (hstandby : x = .station → s.tables.mode = .standby) (hcrc : crc gs.flatten = check)
    (hd : readTable s.surroundings x gs.flatten = .ok d) : ∃ t,
      exec (.tableCommit src tag table method check) s = .next t ∧ PassAnswered s (committedFor x m gs s) t src tag x := by
  rw [exec_commit h, doTableCommit_whole hx hm hl hstandby rfl, commitImage_passed hcrc hd, respond_passed]
  exact ⟨_, rfl, passAnswered_withReply (worked_committedFor x m gs s).response src tag x⟩

/-- A table activated in the event of its commit is answered by 1, and stands activated. -/
theorem PassAnswered.activated {w : State} (h : PassAnswered s w t src tag x)
    (hw : TableActivated x gs.flatten d s w) :
    Answered s t src 34 tag [0, 0, 1] ∧ TableActivated x gs.flatten d s t := by
  have hanswered := h.answered
  rw [isWaiting_activated hw] at hanswered
  exact ⟨hanswered, hw.congr h.tables⟩

/-- A table left PENDING is answered by 0. -/
theorem PassAnswered.pending {w : State} (h : PassAnswered s w t src tag x)
    (hw : w.tables = (pendingFor x m gs s).tables) :
    Answered s t src 34 tag [0, 0, 0] ∧ t.tables = (pendingFor x m gs s).tables := by
  have hanswered := h.answered
  rw [isWaiting_pending hw] at hanswered
  exact ⟨hanswered, h.tables.trans hw⟩

/-- The records of a table activated, one by one. -/
theorem TableActivated.records {image : List Byte} (h : TableActivated x image d s t) :
    t.tables.shadows.get x = .empty ∧ t.tables.outcomes.get x = .activated ∧ t.tables.marks.get x = false ∧
      ∀ y, y ≠ x → t.tables.shadows.get y = s.tables.shadows.get y := by
  rw [h.shadows, h.outcomes, h.marks]
  refine ⟨?_, ?_, ?_, fun y hy => ?_⟩ <;> rw [PerTable.get_set]
  exacts [if_pos rfl, if_pos rfl, if_pos rfl, if_neg hy]

/-- With method NEXT_PERIOD the event of the commit leaves the table PENDING, and nothing else changed outside the
drives. -/
theorem outsideDrives_committedFor_nextPeriod (hq : s.awaits .quiet = false) (hstation : x ≠ .station)
    (haccess : x ≠ .access) : outsideDrives (committedFor x .nextPeriod gs s) =
      outsideDrives (pendingFor x .nextPeriod gs s) := by
  have hawaits : (pendingFor x .nextPeriod gs s).awaits .quiet = false := by
    refine awaits_eq_false.mpr fun y gs' => ?_
    by_cases hy : y = x
    · rw [hy, shadow_pendingFor_own hstation haccess]
      exact fun h => Method.noConfusion (Shadow.waiting.inj h).2
    · exact othersQuiet_pendingFor hq y gs' hy
  rw [committedFor_pending (by rw [commitMethod_eq hstation haccess]; decide), outsideDrives_finishDrives _ hawaits]

theorem commitMethod_immediate (h : m = .immediate ∨ x = .station ∨ x = .access) :
    commitMethod x m = .immediate := by
  rcases h with rfl | rfl | rfl
  · cases x <;> rfl
  · rfl
  · rfl

theorem tables_pendingFor_own (hstation : x ≠ .station) (haccess : x ≠ .access) (m : Method) :
    (pendingFor x m gs s).tables = { s.tables with shadows := s.tables.shadows.set x (.waiting gs m) } := by
  rw [pendingFor, commitMethod_eq hstation haccess]
  rfl

/-- Settles O49: the activation at the balance expiry; the steps of a commit; a pass by its method. -/
theorem commitIsJudgedAndActivated : Obligations.CommitIsJudgedAndActivated := by
  refine ⟨fun o x gs s hon hsettled hw hothers => ?_, fun src tag table method check s htaken hsettled => ⟨fun h => ?_,
    fun x m hx hm => ⟨fun h => ?_, fun l hl => ⟨fun hstation hmode => ?_, fun hstandby => ⟨fun hmissing => ?_,
    fun gs hgs => ⟨fun hcrc => ?_, fun reason i hcrc he => ?_, fun d hcrc hd => ?_⟩⟩⟩⟩⟩⟩
  · obtain ⟨t, hexec, ht⟩ := exec_balanceUpdate_waiting o hon hsettled.quiet hw hothers
    refine ⟨t, hexec, by rw [ht, shadows_activateImage], fun d hd => ?_, fun e he => ?_⟩
    · have h := (tableActivated_activateImage hd).congr ht
      obtain ⟨himage, hstand⟩ := h.activeImage (tableOf_readTable hd)
      exact ⟨himage, hstand, h.outcomes, h.marks, h.refused, h.written⟩
    · rw [ht, tables_activateImage_refused he]
  · rw [exec_commit htaken, doTableCommit_malformed h, respond_malformed]
  · rw [exec_commit htaken, doTableCommit_notLoading hx hm h, respond_badState]
  · rw [exec_commit htaken, doTableCommit_pastStandby hx hm hl ⟨hstation, hmode⟩, respond_badState]
  · rw [exec_commit htaken, doTableCommit_missing hx hm hl hstandby hmissing, respond_badState]
  · rw [exec_commit htaken, doTableCommit_whole hx hm hl hstandby hgs, commitImage_check hcrc, respond_rejected]
    rfl
  · rw [exec_commit htaken, doTableCommit_whole hx hm hl hstandby hgs, commitImage_refused hcrc he, respond_rejected]
  · subst hgs
    obtain ⟨t, hexec, hpass⟩ := exec_commit_passed (tag := tag) htaken hx hm hl hstandby hcrc hd
    refine ⟨t, hexec, fun himmediate => ?_,
      fun hquiet hstation haccess hover => ⟨fun hrest hpumps hrakes => ?_, fun hrun hbusy => ?_⟩,
      fun hperiod hstation haccess => ?_⟩
    · obtain ⟨hanswered, h⟩ := hpass.activated
        (committedFor_immediate hsettled.quiet hd (commitMethod_immediate himmediate))
      obtain ⟨himage, hstand⟩ := h.activeImage (tableOf_readTable hd)
      obtain ⟨hshadow, houtcome, hmark, hothers⟩ := h.records
      exact ⟨hanswered, hshadow, himage, houtcome, hmark, h.written, fun y hy => ⟨hstand y hy, hothers y hy⟩⟩
    · subst hquiet
      obtain ⟨hanswered, h⟩ := hpass.activated
        (committedFor_quiet hstation haccess hsettled.quiet hover hd hrest hpumps hrakes)
      obtain ⟨-, houtcome, hmark, -⟩ := h.records
      exact ⟨hanswered, h.shadows, (h.activeImage (tableOf_readTable hd)).1, houtcome, hmark, h.written⟩
    · subst hquiet
      obtain ⟨hanswered, htables⟩ := hpass.pending (tables_committedFor_busy hstation haccess hover hrun hbusy)
      exact ⟨hanswered, htables.trans (tables_pendingFor_own hstation haccess .quiet)⟩
    · subst hperiod
      have hframe := outsideDrives_committedFor_nextPeriod (gs := gs) hsettled.quiet hstation haccess
      obtain ⟨hanswered, htables⟩ := hpass.pending (tables_of_outsideDrives hframe)
      refine ⟨hanswered, htables.trans (tables_pendingFor_own hstation haccess .nextPeriod), ?_⟩
      exact congrArg (fun w : State => { w with tables := s.tables })
        ((congrArg outsideDrives hpass.rest).trans hframe)

end Sys2Proof.Proofs
end

section
/-! SUPPORT. What the laws of the drives turn on (R76, R77, R86, R96, R125): the drives' states, the run order and the
station's mode; and which moves of one drive keep those laws. -/

namespace Sys2Proof.Proofs

open Sys2Proof.Machine Sys2Proof.Safety Sys2Proof.Laws

variable {s t u : State} {p q : Pump} {r : Side}

/-! ### The drives' states -/

/-- What the laws of the drives read of the state: the state of every drive, the run order, the mode and the settling
timer. -/
structure DriveStates where
  pump : Pump → PumpState
  rake : Side → RakeState
  run : List Pump
  mode : StationMode
  settling : Option Nat

def driveStates (s : State) : DriveStates where
  pump p := (s.pump p).state
  rake r := (s.rake r).state
  run := s.seq.run
  mode := s.tables.mode
  settling := s.tables.settling

theorem driveStates_congr (hseq : t.seq = s.seq) (hscreens : t.screens = s.screens) (htables : t.tables = s.tables) :
    driveStates t = driveStates s := by
  unfold driveStates State.pump State.rake
  rw [hseq, hscreens, htables]

theorem pumpState_of_driveStates (h : driveStates t = driveStates s) (p : Pump) :
    (t.pump p).state = (s.pump p).state := congrFun (congrArg DriveStates.pump h) p

theorem rakeState_of_driveStates (h : driveStates t = driveStates s) (r : Side) :
    (t.rake r).state = (s.rake r).state := congrFun (congrArg DriveStates.rake h) r

theorem run_of_driveStates (h : driveStates t = driveStates s) : t.seq.run = s.seq.run :=
  congrArg DriveStates.run h

theorem driveStates_of_outsideAlarms (h : outsideAlarms t = outsideAlarms s) : driveStates t = driveStates s :=
  driveStates_congr (seq_of_outsideAlarms h) (screens_of_outsideAlarms h)
    (tables_of_outsideDrives (outsideDrives_of_outsideAlarms h))

/-- A pump's record replaced by one of the same state. -/
theorem driveStates_setPump {w : PumpRec} (h : w.state = (s.pump p).state) :
    driveStates (s.setPump p w) = driveStates s := by
  have hpump : (fun q => ((s.setPump p w).pump q).state) = fun q => (s.pump q).state := by
    funext q
    rw [State.pump_setPump]
    split
    · subst q; exact h
    · rfl
  exact congrArg (fun f => { driveStates s with pump := f }) hpump

/-- A rake's record replaced by one of the same state. -/
theorem driveStates_setRake {w : RakeRec} (h : w.state = (s.rake r).state) :
    driveStates (s.setRake r w) = driveStates s := by
  have hrake : (fun y => ((s.setRake r w).rake y).state) = fun y => (s.rake y).state := by
    funext y
    rw [State.rake_setRake]
    split
    · subst y; exact h
    · rfl
  exact congrArg (fun f => { driveStates s with rake := f }) hrake

/-! ### The laws of the drives kept -/

/-- From `s` to `t` the run order stays true and the modes stay true (R77, R86, R96, R125, R174). -/
structure DrivesKept (s t : State) : Prop where
  run : RunOrderTrue s → RunOrderTrue t
  modes : ModesTrue s → ModesTrue t

@[simp] theorem DrivesKept.refl (s : State) : DrivesKept s s := ⟨id, id⟩

theorem DrivesKept.trans (h : DrivesKept s t) (h' : DrivesKept t u) : DrivesKept s u :=
  ⟨h'.run ∘ h.run, h'.modes ∘ h.modes⟩

theorem runOrderTrue_of_driveStates (h : driveStates t = driveStates s) (hs : RunOrderTrue s) : RunOrderTrue t := by
  obtain ⟨hnodup, hmem⟩ := hs
  unfold RunOrderTrue
  rw [run_of_driveStates h]
  exact ⟨hnodup, fun p => by rw [pumpState_of_driveStates h]; exact hmem p⟩

/-- Where the mode stands, no drive leaves HAND outside AUTOMATIC and no pump enters STARTING, the modes stay true. -/
theorem modesTrue_of_moves (hmode : t.tables.mode = s.tables.mode) (hsettling : t.tables.settling = s.tables.settling)
    (hpumps : s.automatic = false → ∀ p, (s.pump p).state = .hand → (t.pump p).state = .hand)
    (hrakes : s.automatic = false → ∀ r, (s.rake r).state = .hand → (t.rake r).state = .hand)
    (hstarting : ∀ p, (t.pump p).state = .starting → (s.pump p).state = .starting) (hs : ModesTrue s) :
    ModesTrue t where
  settling := by rw [hmode, hsettling]; exact hs.settling
  hand ht := by
    have hauto : s.automatic = false := by rw [← ht, State.automatic, State.automatic, hmode]
    obtain ⟨hp, hr⟩ := hs.hand hauto
    exact ⟨fun p => hpumps hauto p (hp p), fun r => hrakes hauto r (hr r)⟩
  starting p q hp hq := hs.starting p q (hstarting p hp) (hstarting q hq)

theorem DrivesKept.of_states (h : driveStates t = driveStates s) : DrivesKept s t where
  run := runOrderTrue_of_driveStates h
  modes := modesTrue_of_moves (congrArg DriveStates.mode h) (congrArg DriveStates.settling h)
    (fun _ p hp => (pumpState_of_driveStates h p).trans hp) (fun _ r hr => (rakeState_of_driveStates h r).trans hr)
    fun p hp => (pumpState_of_driveStates h p).symm.trans hp

theorem DrivesKept.then_states (h : DrivesKept s t) (hu : driveStates u = driveStates t) : DrivesKept s u :=
  h.trans (.of_states hu)

@[simp] theorem drivesKept_ite {c : Prop} [Decidable c] :
    DrivesKept s (if c then t else u) ↔ (c → DrivesKept s t) ∧ (¬c → DrivesKept s u) := by
  split <;> simp_all

theorem drivesKept_foldl {α : Type} {f : State → α → State} (hf : ∀ u a, DrivesKept u (f u a)) (as : List α)
    (s : State) : DrivesKept s (as.foldl f s) :=
  foldl_keeps (P := DrivesKept s) (fun u a hu => hu.trans (hf u a)) (.refl s) as

theorem drivesKept_eachPump {f : Pump → State → State} (hf : ∀ p u, DrivesKept u (f p u)) (s : State) :
    DrivesKept s (eachPump f s) := drivesKept_foldl (fun u p => hf p u) _ s

theorem drivesKept_eachSide {f : Side → State → State} (hf : ∀ r u, DrivesKept u (f r u)) (s : State) :
    DrivesKept s (eachSide f s) := drivesKept_foldl (fun u r => hf r u) _ s

theorem drivesKept_guarded {c : State → Bool} {f : State → State} (hf : ∀ u, DrivesKept u (f u)) (s : State) :
    DrivesKept s (guarded c f s) := by
  unfold guarded
  split
  · exact hf s
  · exact .refl s

/-! ### One pump moves -/

/-- The pump moves to `st`, and no other drive: it does not enter STARTING, it does not leave HAND outside AUTOMATIC,
and the run order follows it. -/
structure PumpMove (p : Pump) (st : PumpState) (s t : State) : Prop where
  state : (t.pump p).state = st
  others : ∀ q, q ≠ p → t.pump q = s.pump q
  rakes : ∀ r, t.rake r = s.rake r
  tables : t.tables = s.tables
  starting : st = .starting → (s.pump p).state = .starting
  hand : s.automatic = false → (s.pump p).state = .hand → st = .hand
  run : t.seq.run = if st = .running then s.seq.run ++ [p]
    else if (s.pump p).state = .running then s.seq.run.filter fun q => decide (q ≠ p) else s.seq.run
  enters : st = .running → (s.pump p).state ≠ .running

theorem PumpMove.runOrderTrue {st : PumpState} (h : PumpMove p st s t) (hs : RunOrderTrue s) : RunOrderTrue t := by
  obtain ⟨hnodup, hmem⟩ := hs
  have hother : ∀ q, q ≠ p → ((t.pump q).state = .running ↔ q ∈ s.seq.run) := fun q hq => by
    rw [h.others q hq, hmem]
  by_cases hst : st = .running
  · have hp : p ∉ s.seq.run := fun hp => h.enters hst ((hmem p).mp hp)
    have hrun : t.seq.run = s.seq.run ++ [p] := by rw [h.run, if_pos hst]
    refine ⟨?_, fun q => ?_⟩
    · rw [hrun, List.nodup_append]
      exact ⟨hnodup, List.nodup_singleton p, fun a ha b hb => by
        rw [List.mem_singleton.mp hb]; rintro rfl; exact hp ha⟩
    · rw [hrun, List.mem_append, List.mem_singleton]
      by_cases hq : q = p
      · subst hq; simp [h.state, hst]
      · simp [hq, hother q hq]
  · have hrun : t.seq.run = s.seq.run.filter fun q => decide (q ≠ p) := by
      rw [h.run, if_neg hst]
      split
      · rfl
      · next hp =>
        refine (List.filter_eq_self.mpr fun q hq => decide_eq_true ?_).symm
        rintro rfl
        exact hp ((hmem q).mp hq)
    refine ⟨hrun ▸ hnodup.filter _, fun q => ?_⟩
    rw [hrun, List.mem_filter, decide_eq_true_iff]
    by_cases hq : q = p
    · subst hq; simp [h.state, hst]
    · simp [hq, hother q hq]

theorem PumpMove.kept {st : PumpState} (h : PumpMove p st s t) : DrivesKept s t where
  run := h.runOrderTrue
  modes := by
    refine modesTrue_of_moves (by rw [h.tables]) (by rw [h.tables]) (fun hauto q hq => ?_)
      (fun _ r hr => by rw [h.rakes]; exact hr) fun q hq => ?_
    · by_cases hqp : q = p
      · subst hqp; exact h.state.trans (h.hand hauto hq)
      · rw [h.others q hqp]; exact hq
    · by_cases hqp : q = p
      · subst hqp; exact h.starting (h.state.symm.trans hq)
      · rw [← h.others q hqp]; exact hq

theorem ne_running_of_not_granted {st : PumpState} (h : st.granted = false) : st ≠ .running := by
  rintro rfl
  cases h

theorem ne_starting_of_not_granted {st : PumpState} (h : st.granted = false) : st ≠ .starting := by
  rintro rfl
  cases h

theorem tables_releaseDrive (p : Pump) (s : State) : (releaseDrive p s).tables = s.tables := by
  unfold releaseDrive
  split <;> rfl

theorem run_releaseDrive_eq (p : Pump) (s : State) : (releaseDrive p s).seq.run =
    if (s.pump p).state = .running then s.seq.run.filter fun q => decide (q ≠ p) else s.seq.run := by
  unfold releaseDrive
  split
  · next h => rw [if_neg (by simp [h])]; rfl
  · next h => rw [if_pos h]; rfl
  · next h => rw [if_neg h]

/-- A pump out of HAND that lets go of what it holds (R77, R95, R96) and takes a state without a grant. -/
theorem pumpMove_release {w : PumpRec} (hs : (s.pump p).state ≠ .hand) (hw : w.state.granted = false) :
    PumpMove p w.state s ((releaseDrive p s).setPump p w) where
  state := by rw [State.pump_setPump_same]
  others q hq := by rw [pump_setPump_other hq, pump_releaseDrive]
  rakes r := by rw [State.rake_setPump, rake_releaseDrive]
  tables := by rw [State.setPump_tables, tables_releaseDrive]
  starting h := absurd h (ne_starting_of_not_granted hw)
  hand _ h := absurd h hs
  run := by
    rw [if_neg (ne_running_of_not_granted hw)]
    exact run_releaseDrive_eq p s
  enters h := absurd h (ne_running_of_not_granted hw)

/-- A pump that is not RUNNING takes a state without a grant. -/
theorem pumpMove_setPump {w : PumpRec} (hs : (s.pump p).state ≠ .running) (hw : w.state.granted = false)
    (hhand : s.automatic = false → (s.pump p).state = .hand → w.state = .hand) :
    PumpMove p w.state s (s.setPump p w) where
  state := by rw [State.pump_setPump_same]
  others q hq := pump_setPump_other hq w s
  rakes _ := rfl
  tables := rfl
  starting h := absurd h (ne_starting_of_not_granted hw)
  hand := hhand
  run := by
    rw [if_neg (ne_running_of_not_granted hw), if_neg hs]
    rfl
  enters h := absurd h (ne_running_of_not_granted hw)

/-- A pump enters RUNNING at the tail of the run order (R92, R89). -/
theorem pumpMove_join {w : PumpRec} (hw : w.state = .running) (hs : (s.pump p).state ≠ .running)
    (hhand : (s.pump p).state = .hand → s.automatic = true) :
    PumpMove p .running s (joinRunOrder p (s.setPump p w)) where
  state := by rw [pump_joinRunOrder, State.pump_setPump_same, hw]
  others q hq := pump_setPump_other hq w s
  rakes _ := rfl
  tables := rfl
  starting h := by cases h
  hand hauto h := by rw [hhand h] at hauto; cases hauto
  run := by rw [if_pos rfl]; rfl
  enters _ := hs

/-! ### One rake moves -/

/-- A rake's record replaced by one that does not leave HAND outside AUTOMATIC. -/
theorem drivesKept_setRake {w : RakeRec} (h : s.automatic = false → (s.rake r).state = .hand → w.state = .hand) :
    DrivesKept s (s.setRake r w) where
  run := id
  modes := by
    refine modesTrue_of_moves rfl rfl (fun _ _ hp => hp) (fun hauto y hy => ?_) fun _ hp => hp
    rw [State.rake_setRake]
    split
    · subst y; exact h hauto hy
    · exact hy

end Sys2Proof.Proofs
end

section
/-! SUPPORT. The moves of the pumps keep the laws of the drives (R77, R86, R96), operation by operation. -/

namespace Sys2Proof.Proofs

open Sys2Proof.Machine Sys2Proof.Safety Sys2Proof.Laws

variable {s t u : State} {p q : Pump} {r : Side}

/-! ### What leaves the drives' states -/

@[simp] theorem driveStates_stateCondition (n : Nat) (b : Bool) (s : State) :
    driveStates (stateCondition n b s) = driveStates s := driveStates_of_outsideAlarms (by simp)

@[simp] theorem driveStates_statePumpConditions (p : Pump) (s : State) :
    driveStates (statePumpConditions p s) = driveStates s := driveStates_of_outsideAlarms (by simp)

@[simp] theorem driveStates_stateRakeJammed (r : Side) (s : State) :
    driveStates (stateRakeJammed r s) = driveStates s := driveStates_of_outsideAlarms (by simp)

@[simp] theorem driveStates_postCommand (a : Actuator) (c : CommandCode) (g : Byte) (n : Option Nat) (s : State) :
    driveStates (postCommand a c g n s) = driveStates s :=
  driveStates_congr (by simp) (by simp) (by simp)

@[simp] theorem driveStates_withdraw (a : Actuator) (s : State) : driveStates (withdraw a s) = driveStates s := by
  refine driveStates_congr (by simp) ?_ ?_ <;> unfold withdraw settleFairness <;> split <;> rfl

@[simp] theorem driveStates_postPump (p : Pump) (c : CommandCode) (s : State) :
    driveStates (postPump p c s) = driveStates s :=
  (driveStates_postCommand ..).trans (driveStates_setPump rfl)

@[simp] theorem driveStates_postRake (r : Side) (c : CommandCode) (s : State) :
    driveStates (postRake r c s) = driveStates s :=
  (driveStates_postCommand ..).trans (driveStates_setRake rfl)

@[simp] theorem driveStates_postAnnunciate (m : AnnMode) (s : State) :
    driveStates (postAnnunciate m s) = driveStates s := by
  rw [postAnnunciate, driveStates_postCommand]
  rfl

@[simp] theorem driveStates_startStagger (s : State) : driveStates (startStagger s) = driveStates s := rfl

@[simp] theorem driveStates_startPowerReturn (s : State) : driveStates (startPowerReturn s) = driveStates s := rfl

@[simp] theorem driveStates_stopPowerReturn (s : State) : driveStates (stopPowerReturn s) = driveStates s := rfl

@[simp] theorem driveStates_toDutyTail (p : Pump) (s : State) : driveStates (toDutyTail p s) = driveStates s := rfl

@[simp] theorem driveStates_setPreempt (r : Side) (b : Bool) (s : State) :
    driveStates (setPreempt r b s) = driveStates s := rfl

@[simp] theorem driveStates_setSources (p : Pump) (x : Sources) (s : State) :
    driveStates (s.setSources p x) = driveStates s := driveStates_setPump rfl

@[simp] theorem driveStates_judgeLatch (p : Pump) (s : State) : driveStates (judgeLatch p s) = driveStates s := by
  unfold judgeLatch
  split
  · exact driveStates_setPump rfl
  · rfl

/-! ### Protection (R115 to R117) -/

theorem ne_hand_of_auto {st : PumpState} (h : st.mode = .auto) : st ≠ .hand := by
  rintro rfl
  cases h

theorem drivesKept_protectTo {st : PumpState} (hs : (s.pump p).state.mode = .auto) (hst : st.granted = false) :
    DrivesKept s (protectTo st p s) :=
  (pumpMove_release (ne_hand_of_auto hs) hst).kept.then_states (driveStates_postPump ..)

@[simp] theorem drivesKept_judgeMove (p : Pump) (s : State) : DrivesKept s (judgeMove p s) := by
  unfold judgeMove
  dsimp only
  split
  · exact .refl s
  · next hauto =>
    have hto : ∀ st : PumpState, st.granted = false → DrivesKept s (protectTo st p s) :=
      fun st => drivesKept_protectTo (not_not.mp hauto)
    split_ifs
    exacts [hto _ rfl, .refl s, hto _ rfl, .refl s, hto _ rfl, .refl s]

@[simp] theorem drivesKept_tripInhibited (p : Pump) (s : State) : DrivesKept s (tripInhibited p s) := by
  unfold tripInhibited
  split
  · next h => exact drivesKept_protectTo (by rw [h.2]; rfl) rfl
  · exact .refl s

/-- A pump is judged after a change of its record that leaves its state (R115). -/
theorem drivesKept_judged (h : driveStates t = driveStates s) (p : Pump) : DrivesKept s (judgePump p t) :=
  (DrivesKept.of_states (by simp [h])).trans (drivesKept_judgeMove p _)

theorem drivesKept_judged_setPump {w : PumpRec} (h : w.state = (s.pump p).state) :
    DrivesKept s (judgePump p (s.setPump p w)) := drivesKept_judged (driveStates_setPump h) p

@[simp] theorem drivesKept_judgePump (p : Pump) (s : State) : DrivesKept s (judgePump p s) := drivesKept_judged rfl p

/-! ### Running and stopping (R91 to R93, R82) -/

theorem drivesKept_enterRunning (h : (s.pump p).state = .starting) : DrivesKept s (enterRunning p s) :=
  (pumpMove_join rfl (by simp [h]) (by simp [h])).kept.then_states (driveStates_startStagger _)

theorem drivesKept_pumpStopped (h : (s.pump p).state = .stopping) : DrivesKept s (pumpStopped p s) :=
  ((pumpMove_setPump (by simp [h]) rfl (by simp [h])).kept.then_states (driveStates_toDutyTail ..)).trans
    (drivesKept_tripInhibited p _)

theorem drivesKept_enterStopping (h : (s.pump p).state.mode = .auto) : DrivesKept s (enterStopping p s) := by
  have hstopping := fun w : PumpRec => (pumpMove_release (p := p) (s := s) (w := w) (ne_hand_of_auto h))
  unfold enterStopping
  dsimp only
  split
  · exact (hstopping _ rfl).kept.then_states (driveStates_postPump ..)
  · refine ((hstopping _ rfl).kept.then_states (driveStates_postPump ..)).trans (drivesKept_pumpStopped ?_)
    rw [pump_postPump, if_pos rfl, State.pump_setPump_same]

theorem auto_of_granted {st : PumpState} (h : st.granted = true) : st.mode = .auto := by
  cases st <;> simp_all [PumpState.granted, PumpState.mode]

@[simp] theorem drivesKept_shedPump (p : Pump) (s : State) : DrivesKept s (shedPump p s) := by
  unfold shedPump
  split
  · next h => exact drivesKept_enterStopping (auto_of_granted h)
  · exact .refl s

@[simp] theorem drivesKept_pumpSupplyLost (p : Pump) (s : State) : DrivesKept s (pumpSupplyLost p s) := by
  have hidle : (s.pump p).state ≠ .hand → ∀ w : PumpRec, w.state = .idle →
      DrivesKept s (tripInhibited p (postPump p .stop ((releaseDrive p s).setPump p w))) := fun h w hw =>
    ((pumpMove_release h (by rw [hw]; rfl)).kept.then_states (driveStates_postPump ..)).trans
      (drivesKept_tripInhibited p _)
  unfold pumpSupplyLost
  split
  · next h => exact hidle (by simp [h]) _ rfl
  · next h => exact hidle (by simp [h]) _ rfl
  · next h => exact hidle (by simp [h]) _ rfl
  · exact .refl s

/-! ### Modes (R86, R88, R89) -/

theorem drivesKept_pumpLeavesAuto {st : PumpState} (hs : (s.pump p).state.mode = .auto) (hst : st.granted = false) :
    DrivesKept s (pumpLeavesAuto p st s) :=
  (pumpMove_release (ne_hand_of_auto hs) hst).kept.then_states (driveStates_withdraw ..)

theorem automatic_of_targetMode {m : Mode} (h : s.targetMode p = m) (hm : m ≠ .hand) : s.automatic = true := by
  subst h
  by_contra hauto
  exact hm (by rw [State.targetMode, Bool.eq_false_iff.mpr hauto]; rfl)

theorem ne_running_of_mode {st : PumpState} (h : st.mode ≠ .auto) : st ≠ .running := by
  rintro rfl
  exact h rfl

theorem drivesKept_placePump (hs : (s.pump p).state.mode ≠ .auto) (hauto : s.automatic = true) :
    DrivesKept s (placePump p s) := by
  have hset : ∀ w : PumpRec, w.state.granted = false → DrivesKept s (s.setPump p w) := fun w hw =>
    (pumpMove_setPump (ne_running_of_mode hs) hw (by simp [hauto])).kept
  unfold placePump
  dsimp only
  split_ifs
  · exact (hset _ rfl).then_states (driveStates_postPump ..)
  · exact (pumpMove_join rfl (ne_running_of_mode hs) fun _ => hauto).kept.then_states (driveStates_postPump ..)
  · exact (hset _ rfl).then_states (driveStates_postPump ..)

@[simp] theorem drivesKept_judgePumpMode (p : Pump) (s : State) : DrivesKept s (judgePumpMode p s) := by
  unfold judgePumpMode
  dsimp only
  split
  · next hmode _ => exact drivesKept_pumpLeavesAuto hmode rfl
  · next hmode _ => exact (drivesKept_pumpLeavesAuto hmode rfl).then_states (driveStates_postPump ..)
  · next hmode htarget =>
    refine (PumpMove.kept (pumpMove_setPump (ne_running_of_mode (by simp [hmode])) rfl fun hauto => ?_)).then_states
      (driveStates_postPump ..)
    rw [automatic_of_targetMode htarget (by decide)] at hauto
    cases hauto
  · next hmode _ =>
    exact (PumpMove.kept (pumpMove_setPump (ne_running_of_mode (by simp [hmode])) rfl fun _ _ => rfl)).then_states
      (driveStates_withdraw ..)
  · next hmode htarget =>
    exact drivesKept_placePump (by simp [hmode]) (automatic_of_targetMode htarget (by decide))
  · next hmode htarget =>
    exact drivesKept_placePump (by simp [hmode]) (automatic_of_targetMode htarget (by decide))
  all_goals exact .refl s

@[simp] theorem drivesKept_judgeSelector (p : Pump) (s : State) : DrivesKept s (judgeSelector p s) := by
  refine DrivesKept.trans (.of_states ?_) (drivesKept_judgePumpMode p _)
  exact driveStates_setPump rfl

/-! ### Sources and confirm timers (R110 to R114) -/

@[simp] theorem drivesKept_judgeFault (p : Pump) (f : FaultSource) (s : State) : DrivesKept s (judgeFault p f s) := by
  unfold judgeFault
  dsimp only
  split_ifs
  · exact .refl s
  · exact drivesKept_judged (driveStates_setSources ..) p
  · exact .of_states (by simp)

@[simp] theorem drivesKept_judgeFaults (p : Pump) (s : State) : DrivesKept s (judgeFaults p s) :=
  ((drivesKept_judgeFault p .f1 s).trans (drivesKept_judgeFault p .f2 _)).trans (drivesKept_judgeFault p .f3 _)

@[simp] theorem drivesKept_judgeOvercurrent (p : Pump) (s : State) : DrivesKept s (judgeOvercurrent p s) := by
  unfold judgeOvercurrent
  dsimp only
  split_ifs
  · exact .refl s
  · exact .of_states (driveStates_setPump rfl)
  · exact .of_states ((driveStates_statePumpConditions ..).trans (driveStates_setPump rfl))

@[simp] theorem drivesKept_overcurrentReached (p : Pump) (s : State) : DrivesKept s (overcurrentReached p s) := by
  have hset : DrivesKept s (setOvercurrent p s) := .of_states (driveStates_setPump rfl)
  unfold overcurrentReached
  split
  · exact hset
  · exact hset.trans (drivesKept_judgePump p _)

@[simp] theorem drivesKept_startConfirmExpired (p : Pump) (s : State) : DrivesKept s (startConfirmExpired p s) := by
  unfold startConfirmExpired
  dsimp only
  split
  · exact drivesKept_judged_setPump rfl
  · exact .refl s

@[simp] theorem drivesKept_stopConfirmExpired (p : Pump) (s : State) : DrivesKept s (stopConfirmExpired p s) := by
  unfold stopConfirmExpired
  dsimp only
  split
  · exact drivesKept_judged_setPump rfl
  · exact .refl s

@[simp] theorem drivesKept_pumpCommandLost (p : Pump) (s : State) : DrivesKept s (pumpCommandLost p s) := by
  unfold pumpCommandLost
  dsimp only
  split
  · exact drivesKept_judged (driveStates_setSources ..) p
  · exact .refl s

@[simp] theorem drivesKept_pumpCommandTaken (p : Pump) (c : CommandCode) (s : State) :
    DrivesKept s (pumpCommandTaken p c s) :=
  .of_states ((driveStates_statePumpConditions ..).trans (driveStates_setPump rfl))

/-! ### Run feedback (R92 to R94, R114) -/

@[simp] theorem drivesKept_feedbackFell (p : Pump) (was : Bool) (s : State) : DrivesKept s (feedbackFell p was s) := by
  unfold feedbackFell
  split
  · exact .of_states (driveStates_setPump rfl)
  · exact .refl s

@[simp] theorem drivesKept_feedbackMoves (p : Pump) (s : State) : DrivesKept s (feedbackMoves p s) := by
  unfold feedbackMoves
  split
  · next h => simp [drivesKept_enterRunning h]
  · next h => simp [drivesKept_pumpStopped h]
  · exact .refl s

@[simp] theorem drivesKept_feedbackReturned (p : Pump) (was : Bool) (s : State) :
    DrivesKept s (feedbackReturned p was s) := by simp [feedbackReturned]

@[simp] theorem drivesKept_feedbackChanged (p : Pump) (was : Bool) (s : State) :
    DrivesKept s (feedbackChanged p was s) :=
  ((drivesKept_feedbackFell p was s).trans (drivesKept_feedbackMoves p _)).trans (drivesKept_feedbackReturned p was _)

/-! ### Leaving HELD and TRIPPED (R118, R119), and the balance update (R112) -/

theorem drivesKept_releasePump (h : (s.pump p).state = .held ∨ (s.pump p).state = .tripped) :
    DrivesKept s (releasePump p s) := by
  have hset : ∀ w : PumpRec, w.state.granted = false → DrivesKept s (s.setPump p w) := fun w hw =>
    (pumpMove_setPump (by rcases h with h | h <;> simp [h]) hw (by rcases h with h | h <;> simp [h])).kept
  unfold releasePump
  dsimp only
  split_ifs
  · exact hset _ rfl
  · exact hset _ rfl
  · exact hset _ rfl

@[simp] theorem drivesKept_protectPump (p : Pump) (s : State) : DrivesKept s (protectPump p s) := by
  unfold protectPump
  dsimp only
  split
  · split
    · next h =>
      refine DrivesKept.trans ?_ (drivesKept_releasePump (.inl h.1))
      exact drivesKept_judged_setPump rfl
    · exact drivesKept_judged_setPump rfl
  · exact .refl s

@[simp] theorem drivesKept_clearLatch (p : Pump) (s : State) : DrivesKept s (clearLatch p s) := by
  unfold clearLatch
  dsimp only
  have hcleared : ∀ w : PumpRec, w.state = (s.pump p).state →
      DrivesKept s (statePumpConditions p (s.setPump p w)) := fun w hw =>
    .of_states ((driveStates_statePumpConditions p _).trans (driveStates_setPump hw))
  split
  · next h =>
    split
    · refine DrivesKept.trans (hcleared _ ?_) (PumpMove.kept (pumpMove_setPump ?_ rfl ?_))
      · rfl
      · rw [h]; decide
      · rw [h]; intro _ hh; cases hh
    · refine DrivesKept.trans (hcleared _ ?_) (drivesKept_releasePump (.inr h))
      rfl
  · exact hcleared _ rfl

@[simp] theorem drivesKept_resetPump (p : Pump) (s : State) : DrivesKept s (resetPump p s).2 := by
  unfold resetPump
  dsimp only
  split_ifs
  · exact .refl s
  · exact drivesKept_clearLatch p s
  · exact .of_states (driveStates_postPump ..)
  · exact .refl s

end Sys2Proof.Proofs
end

section
/-! SUPPORT. The moves of the rakes and of the supply keep the laws of the drives (R86, R96, R125), operation by
operation. -/

namespace Sys2Proof.Proofs

open Sys2Proof.Machine Sys2Proof.Safety Sys2Proof.Laws

variable {s t u : State} {p q : Pump} {r : Side}

/-! ### Requests and modes (R125 to R127) -/

theorem drivesKept_setRake_of_ne {w : RakeRec} (h : (s.rake r).state ≠ .hand) : DrivesKept s (s.setRake r w) :=
  drivesKept_setRake fun _ hhand => absurd hhand h

@[simp] theorem driveStates_judgeJamTimer (r : Side) (s : State) : driveStates (judgeJamTimer r s) = driveStates s := by
  unfold judgeJamTimer
  dsimp only
  split_ifs
  · rfl
  · exact driveStates_setRake rfl
  · exact driveStates_setRake rfl
  · rfl

@[simp] theorem drivesKept_giveRequest (r : Side) (s : State) : DrivesKept s (giveRequest r s) := by
  unfold giveRequest
  split
  · next h => exact drivesKept_setRake_of_ne (by simp [h.2])
  · exact .refl s

@[simp] theorem drivesKept_judgeRequest (r : Side) (s : State) : DrivesKept s (judgeRequest r s) := by
  simp [judgeRequest]

theorem automatic_of_rakeTargetMode {m : Mode} (h : s.rakeTargetMode r = m) (hm : m ≠ .hand) : s.automatic = true := by
  subst h
  by_contra hauto
  exact hm (by rw [State.rakeTargetMode, Bool.eq_false_iff.mpr hauto]; rfl)

theorem rake_ne_hand_of_auto {st : RakeState} (h : st.mode = .auto) : st ≠ .hand := by
  rintro rfl
  cases h

theorem drivesKept_rakeLeavesAuto {st : RakeState} (h : (s.rake r).state.mode = .auto) :
    DrivesKept s (rakeLeavesAuto r st s) :=
  (drivesKept_setRake_of_ne (rake_ne_hand_of_auto h)).then_states (driveStates_withdraw ..)

theorem drivesKept_placeRake (hauto : s.automatic = true) : DrivesKept s (placeRake r s) := by
  have hset : ∀ w : RakeRec, DrivesKept s (postRake r .stop (s.setRake r w)) := fun w =>
    (drivesKept_setRake (by simp [hauto])).then_states (driveStates_postRake ..)
  unfold placeRake
  split
  · exact hset _
  · exact (hset _).trans (drivesKept_judgeRequest r _)

@[simp] theorem drivesKept_judgeRakeMode (r : Side) (s : State) : DrivesKept s (judgeRakeMode r s) := by
  unfold judgeRakeMode
  dsimp only
  split
  · next hmode _ => exact drivesKept_rakeLeavesAuto hmode
  · next hmode _ => exact (drivesKept_rakeLeavesAuto hmode).then_states (driveStates_postRake ..)
  · next _ htarget =>
    refine (drivesKept_setRake fun hauto => ?_).then_states (driveStates_postRake ..)
    rw [automatic_of_rakeTargetMode htarget (by decide)] at hauto
    cases hauto
  · exact (drivesKept_setRake fun _ _ => rfl).then_states (driveStates_withdraw ..)
  · next _ htarget => exact drivesKept_placeRake (automatic_of_rakeTargetMode htarget (by decide))
  · next _ htarget => exact drivesKept_placeRake (automatic_of_rakeTargetMode htarget (by decide))
  all_goals exact .refl s

/-! ### The cycle (R128 to R132) -/

theorem drivesKept_grantRake (h : (s.rake r).state = .waitSlot) : DrivesKept s (grantRake r s) :=
  (drivesKept_setRake_of_ne (r := r) (by simp [h])).then_states
    (by rw [grantRake, driveStates_judgeJamTimer, driveStates_postRake, driveStates_setPreempt])

theorem drivesKept_completeCycle (h : (s.rake r).state = .raking) : DrivesKept s (completeCycle r s) :=
  ((drivesKept_setRake_of_ne (by simp [h])).then_states (driveStates_postRake ..)).trans (drivesKept_judgeRequest r _)

@[simp] theorem drivesKept_judgePark (r : Side) (s : State) : DrivesKept s (judgePark r s) := by
  unfold judgePark
  dsimp only
  split
  · next h =>
    split
    · exact .refl s
    · split_ifs
      exacts [drivesKept_setRake_of_ne (by simp [h]), drivesKept_completeCycle h, .refl s]
  · exact .refl s

theorem drivesKept_suspectJam (h : (s.rake r).state = .raking) (c : JamCause) : DrivesKept s (suspectJam r c s) :=
  (drivesKept_setRake_of_ne (by simp [h])).then_states (driveStates_postRake ..)

theorem drivesKept_enterJammed (h : (s.rake r).state.granted = true) (c : JamCause) :
    DrivesKept s (enterJammed r c s) := by
  refine (drivesKept_setRake_of_ne ?_).then_states ((driveStates_stateRakeJammed ..).trans (driveStates_postRake ..))
  intro hhand
  rw [hhand] at h
  cases h

@[simp] theorem drivesKept_travelExpired (r : Side) (s : State) : DrivesKept s (travelExpired r s) := by
  unfold travelExpired
  split
  · next h => exact drivesKept_suspectJam h.1 _
  · exact .refl s

@[simp] theorem drivesKept_jamCurrentReached (r : Side) (s : State) : DrivesKept s (jamCurrentReached r s) := by
  unfold jamCurrentReached
  split
  · next h => exact drivesKept_suspectJam h.1 _
  · exact .refl s

@[simp] theorem drivesKept_reverseExpired (r : Side) (s : State) : DrivesKept s (reverseExpired r s) := by
  unfold reverseExpired
  dsimp only
  split
  · next h =>
    split
    · exact (drivesKept_setRake_of_ne (by simp [h.1])).then_states
        ((driveStates_judgeJamTimer ..).trans (driveStates_postRake ..))
    · exact drivesKept_enterJammed (by simp [h.1, RakeState.granted]) _
  · exact .refl s

@[simp] theorem drivesKept_shedRake (r : Side) (s : State) : DrivesKept s (shedRake r s) := by
  unfold shedRake
  split
  · next h =>
    refine (drivesKept_setRake_of_ne ?_).then_states (driveStates_postRake ..)
    intro hhand
    rw [hhand] at h
    cases h
  · exact .refl s

@[simp] theorem drivesKept_rakeCommandTaken (r : Side) (c : CommandCode) (s : State) :
    DrivesKept s (rakeCommandTaken r c s) := .of_states (driveStates_setRake rfl)

@[simp] theorem drivesKept_rakeCommandLost (r : Side) (s : State) : DrivesKept s (rakeCommandLost r s) := by
  unfold rakeCommandLost
  split
  · next h => exact drivesKept_enterJammed h _
  · exact .of_states (driveStates_setRake rfl)

@[simp] theorem drivesKept_resetRake (r : Side) (s : State) : DrivesKept s (resetRake r s) := by
  have hclear : DrivesKept s (clearJam r s) := by
    unfold clearJam
    split
    · next h =>
      exact ((drivesKept_setRake_of_ne (by simp [h])).then_states (driveStates_stateRakeJammed ..)).trans
        (drivesKept_judgeRequest r _)
    · exact .of_states ((driveStates_stateRakeJammed ..).trans (driveStates_setRake rfl))
  simp [resetRake, hclear]

@[simp] theorem drivesKept_countInterval (r : Side) (s : State) : DrivesKept s (countInterval r s) := by
  have hset : ∀ n, driveStates (s.setRake r { s.rake r with interval := n }) = driveStates s :=
    fun n => driveStates_setRake rfl
  unfold countInterval
  dsimp only
  split
  · exact .refl s
  · split_ifs
    · exact (DrivesKept.of_states (hset 0)).trans (drivesKept_giveRequest r _)
    · exact .of_states (hset _)
    · exact .refl s

@[simp] theorem driveStates_setScreen (r : Side) (v : ScreenRec) (s : State) :
    driveStates (s.setScreen r v) = driveStates s := rfl

@[simp] theorem drivesKept_judgeScreen (r : Side) (s : State) : DrivesKept s (judgeScreen r s) := by
  unfold judgeScreen
  dsimp only
  split
  · exact .refl s
  · refine (DrivesKept.trans (.of_states ?_) (drivesKept_countInterval r _)).trans (drivesKept_judgeRequest r _)
    rw [driveStates_stateCondition, driveStates_setScreen]

/-! ### The supply (R74, R75, R82, R83) -/

@[simp] theorem drivesKept_supplyLost (s : State) : DrivesKept s (supplyLost s) :=
  ((drivesKept_eachPump drivesKept_pumpSupplyLost s).trans (drivesKept_eachSide drivesKept_shedRake _)).then_states
    (driveStates_stopPowerReturn _)

@[simp] theorem drivesKept_judgeSupply (s : State) : DrivesKept s (judgeSupply s) := by
  have hstate : ∀ x, DrivesKept s (stateSupply { s with arbiter := x }) := fun x =>
    .of_states ((driveStates_stateCondition ..).trans (driveStates_stateCondition ..))
  unfold judgeSupply
  dsimp only
  split_ifs
  · exact .refl s
  · exact (hstate _).trans (drivesKept_supplyLost _)
  · exact (hstate _).then_states (driveStates_startPowerReturn _)
  · exact hstate _

/-! ### Shedding (R80) -/

@[simp] theorem drivesKept_shedDrive (d : Drive) (s : State) : DrivesKept s (shedDrive d s) := by
  cases d with
  | pump p => exact drivesKept_shedPump p s
  | rake r => exact drivesKept_shedRake r s

@[simp] theorem drivesKept_shedCheck (s : State) : DrivesKept s (shedCheck s) :=
  drivesKept_foldl (fun u d => by simp) _ s

@[simp] theorem drivesKept_preempt (r : Side) (s : State) : DrivesKept s (preempt r s) := by
  unfold preempt
  split
  · split
    · exact .refl s
    · exact (drivesKept_shedPump _ s).then_states (driveStates_setPreempt ..)
  · exact .refl s

end Sys2Proof.Proofs
end

section
/-! PROOF. What a shedding check leaves: the law of the slot record, urgent rakes last (R75, R76, R80). -/

namespace Sys2Proof.Proofs

open Sys2Proof.Machine Sys2Proof.Safety Sys2Proof.Laws

variable {s t u : State} {p q : Pump} {r : Side} {d : Drive}

/-! ### Grants (R76) -/

/-- A drive holds a grant (R76). -/
def holdsGrant (s : State) : Drive → Bool
  | .pump p => (s.pump p).state.granted
  | .rake r => (s.rake r).state.granted

theorem mem_pumps (p : Pump) : p ∈ pumps := by cases p <;> simp [pumps]

theorem mem_sides (r : Side) : r ∈ sides := by cases r <;> simp [sides]

theorem grants_eq_zero_iff : s.grants = 0 ↔ ∀ d, holdsGrant s d = false := by
  rw [State.grants, State.grantedPumps, State.grantedRakes, Nat.add_eq_zero_iff, List.length_eq_zero_iff,
    List.length_eq_zero_iff, List.filter_eq_nil_iff, List.filter_eq_nil_iff]
  constructor
  · rintro ⟨hpumps, hrakes⟩ (p | r)
    · exact Bool.eq_false_iff.mpr (hpumps p (mem_pumps p))
    · exact Bool.eq_false_iff.mpr (hrakes r (mem_sides r))
  · exact fun h => ⟨fun p _ => Bool.eq_false_iff.mp (h (.pump p)), fun r _ => Bool.eq_false_iff.mp (h (.rake r))⟩

/-- The shedding check sees the law of the slot record broken, or it is kept (R76, R80). -/
theorem slotLaw_iff : SlotLaw s ↔ s.overOccupied = false := by
  rw [SlotLaw, State.overOccupied, Bool.and_eq_false_iff, decide_eq_false_iff_not, decide_eq_false_iff_not]
  omega

/-! ### Grants fall (R80) -/

/-- Grants are only taken away, a drive that keeps its grant is left as it was, and nothing outside the grants
changes. -/
structure GrantsFall (s t : State) : Prop where
  pumps : ∀ p, (t.pump p).state.granted = true → t.pump p = s.pump p
  rakes : ∀ r, (t.rake r).state.granted = true → t.rake r = s.rake r
  frame : outsideGrants t = outsideGrants s

theorem GrantsFall.refl (s : State) : GrantsFall s s := ⟨fun _ _ => rfl, fun _ _ => rfl, rfl⟩

theorem GrantsFall.trans (h : GrantsFall s t) (h' : GrantsFall t u) : GrantsFall s u where
  pumps p hp := (h'.pumps p hp).trans (h.pumps p (h'.pumps p hp ▸ hp))
  rakes r hr := (h'.rakes r hr).trans (h.rakes r (h'.rakes r hr ▸ hr))
  frame := h'.frame.trans h.frame

theorem GrantsFall.held_before (h : GrantsFall s t) (ht : holdsGrant t d = true) : holdsGrant s d = true := by
  cases d with
  | pump p => rwa [holdsGrant, h.pumps p ht] at ht
  | rake r => rwa [holdsGrant, h.rakes r ht] at ht

theorem GrantsFall.stays_off (h : GrantsFall s t) (hs : holdsGrant s d = false) : holdsGrant t d = false :=
  Bool.eq_false_iff.mpr fun ht => Bool.eq_false_iff.mp hs (h.held_before ht)

theorem not_granted_of_stopped {st : PumpState} (h : stopped st) : st.granted = false := by
  rcases h with rfl | rfl | rfl <;> rfl

theorem not_granted_shedPump (p : Pump) (s : State) : ((shedPump p s).pump p).state.granted = false := by
  unfold shedPump
  split
  · exact not_granted_of_stopped (stopped_enterStopping p s)
  · next h => exact Bool.eq_false_iff.mpr h

theorem not_granted_shedRake (r : Side) (s : State) : ((shedRake r s).rake r).state.granted = false := by
  unfold shedRake
  split
  · rw [rake_postRake, if_pos rfl, State.rake_setRake_same]
    rfl
  · next h => exact Bool.eq_false_iff.mpr h

theorem pump_shedPump_other (h : q ≠ p) (s : State) : (shedPump p s).pump q = s.pump q := by
  unfold shedPump
  split
  · exact pump_enterStopping_other h s
  · rfl

theorem rake_shedPump (p : Pump) (s : State) (r : Side) : (shedPump p s).rake r = s.rake r := by
  unfold shedPump
  split
  · exact rake_enterStopping p s r
  · rfl

theorem not_holdsGrant_shedDrive (d : Drive) (s : State) : holdsGrant (shedDrive d s) d = false := by
  cases d with
  | pump p => exact not_granted_shedPump p s
  | rake r => exact not_granted_shedRake r s

theorem grantsFall_shedPump (p : Pump) (s : State) : GrantsFall s (shedPump p s) where
  pumps q hq := by
    by_cases hqp : q = p
    · subst hqp
      rw [not_granted_shedPump] at hq
      cases hq
    · exact pump_shedPump_other hqp s
  rakes r _ := rake_shedPump p s r
  frame := outsideGrants_shedPump p s

theorem grantsFall_shedRake (r : Side) (s : State) : GrantsFall s (shedRake r s) where
  pumps q _ := pump_shedRake r s q
  rakes y hy := by
    by_cases hyr : y = r
    · subst hyr
      rw [not_granted_shedRake] at hy
      cases hy
    · exact rake_shedRake_other hyr s
  frame := outsideGrants_shedRake r s

theorem grantsFall_shedDrive (d : Drive) (s : State) : GrantsFall s (shedDrive d s) := by
  cases d with
  | pump p => exact grantsFall_shedPump p s
  | rake r => exact grantsFall_shedRake r s

/-! ### Drives shed in turn while the law is broken (R80) -/

/-- The drives of a list shed in turn while the law of the slot record is broken. -/
def shedWhile (l : List Drive) (s : State) : State :=
  l.foldl (fun u d => if u.overOccupied then shedDrive d u else u) s

theorem shedWhile_eq (h : s.overOccupied = false) (l : List Drive) : shedWhile l s = s :=
  foldl_fixed (fun d => by rw [h]; rfl) l

theorem grantsFall_shedWhile (l : List Drive) (s : State) : GrantsFall s (shedWhile l s) :=
  foldl_keeps (P := GrantsFall s) (fun u d hu => by
    split
    · exact hu.trans (grantsFall_shedDrive d u)
    · exact hu) (.refl s) l

/-- The law is restored on the way, or every drive of the list is shed. -/
theorem shedWhile_restores (l : List Drive) (s : State) :
    (shedWhile l s).overOccupied = false ∨ ∀ d ∈ l, holdsGrant (shedWhile l s) d = false := by
  induction l generalizing s with
  | nil => exact .inr fun _ hd => absurd hd List.not_mem_nil
  | cons d l ih =>
    cases h : s.overOccupied
    · exact .inl (by rw [shedWhile_eq h, h])
    · have hstep : shedWhile (d :: l) s = shedWhile l (shedDrive d s) := by
        rw [shedWhile, List.foldl_cons, h, if_pos rfl, shedWhile]
      rw [hstep]
      refine (ih (shedDrive d s)).imp_right fun hall e he => ?_
      rcases List.mem_cons.mp he with rfl | he
      · exact (grantsFall_shedWhile l _).stays_off (not_holdsGrant_shedDrive e s)
      · exact hall e he

/-- A rake that the list does not name is left. -/
theorem rake_shedWhile {l : List Drive} (h : .rake r ∉ l) (s : State) : (shedWhile l s).rake r = s.rake r := by
  induction l generalizing s with
  | nil => rfl
  | cons d l ih =>
    obtain ⟨hd, hl⟩ := not_or.mp (mt List.mem_cons.mpr h)
    refine (ih hl _).trans ?_
    dsimp only
    split
    · cases d with
      | pump p => exact rake_shedPump p s r
      | rake y => exact rake_shedRake_other (fun hry => hd (by rw [hry])) s
    · rfl

/-! ### The order of shedding (R80) -/

/-- Every grant but those of urgent rakes: what is shed first. -/
def shedFirst (s : State) : List Drive :=
  (([Side.b, Side.a].filter fun r => (s.rake r).state.granted).filter fun r => !s.urgent r).map .rake ++
    (pumps.filter fun p => decide ((s.pump p).state = .starting)).map .pump ++ s.seq.run.reverse.map .pump

/-- The urgent rakes with a grant: what is shed last. -/
def shedLast (s : State) : List Drive :=
  (([Side.b, Side.a].filter fun r => (s.rake r).state.granted).filter s.urgent).map .rake

theorem shedCheck_eq_shedWhile (s : State) : shedCheck s = shedWhile (shedLast s) (shedWhile (shedFirst s) s) := by
  rw [shedWhile, shedWhile, ← List.foldl_append]
  rfl

theorem granted_iff {st : PumpState} : st.granted = true ↔ st = .starting ∨ st = .running := by
  cases st <;> simp [PumpState.granted]

theorem pump_mem_shedFirst (hrun : RunOrderTrue s) (h : (s.pump p).state.granted = true) : .pump p ∈ shedFirst s := by
  rw [shedFirst, List.mem_append, List.mem_append]
  rcases granted_iff.mp h with h | h
  · exact .inl (.inr (List.mem_map_of_mem (List.mem_filter.mpr ⟨mem_pumps p, decide_eq_true h⟩)))
  · exact .inr (List.mem_map_of_mem (List.mem_reverse.mpr ((hrun.2 p).mpr h)))

theorem mem_grantedRakes (h : (s.rake r).state.granted = true) :
    r ∈ [Side.b, Side.a].filter fun y => (s.rake y).state.granted :=
  List.mem_filter.mpr ⟨by cases r <;> simp, h⟩

theorem rake_mem_shedFirst_iff (h : (s.rake r).state.granted = true) :
    .rake r ∈ shedFirst s ↔ s.urgent r = false := by
  have hside : r = .b ∨ r = .a := by cases r <;> simp
  simp [shedFirst, h, hside]

theorem rake_mem_shedLast (h : (s.rake r).state.granted = true) (hurgent : s.urgent r = true) :
    .rake r ∈ shedLast s := List.mem_map_of_mem (List.mem_filter.mpr ⟨mem_grantedRakes h, hurgent⟩)

/-! ### The shedding check (R75, R76, R80) -/

theorem grantsFall_shedCheck (s : State) : GrantsFall s (shedCheck s) := grantsFall_shedWhile _ s

theorem slotLaw_shedCheck (hrun : RunOrderTrue s) : SlotLaw (shedCheck s) := by
  have hfall := grantsFall_shedCheck s
  rw [slotLaw_iff]
  refine (shedWhile_restores s.shedOrder s).elim id fun hall => ?_
  refine slotLaw_iff.mp (.inl (grants_eq_zero_iff.mpr fun d => ?_))
  cases hd : holdsGrant s d
  · exact hfall.stays_off hd
  · refine hall d (List.mem_append.mpr ?_)
    cases d with
    | pump p => exact .inl (pump_mem_shedFirst hrun hd)
    | rake r =>
      cases hurgent : s.urgent r
      · exact .inl ((rake_mem_shedFirst_iff hd).mpr hurgent)
      · exact .inr (rake_mem_shedLast hd hurgent)

/-- An urgent rake loses its grant only after every grant but those of urgent rakes. -/
theorem urgent_shed_last (hrun : RunOrderTrue s) (hs : (s.rake r).state.granted = true) (hurgent : s.urgent r = true)
    (ht : ((shedCheck s).rake r).state.granted = false) :
    (∀ p, ((shedCheck s).pump p).state.granted = false) ∧
      ∀ y, ((shedCheck s).rake y).state.granted = true → s.urgent y = true := by
  have hfirst := grantsFall_shedWhile (shedFirst s) s
  have hlast := grantsFall_shedWhile (shedLast s) (shedWhile (shedFirst s) s)
  have hnotFirst : .rake r ∉ shedFirst s := fun h => by
    rw [(rake_mem_shedFirst_iff hs).mp h] at hurgent
    cases hurgent
  rw [shedCheck_eq_shedWhile] at ht ⊢
  rcases shedWhile_restores (shedFirst s) s with hlaw | hall
  · rw [shedWhile_eq hlaw, rake_shedWhile hnotFirst, hs] at ht
    cases ht
  · refine ⟨fun p => ?_, fun y hy => ?_⟩
    · refine hlast.stays_off (d := .pump p) ?_
      cases hp : (s.pump p).state.granted
      · exact hfirst.stays_off (d := .pump p) hp
      · exact hall _ (pump_mem_shedFirst hrun hp)
    · have hmiddle := hlast.held_before (d := .rake y) hy
      have hstart := hfirst.held_before hmiddle
      cases hyurgent : s.urgent y
      · rw [hall _ ((rake_mem_shedFirst_iff hstart).mpr hyurgent)] at hmiddle
        cases hmiddle
      · rfl

theorem capacity_of_outsideGrants (h : outsideGrants t = outsideGrants s) : t.capacity = s.capacity := by
  refine capacity_congr ?_ ?_
  · rw [State.station, tables_of_outsideDrives (outsideDrives_of_outsideGrants h), State.station]
  · simpa [outsideGrants] using congrArg (fun u : State => u.arbiter.supply) h

/-- Settles O29: grants fall in the order of shedding until the law holds or none is left. -/
theorem sheddingRestoresTheSlotLaw : Obligations.SheddingRestoresTheSlotLaw := by
  intro s hrun
  have hfall := grantsFall_shedCheck s
  refine ⟨slotLaw_shedCheck hrun, (drivesKept_shedCheck s).run hrun, capacity_of_outsideGrants hfall.frame,
    fun hlaw => shedCheck_eq (slotLaw_iff.mp hlaw), hfall.pumps, hfall.rakes, fun r hs hurgent ht => ?_,
    outsideDrives_of_outsideGrants hfall.frame⟩
  obtain ⟨hpumps, hrakes⟩ := urgent_shed_last hrun hs hurgent ht
  exact ⟨List.filter_eq_nil_iff.mpr fun p _ => Bool.eq_false_iff.mp (hpumps p), hrakes⟩

end Sys2Proof.Proofs
end

section
/-! PROOF. A grant pass keeps the law of the slot record and the laws of the drives, and the drives settled meet them
(R76 to R81). -/

namespace Sys2Proof.Proofs

open Sys2Proof.Machine Sys2Proof.Safety Sys2Proof.Laws

variable {s t u : State} {p q : Pump} {r : Side} {d : Drive}

/-! ### What the slot record reads beside the grants (R76) -/

theorem tables_of_outsideGrants (h : outsideGrants t = outsideGrants s) : t.tables = s.tables :=
  tables_of_outsideDrives (outsideDrives_of_outsideGrants h)

theorem station_of_outsideGrants (h : outsideGrants t = outsideGrants s) : t.station = s.station := by
  rw [State.station, tables_of_outsideGrants h, State.station]

theorem feedbackActive_of_outsideGrants (h : outsideGrants t = outsideGrants s) (p : Pump) :
    t.feedbackActive p = s.feedbackActive p :=
  feedbackActive_congr (station_of_outsideGrants h) (points_of_outsideDrives (outsideDrives_of_outsideGrants h)) p

theorem usableValue_of_outsideGrants (h : outsideGrants t = outsideGrants s) (f : Roles → Option Nat) :
    t.usableValue f = s.usableValue f :=
  usableValue_congr (station_of_outsideGrants h) (points_of_outsideDrives (outsideDrives_of_outsideGrants h)) f

theorem automatic_of_outsideGrants (h : outsideGrants t = outsideGrants s) : t.automatic = s.automatic := by
  rw [State.automatic, tables_of_outsideGrants h, State.automatic]

/-- A drive that runs without a grant is loose (R76). -/
def running (s : State) : Drive → Bool
  | .pump p => s.feedbackActive p
  | .rake r => decide ((s.usableValue fun x => x.rakeCurrent.get r).getD 0 ≠ 0)

theorem running_of_outsideGrants (h : outsideGrants t = outsideGrants s) : running t = running s := by
  funext d
  cases d with
  | pump p => exact feedbackActive_of_outsideGrants h p
  | rake r => simp only [running, usableValue_of_outsideGrants h]

/-- All drives: the pumps, then the rakes. -/
def allDrives : List Drive := pumps.map .pump ++ sides.map .rake

theorem nodup_allDrives : allDrives.Nodup := by decide

/-- The drives that hold a slot, by a grant or by running without one (R76). -/
def occupies (s : State) (d : Drive) : Bool := holdsGrant s d || running s d

theorem occupancy_eq (s : State) : s.grants + s.loose = (allDrives.filter (occupies s)).length := by
  rw [grants_add_loose, allDrives, List.filter_append, List.length_append, List.filter_map, List.filter_map,
    List.length_map, List.length_map]
  rfl

theorem grants_eq (s : State) : s.grants = (allDrives.filter (holdsGrant s)).length := by
  rw [allDrives, List.filter_append, List.length_append, List.filter_map, List.filter_map, List.length_map,
    List.length_map]
  rfl

theorem length_filter_le_succ {α : Type} {f g : α → Bool} {l : List α} (hl : l.Nodup) (a : α)
    (h : ∀ b, b ≠ a → f b = true → g b = true) : (l.filter f).length ≤ (l.filter g).length + 1 := by
  have hsub : l.filter f ⊆ a :: l.filter g := fun b hb => by
    obtain ⟨hmem, hf⟩ := List.mem_filter.mp hb
    by_cases hba : b = a
    · exact hba ▸ List.mem_cons_self
    · exact List.mem_cons_of_mem a (List.mem_filter.mpr ⟨hmem, h b hba hf⟩)
  exact ((hl.filter f).subperm hsub).length_le

/-! ### One drive granted, or grants falling (R76) -/

theorem GrantsFall.slotLaw (h : GrantsFall s t) (hs : SlotLaw s) : SlotLaw t := by
  have hgrants : t.grants ≤ s.grants := by
    rw [grants_eq, grants_eq]
    exact length_filter_mono (fun d => h.held_before) _
  have hoccupied : t.grants + t.loose ≤ s.grants + s.loose := by
    rw [occupancy_eq, occupancy_eq]
    refine length_filter_mono (fun d hd => ?_) _
    rw [occupies, running_of_outsideGrants h.frame, Bool.or_eq_true] at hd
    exact Bool.or_eq_true_iff.mpr (hd.imp_left h.held_before)
  have hcapacity := capacity_of_outsideGrants h.frame
  unfold SlotLaw at *
  omega

/-- One drive is granted into a free slot. -/
theorem slotLaw_of_granted (hframe : outsideGrants t = outsideGrants s) (hfree : 0 < s.freeSlots)
    (hothers : ∀ e, e ≠ d → holdsGrant t e = true → holdsGrant s e = true) : SlotLaw t := by
  have hoccupied : t.grants + t.loose ≤ s.grants + s.loose + 1 := by
    rw [occupancy_eq, occupancy_eq]
    refine length_filter_le_succ nodup_allDrives d fun e he hocc => ?_
    rw [occupies, running_of_outsideGrants hframe, Bool.or_eq_true] at hocc
    exact Bool.or_eq_true_iff.mpr (hocc.imp_left (hothers e he))
  have hcapacity := capacity_of_outsideGrants hframe
  unfold State.freeSlots at hfree
  refine .inr ?_
  omega

theorem grantsFall_setPump {w : PumpRec} (hkept : keptByGrants w = keptByGrants (s.pump p))
    (hw : w.state.granted = false) : GrantsFall s (s.setPump p w) where
  pumps q hq := by
    by_cases hqp : q = p
    · subst hqp
      rw [State.pump_setPump_same, hw] at hq
      cases hq
    · exact pump_setPump_other hqp w s
  rakes _ _ := rfl
  frame := outsideGrants_setPump p w s hkept

/-! ### The steps of a grant pass (R79, R81) -/

theorem slotLaw_preempt (r : Side) (h : SlotLaw s) : SlotLaw (preempt r s) := by
  unfold preempt
  split
  · split
    · exact h
    · next p _ => exact (grantsFall_shedPump p s).slotLaw h
  · exact h

theorem slotLaw_grantIfFree (r : Side) (h : SlotLaw s) : SlotLaw (grantIfFree r s) := by
  unfold grantIfFree
  split
  · next hfree =>
    refine slotLaw_of_granted (d := .rake r) (outsideGrants_grantRake r s) hfree fun e he hheld => ?_
    cases e with
    | pump p => rwa [holdsGrant, pump_grantRake] at hheld
    | rake y => rwa [holdsGrant, rake_grantRake_other (by simpa using he)] at hheld
  · exact h

theorem slotLaw_grantUrgent (r : Side) (h : SlotLaw s) : SlotLaw (grantUrgent r s) := by
  unfold grantUrgent
  split
  · exact slotLaw_grantIfFree r (slotLaw_preempt r h)
  · exact h

theorem slotLaw_grantOther (r : Side) (h : SlotLaw s) : SlotLaw (grantOther r s) := by
  unfold grantOther
  split
  · exact slotLaw_grantIfFree r h
  · exact h

theorem slotLaw_grantCandidate (p : Pump) (h : SlotLaw s) : SlotLaw (grantCandidate p s) := by
  unfold grantCandidate
  split
  · next hc =>
    split
    · refine slotLaw_of_granted (d := .pump p) (outsideGrants_startPump p s) hc.2.2 fun e he hheld => ?_
      cases e with
      | pump q => rwa [holdsGrant, pump_startPump_other (by simpa using he)] at hheld
      | rake y => rwa [holdsGrant, rake_startPump] at hheld
    · refine GrantsFall.slotLaw (grantsFall_setPump ?_ ?_) h <;> rfl
  · exact h

theorem rake_waits_of_waiting {b : Bool} (h : s.waiting b r = true) : (s.rake r).state = .waitSlot := by
  by_contra hne
  rw [waiting_eq_false hne] at h
  cases h

theorem drivesKept_grantIfFree (h : (s.rake r).state = .waitSlot) : DrivesKept s (grantIfFree r s) := by
  simp [grantIfFree, drivesKept_grantRake h]

theorem rake_preempt (r y : Side) (s : State) : (preempt r s).rake y = s.rake y := by
  unfold preempt
  split
  · split
    · rfl
    · exact (rake_setPreempt ..).trans (rake_shedPump ..)
  · rfl

theorem drivesKept_grantUrgent (r : Side) (s : State) : DrivesKept s (grantUrgent r s) := by
  unfold grantUrgent
  split
  · next h =>
    exact (drivesKept_preempt r s).trans
      (drivesKept_grantIfFree (by rw [rake_preempt]; exact rake_waits_of_waiting h))
  · exact .refl s

theorem drivesKept_grantOther (r : Side) (s : State) : DrivesKept s (grantOther r s) := by
  unfold grantOther
  split
  · next h => exact drivesKept_grantIfFree (rake_waits_of_waiting h)
  · exact .refl s

theorem startSlotOpen_iff : s.startSlotOpen = true ↔ (∀ p, (s.pump p).state ≠ .starting) ∧
    s.arbiter.stagger = none ∧ s.powerReturned = true ∧ s.automatic = true := by
  simp only [State.startSlotOpen, Bool.and_eq_true, List.all_eq_true, decide_eq_true_iff, Option.isNone_iff_eq_none,
    and_assoc]
  exact and_congr_left' ⟨fun h p => h p (mem_pumps p), fun h p _ => h p⟩

/-- The one pump that may be STARTING is the one to which the open start slot is given (R77). -/
theorem drivesKept_setStarting {w : PumpRec} (hw : w.state = .starting) (hs : (s.pump p).state = .startWait)
    (hopen : s.startSlotOpen = true) : DrivesKept s (s.setPump p w) := by
  obtain ⟨hnone, -, -, hauto⟩ := startSlotOpen_iff.mp hopen
  have hstate : ∀ q, ((s.setPump p w).pump q).state = if q = p then .starting else (s.pump q).state := fun q => by
    rw [State.pump_setPump]
    split
    · exact hw
    · rfl
  have honly : ∀ q, ((s.setPump p w).pump q).state = .starting → q = p := fun q hq => by
    by_contra hqp
    rw [hstate, if_neg hqp] at hq
    exact hnone q hq
  constructor
  · rintro ⟨hnodup, hmem⟩
    refine ⟨hnodup, fun q => (hmem q).trans ?_⟩
    rw [hstate]
    split
    · subst q; simp [hs]
    · rfl
  · intro hm
    have hand : HandOutsideAutomatic (s.setPump p w) := fun h => by
      rw [show (s.setPump p w).automatic = s.automatic from rfl, hauto] at h
      cases h
    exact ⟨hm.settling, hand, fun a b ha hb => (honly a ha).trans (honly b hb).symm⟩

theorem drivesKept_startPump (hs : (s.pump p).state = .startWait) (hopen : s.startSlotOpen = true) :
    DrivesKept s (startPump p s) := by
  have hstarting := fun w : PumpRec => fun hw : w.state = .starting =>
    (drivesKept_setStarting hw hs hopen).then_states (driveStates_postPump p .run _)
  unfold startPump
  dsimp only
  split
  · refine (hstarting _ ?_).trans (drivesKept_enterRunning ?_)
    · rfl
    · rw [pump_postPump, if_pos rfl, State.pump_setPump_same]
  · exact hstarting _ rfl

theorem drivesKept_grantCandidate (p : Pump) (s : State) : DrivesKept s (grantCandidate p s) := by
  unfold grantCandidate
  split
  · next h =>
    split
    · exact drivesKept_startPump h.1 h.2.1
    · exact (pumpMove_setPump (by simp [h.1]) rfl (by simp [h.1])).kept
  · exact .refl s

theorem drivesKept_grantPass (s : State) : DrivesKept s (grantPass s) :=
  ((drivesKept_eachSide drivesKept_grantUrgent s).trans
    (drivesKept_foldl (fun u p => drivesKept_grantCandidate p u) _ _)).trans
    (drivesKept_eachSide drivesKept_grantOther _)

theorem slotLaw_grantPass (h : SlotLaw s) : SlotLaw (grantPass s) :=
  foldl_keeps (P := SlotLaw) (fun _ r hu => slotLaw_grantOther r hu)
    (foldl_keeps (P := SlotLaw) (fun _ p hu => slotLaw_grantCandidate p hu)
      (foldl_keeps (P := SlotLaw) (fun _ r hu => slotLaw_grantUrgent r hu) h _) _) _

/-! ### The drives settled (R79, R80) -/

@[simp] theorem drivesKept_settleDrives (s : State) : DrivesKept s (settleDrives s) :=
  (drivesKept_shedCheck s).trans (drivesKept_grantPass _)

theorem slotLaw_settleDrives (hrun : RunOrderTrue s) : SlotLaw (settleDrives s) :=
  slotLaw_grantPass (slotLaw_shedCheck hrun)

end Sys2Proof.Proofs
end

section
/-! PROOF. Every block that works within an event keeps the laws of the drives: the balance record taken, the lap list,
points told, tables put in force. -/

namespace Sys2Proof.Proofs

open Sys2Proof.Machine Sys2Proof.Safety Sys2Proof.Laws

variable {s t u : State} {p q : Pump} {r : Side}

/-! ### Blocks that leave the drives' states -/

theorem driveStates_of_outsideSpill (h : outsideSpill t = outsideSpill s) : driveStates t = driveStates s :=
  driveStates_congr (by simpa [outsideSpill, outsideAlarms] using congrArg State.seq h)
    (by simpa [outsideSpill, outsideAlarms] using congrArg State.screens h)
    (by simpa [outsideSpill, outsideAlarms] using congrArg State.tables h)

theorem driveStates_of_startKept (h : startKept t = startKept s) : driveStates t = driveStates s :=
  driveStates_congr (by simpa [startKept] using congrArg State.seq h)
    (by simpa [startKept] using congrArg State.screens h) (by simpa [startKept] using congrArg State.tables h)

@[simp] theorem driveStates_finishAlarms (s : State) : driveStates (finishAlarms s) = driveStates s :=
  driveStates_of_startKept (startKept_finishAlarms s)

@[simp] theorem driveStates_weirGone (w : Weir) (s : State) : driveStates (weirGone w s) = driveStates s :=
  driveStates_of_startKept (startKept_weirGone w s)

@[simp] theorem driveStates_statePointFailed (n : Nat) (s : State) :
    driveStates (statePointFailed n s) = driveStates s := driveStates_of_outsideAlarms (by simp)

@[simp] theorem driveStates_countTransit (f : TransitCounters → TransitCounters) (s : State) :
    driveStates (s.countTransit f) = driveStates s := rfl

@[simp] theorem driveStates_setPoint (n : Nat) (x : PointRec) (s : State) :
    driveStates (s.setPoint n x) = driveStates s := rfl

/-! ### The balance update (R98 to R105) -/

@[simp] theorem drivesKept_countRunSecond (p : Pump) (s : State) : DrivesKept s (countRunSecond p s) := by
  unfold countRunSecond
  split
  · exact .of_states (driveStates_setPump rfl)
  · exact .refl s

@[simp] theorem driveStates_judgeLevels (s : State) : driveStates (judgeLevels s) = driveStates s :=
  (driveStates_stateCondition ..).trans (driveStates_stateCondition ..)

/-- A pump that is neither RUNNING nor in HAND takes a state without a grant. -/
theorem drivesKept_setState {st : PumpState} (hs : (s.pump p).state ≠ .running) (hhand : (s.pump p).state ≠ .hand)
    (hst : st.granted = false) : DrivesKept s (s.setPump p { s.pump p with state := st }) :=
  PumpMove.kept (pumpMove_setPump hs hst fun _ h => absurd h hhand)

@[simp] theorem drivesKept_dropIneligible (p : Pump) (s : State) : DrivesKept s (dropIneligible p s) := by
  unfold dropIneligible
  split
  · next h => exact drivesKept_setState (by simp [h.1]) (by simp [h.1]) rfl
  · exact .refl s

@[simp] theorem drivesKept_raisePump (s : State) (p : Pump) : DrivesKept s (raisePump s p) := by
  unfold raisePump
  split
  · next h => exact drivesKept_setState (by simp [h.2.1]) (by simp [h.2.1]) rfl
  · exact .refl s

@[simp] theorem drivesKept_lowerWaiting (s : State) (p : Pump) : DrivesKept s (lowerWaiting s p) := by
  unfold lowerWaiting
  split
  · next h => exact drivesKept_setState (by simp [h.2]) (by simp [h.2]) rfl
  · exact .refl s

@[simp] theorem drivesKept_lowerRunning (s : State) (p : Pump) : DrivesKept s (lowerRunning s p) := by
  unfold lowerRunning
  split
  · next h => exact drivesKept_enterStopping (by rw [h.2.1]; rfl)
  · exact .refl s

@[simp] theorem drivesKept_actOnDemand (s : State) : DrivesKept s (actOnDemand s) := by
  have hdrop := drivesKept_eachPump drivesKept_dropIneligible s
  unfold actOnDemand
  split
  · dsimp only
    split
    · exact hdrop.trans (drivesKept_foldl drivesKept_raisePump _ _)
    · exact (hdrop.trans (drivesKept_foldl drivesKept_lowerWaiting _ _)).trans
        (drivesKept_foldl drivesKept_lowerRunning _ _)
  · exact .refl s

@[simp] theorem drivesKept_sequence (s : State) : DrivesKept s (sequence s) := by
  refine DrivesKept.trans ((drivesKept_eachPump drivesKept_countRunSecond s).then_states ?_)
    (drivesKept_actOnDemand _)
  exact driveStates_judgeLevels _

@[simp] theorem drivesKept_deliverRecord (o : BalanceOrder) (s : State) : DrivesKept s (deliverRecord o s) := by
  have hscreens : ∀ u, DrivesKept u (judgeScreens u) := drivesKept_eachSide drivesKept_judgeScreen
  have hprotect : ∀ u, DrivesKept u (protectAll u) := drivesKept_eachPump drivesKept_protectPump
  unfold deliverRecord
  refine DrivesKept.then_states ?_ (driveStates_of_outsideSpill (outsideSpill_judgeWeirs _))
  exact ((((drivesKept_guarded hprotect s).trans (drivesKept_guarded hscreens _)).trans
    (drivesKept_sequence _)).trans (drivesKept_guarded hprotect _)).trans (drivesKept_guarded hscreens _)

/-! ### The lap list (R32 to R35) -/

@[simp] theorem drivesKept_takenOutcome (e : LapEntry) (s : State) : DrivesKept s (takenOutcome e s) := by
  unfold takenOutcome
  split
  · exact drivesKept_pumpCommandTaken ..
  · exact drivesKept_rakeCommandTaken ..
  · unfold annunciateTaken
    split
    · exact .of_states rfl
    · exact .refl s
  · exact .refl s
  · exact .refl s

@[simp] theorem driveStates_clearConfirmed (a : Actuator) (s : State) :
    driveStates (clearConfirmed a s) = driveStates s := by
  cases a with
  | pump p => exact driveStates_setPump rfl
  | rake r => exact driveStates_setRake rfl
  | annunciator => rfl

@[simp] theorem drivesKept_finalLoss (a : Actuator) (s : State) : DrivesKept s (finalLoss a s) := by
  have hcount : DrivesKept s (s.countTransit fun c => { c with givenUp := inc16 c.givenUp }) := .of_states rfl
  cases a with
  | pump p => exact hcount.trans (drivesKept_pumpCommandLost p _)
  | rake r => exact hcount.trans (drivesKept_rakeCommandLost r _)
  | annunciator => exact hcount

@[simp] theorem drivesKept_failedCommand (e : LapEntry) (a : Actuator) (c : CommandCode) (g : Byte) (s : State) :
    DrivesKept s (failedCommand e a c g s) := by
  have hagain : ∀ n, DrivesKept s (countRetry (postCommand a c g n (clearConfirmed a s))) := fun n =>
    .of_states ((driveStates_countTransit ..).trans
      ((driveStates_postCommand ..).trans (driveStates_clearConfirmed ..)))
  simp [failedCommand, hagain]

@[simp] theorem drivesKept_failedOutcome (e : LapEntry) (s : State) : DrivesKept s (failedOutcome e s) := by
  unfold failedOutcome
  split
  · exact drivesKept_failedCommand ..
  · next k _ _ =>
    obtain ⟨-, hf⟩ | ⟨-, -, hf⟩ | ⟨-, -, hf⟩ := failedNotice_cases k e s <;> rw [hf] <;> exact .of_states rfl
  · exact .of_states rfl

@[simp] theorem drivesKept_resolveOldest (o : Lap) (s : State) : DrivesKept s (resolveOldest o s) := by
  have hlap : ∀ rest, DrivesKept s { s with transit := { s.transit with lap := rest } } := fun _ => .of_states rfl
  unfold resolveOldest
  split
  · exact .refl s
  · dsimp only
    split
    · exact (hlap _).trans (drivesKept_takenOutcome ..)
    · exact (hlap _).trans (drivesKept_failedOutcome ..)
    · exact (hlap _).trans (drivesKept_failedOutcome ..)

theorem drivesKept_resolveLost (n : Nat) (s : State) : DrivesKept s (resolveLost n s) := by
  induction n generalizing s with
  | zero => exact .refl s
  | succ n ih => exact (drivesKept_resolveOldest .lost s).trans (ih _)

theorem drivesKept_expireSome (n : Nat) (s : State) : DrivesKept s (expireSome n s) := by
  induction n generalizing s with
  | zero => exact .refl s
  | succ n ih =>
    unfold expireSome
    split
    · exact (drivesKept_resolveOldest .lost s).trans (ih _)
    · exact .refl s

@[simp] theorem drivesKept_expirePassed (s : State) : DrivesKept s (expirePassed s) := drivesKept_expireSome _ s

@[simp] theorem drivesKept_ownReturned (f : Frame) (s : State) : DrivesKept s (ownReturned f s) := by
  unfold ownReturned
  split
  · exact .of_states rfl
  · exact ((drivesKept_resolveLost _ s).trans (drivesKept_resolveOldest _ _)).trans (drivesKept_expirePassed _)

@[simp] theorem drivesKept_lapTimedOut (s : State) : DrivesKept s (lapTimedOut s) := by
  unfold lapTimedOut
  split
  · exact .refl s
  · exact (drivesKept_resolveOldest .lost s).trans (drivesKept_expirePassed _)

/-! ### Points (R41 to R55) -/

@[simp] theorem drivesKept_pumpPointChanged (n : Nat) (old : PointRec) (p : Pump) (s : State) :
    DrivesKept s (pumpPointChanged n old p s) :=
  (((((drivesKept_guarded (drivesKept_feedbackChanged p _) s).trans
    (drivesKept_guarded (drivesKept_judgeOvercurrent p) _)).trans
    (drivesKept_guarded (drivesKept_judgeSelector p) _)).trans
    (drivesKept_guarded (drivesKept_judgeFault p .f1) _)).trans
    (drivesKept_guarded (drivesKept_judgeFault p .f2) _)).trans
    (drivesKept_guarded (drivesKept_judgeFault p .f3) _)

@[simp] theorem drivesKept_rakePointChanged (n : Nat) (r : Side) (s : State) :
    DrivesKept s (rakePointChanged n r s) :=
  (drivesKept_guarded (drivesKept_judgePark r) s).trans
    (drivesKept_guarded (fun u => .of_states (driveStates_judgeJamTimer r u)) _)

@[simp] theorem drivesKept_pointChanged (n : Nat) (old : PointRec) (s : State) :
    DrivesKept s (pointChanged n old s) := by
  unfold pointChanged
  split
  · exact .refl s
  · exact ((drivesKept_guarded drivesKept_judgeSupply s).trans
      (drivesKept_eachPump (drivesKept_pumpPointChanged n old) _)).trans
      (drivesKept_eachSide (drivesKept_rakePointChanged n) _)

@[simp] theorem drivesKept_changePoint (n : Nat) (x : PointRec) (s : State) : DrivesKept s (changePoint n x s) :=
  (DrivesKept.of_states (driveStates_setPoint n x s)).trans (drivesKept_pointChanged n _ _)

@[simp] theorem drivesKept_takePair (node : Byte) (s : State) (x : Byte × Int) : DrivesKept s (takePair node s x) := by
  unfold takePair takeRaw
  split
  · exact .refl s
  · split
    · exact .of_states rfl
    · split
      · exact .of_states rfl
      · exact (drivesKept_changePoint ..).then_states (driveStates_statePointFailed ..)

@[simp] theorem driveStates_ageAndGrade (s : State) : driveStates (ageAndGrade s) = driveStates s :=
  ((foldl_view driveStates gradePoint (fun u _ => driveStates_setPoint _ _ u) _ _).trans
    (foldl_view driveStates gradePoint (fun u _ => driveStates_setPoint _ _ u) _ _)).trans
    (foldl_view driveStates agePoint (fun u _ => driveStates_setPoint _ _ u) _ s)

@[simp] theorem drivesKept_tellAgeing (old : Points) (s : State) : DrivesKept s (tellAgeing old s) := by
  have htold : ∀ u n, DrivesKept u (pointChanged n (old.recs.getD n PointRec.start) u) := fun u n =>
    drivesKept_pointChanged n _ u
  have hfailed : ∀ u n, DrivesKept u (statePointFailed n u) := fun u n => .of_states (driveStates_statePointFailed n u)
  exact (drivesKept_foldl htold pointNumbers s).trans (drivesKept_foldl hfailed pointNumbers _)

@[simp] theorem drivesKept_pointSecond (s : State) : DrivesKept s (pointSecond s) := by
  exact (DrivesKept.of_states (driveStates_ageAndGrade s)).trans (drivesKept_tellAgeing _ _)

@[simp] theorem drivesKept_releaseForce (d : PointDef) (s : State) : DrivesKept s (releaseForce d s) := by
  simp [releaseForce]

/-! ### Tables put in force (R172) -/

@[simp] theorem driveStates_compareSummary (n : Nat) (s : State) :
    driveStates (compareSummary n s) = driveStates s := by
  unfold compareSummary
  dsimp only
  split <;> rfl

@[simp] theorem driveStates_alarmsActivated (old s : State) : driveStates (alarmsActivated old s) = driveStates s := by
  have heach : ∀ u n, driveStates (alarmActivated (old.priority n) (renotifyIn old.alarmTable) n u) = driveStates u :=
    fun u n => driveStates_of_outsideAlarms (outsideAlarms_alarmActivated ..)
  exact (driveStates_compareSummary ..).trans (foldl_view driveStates _ heach alarmNumbers s)

@[simp] theorem driveStates_weirActivated (w : Weir) (s : State) : driveStates (weirActivated w s) = driveStates s := by
  unfold weirActivated
  split
  · exact driveStates_weirGone w s
  · split <;> rfl

@[simp] theorem driveStates_weirRoleChanged (old : State) (w : Weir) (s : State) :
    driveStates (weirRoleChanged old w s) = driveStates s := by
  unfold weirRoleChanged
  split
  · rfl
  · split
    · exact driveStates_weirGone w s
    · split <;> rfl

@[simp] theorem driveStates_settleFairness (s : State) : driveStates (settleFairness s) = driveStates s := by
  unfold settleFairness
  split <;> rfl

@[simp] theorem driveStates_rebuildGate (s : State) : driveStates (rebuildGate s) = driveStates s :=
  (driveStates_settleFairness _).trans rfl

@[simp] theorem driveStates_judgeHoldOut (s : State) : driveStates (judgeHoldOut s) = driveStates s := by
  rw [(onLoop_judgeHoldOut s).eq]
  rfl

@[simp] theorem driveStates_compareGap (s : State) : driveStates (compareGap s) = driveStates s := by
  rw [compareGap_eq]
  rfl

@[simp] theorem driveStates_compareStall (s : State) : driveStates (compareStall s) = driveStates s := by
  unfold compareStall stallReached
  split
  · rfl
  · split
    · exact driveStates_stateCondition ..
    · rfl

@[simp] theorem driveStates_wellChanged (old s : State) : driveStates (wellChanged old s) = driveStates s := by
  unfold wellChanged
  split <;> rfl

@[simp] theorem driveStates_installedChanged (old s : State) :
    driveStates (installedChanged old s) = driveStates s := by
  have hfresh : ∀ p u, driveStates (freshSources p u) = driveStates u := fun p u =>
    (driveStates_statePumpConditions ..).trans (driveStates_setPump rfl)
  unfold installedChanged
  split
  · rfl
  · exact eachPump_view driveStates _ (fun p u => by split; exacts [rfl, hfresh p u]) _

@[simp] theorem drivesKept_stationActivated (old s : State) : DrivesKept s (stationActivated old s) := by
  have hroles : ∀ p u, DrivesKept u (rolesChanged old p u) := fun p u =>
    (((drivesKept_feedbackChanged p _ u).trans (drivesKept_judgeOvercurrent p _)).trans
      (drivesKept_judgeSelector p _)).trans (drivesKept_judgeFaults p _)
  have hannunciator : ∀ u, driveStates (annunciatorAdded old u) = driveStates u := fun u => by
    unfold annunciatorAdded
    split
    · exact driveStates_postAnnunciate ..
    · rfl
  have hline : driveStates (compareStall (compareGap (judgeHoldOut (rebuildGate s)))) = driveStates s := by simp
  exact ((((((((DrivesKept.of_states hline).trans (drivesKept_expirePassed _)).then_states
    (driveStates_wellChanged old _)).then_states (driveStates_installedChanged old _)).trans
    (drivesKept_judgeSupply _)).trans (drivesKept_eachPump hroles _)).trans
    (drivesKept_eachSide drivesKept_judgeRakeMode _)).then_states
    (eachWeir_view driveStates _ (driveStates_weirRoleChanged old) _)).then_states (hannunciator _)

@[simp] theorem drivesKept_pointActivated (old s : State) : DrivesKept s (pointActivated old s) := by
  have hredefined : ∀ u n, driveStates (pointRedefined old n u) = driveStates u := fun u n => by
    unfold pointRedefined
    split
    · split
      · rfl
      · exact driveStates_stateCondition ..
    · exact driveStates_stateCondition ..
    · rfl
  unfold pointActivated
  dsimp only
  refine DrivesKept.then_states (DrivesKept.trans (.of_states ?_)
    (drivesKept_foldl (fun u n => drivesKept_pointChanged n _ u) _ _)) (foldl_view driveStates _ hredefined _ _)
  rfl

@[simp] theorem driveStates_compareStagger (s : State) : driveStates (compareStagger s) = driveStates s := by
  unfold compareStagger
  split <;> rfl

@[simp] theorem drivesKept_pumpActivated (old : State) (p : Pump) (s : State) :
    DrivesKept s (pumpActivated old p s) := by
  have hminimums : driveStates (compareMinimums old p s) = driveStates s := driveStates_setPump rfl
  have hover : ∀ u, DrivesKept u (compareOvercurrent p u) := fun u => by simp [compareOvercurrent]
  have hdrop : ∀ u, driveStates (dropUncommanded p u) = driveStates u := fun u => by
    unfold dropUncommanded
    split
    · exact driveStates_setSources ..
    · rfl
  have hconfirms : ∀ u, DrivesKept u (compareConfirms p u) := fun u => by
    unfold compareConfirms
    split
    · exact .refl u
    · exact (drivesKept_guarded (drivesKept_startConfirmExpired p) u).trans
        (drivesKept_guarded (drivesKept_stopConfirmExpired p) _)
  exact (((((DrivesKept.of_states hminimums).trans (drivesKept_judgeFaults p _)).trans (hover _)).then_states
    (hdrop _)).then_states (driveStates_statePumpConditions p _)).trans (hconfirms _)

@[simp] theorem drivesKept_screenActivated (old : State) (r : Side) (s : State) :
    DrivesKept s (screenActivated old r s) := by
  have htimers : ∀ u, DrivesKept u (compareRakeTimers r u) := fun u => by
    unfold compareRakeTimers
    split
    · exact .refl u
    · exact (((DrivesKept.of_states (driveStates_judgeJamTimer r u)).trans
        (drivesKept_guarded (drivesKept_travelExpired r) _)).trans
        (drivesKept_guarded (drivesKept_jamCurrentReached r) _)).trans
        (drivesKept_guarded (drivesKept_reverseExpired r) _)
  have hmode : ∀ u, driveStates u = driveStates s → DrivesKept s (judgeRakeMode r u) := fun u hu =>
    (DrivesKept.of_states hu).trans (drivesKept_judgeRakeMode r u)
  unfold screenActivated
  split
  · exact (drivesKept_judgeRakeMode r s).trans (htimers _)
  · exact hmode _ ((driveStates_stateCondition ..).trans (driveStates_setScreen ..))
  · exact hmode _ (driveStates_setScreen ..)
  · exact .refl s

/-- The blocks that an activation reaches keep the laws of the drives (R172). -/
@[simp] theorem drivesKept_deliver (x : TableId) (old s : State) : DrivesKept s (deliver x old s) := by
  cases x
  case station => exact drivesKept_stationActivated old s
  case access => exact .refl s
  case tap => exact .refl s
  case point => exact drivesKept_pointActivated old s
  case storage => exact .of_states rfl
  case pump =>
    exact (drivesKept_eachPump (drivesKept_pumpActivated old) s).then_states (driveStates_compareStagger _)
  case band => exact .of_states rfl
  case screen => exact drivesKept_eachSide (drivesKept_screenActivated old) s
  case weir => exact .of_states (eachWeir_view driveStates _ driveStates_weirActivated s)
  case alarm => exact .of_states (driveStates_alarmsActivated old s)

@[simp] theorem driveStates_queueWrite (x : TableId) (image : List Byte) (s : State) :
    driveStates (queueWrite x image s) = driveStates s := by
  unfold queueWrite startWrite
  dsimp only
  split <;> rfl

@[simp] theorem driveStates_setMark (x : TableId) (b : Bool) (s : State) :
    driveStates (setMark x b s) = driveStates s := driveStates_stateCondition ..

@[simp] theorem drivesKept_activateIf (m : Method) (s : State) (x : TableId) : DrivesKept s (activateIf m s x) := by
  have himage : ∀ image, DrivesKept s (activateImage x image s) := fun image => by
    unfold activateImage
    dsimp only
    split
    · exact .of_states rfl
    · refine DrivesKept.trans (.of_states ?_) ((drivesKept_deliver x _ _).then_states rfl)
      rw [driveStates_queueWrite, driveStates_setMark]
      rfl
  unfold activateIf
  split
  · simp [himage]
  · exact .refl s

@[simp] theorem drivesKept_activateAll (m : Method) (s : State) : DrivesKept s (activateAll m s) :=
  drivesKept_foldl (drivesKept_activateIf m) _ s

end Sys2Proof.Proofs
end

section
/-! PROOF. What every command but a start keeps of the drives (R76, R77, R86, R96): a command that settles them meets
the law of the slot record anew, every other leaves what the laws read. -/

namespace Sys2Proof.Proofs

open Sys2Proof.Machine Sys2Proof.Safety Sys2Proof.Laws

variable {s t u : State} {p q : Pump} {r : Side}

/-! ### What the laws read -/

/-- What the laws of the slot record, of the run order and of the modes read of the state. -/
structure SlotView where
  states : DriveStates
  station : Option StationTable
  points : List PointRec
  supply : Supply

def slotView (s : State) : SlotView where
  states := driveStates s
  station := s.station
  points := s.points.recs
  supply := s.arbiter.supply

theorem slotView_congr (hstates : driveStates t = driveStates s) (htables : t.tables = s.tables)
    (hpoints : t.points = s.points) (hsupply : t.arbiter.supply = s.arbiter.supply) : slotView t = slotView s := by
  unfold slotView State.station
  rw [hstates, htables, hpoints, hsupply]

theorem running_of_slotView (h : slotView t = slotView s) : running t = running s := by
  have hstation : t.station = s.station := congrArg SlotView.station h
  have hrecs : t.points.recs = s.points.recs := congrArg SlotView.points h
  have hrole : ∀ f, t.roleRec f = s.roleRec f := fun f => by
    unfold State.roleRec State.role State.roles State.pointRec
    rw [hstation, hrecs]
  funext d
  cases d with
  | pump p => exact congrArg (fun x => (Option.map PointRec.active x).getD false) (hrole _)
  | rake r =>
    exact congrArg (fun x : Option PointRec =>
      decide ((x.bind fun v => if v.quality.usable then some v.value else none).getD 0 ≠ 0)) (hrole _)

theorem holdsGrant_of_driveStates (h : driveStates t = driveStates s) : holdsGrant t = holdsGrant s := by
  funext d
  cases d with
  | pump p => exact congrArg PumpState.granted (pumpState_of_driveStates h p)
  | rake r => exact congrArg RakeState.granted (rakeState_of_driveStates h r)

theorem slotLaw_of_slotView (h : slotView t = slotView s) (hs : SlotLaw s) : SlotLaw t := by
  have hheld := holdsGrant_of_driveStates (congrArg SlotView.states h)
  have hoccupies : occupies t = occupies s := by
    funext d
    rw [occupies, hheld, running_of_slotView h, occupies]
  have hcapacity : t.capacity = s.capacity := capacity_congr (congrArg SlotView.station h) (congrArg SlotView.supply h)
  unfold SlotLaw at *
  rwa [occupancy_eq, grants_eq, hheld, hoccupies, hcapacity, ← occupancy_eq, ← grants_eq]

/-! ### The laws kept by a command -/

/-- From `s` to `t` the law of the slot record with the truth of the run order, and the modes' truth, are kept. -/
structure LawsKept (s t : State) : Prop where
  slots : SlotLaw s → RunOrderTrue s → SlotLaw t ∧ RunOrderTrue t
  modes : ModesTrue s → ModesTrue t

theorem LawsKept.refl (s : State) : LawsKept s s := ⟨fun h h' => ⟨h, h'⟩, id⟩

theorem LawsKept.trans (h : LawsKept s t) (h' : LawsKept t u) : LawsKept s u where
  slots hs hr := by
    obtain ⟨ht, hrt⟩ := h.slots hs hr
    exact h'.slots ht hrt
  modes := h'.modes ∘ h.modes

theorem LawsKept.of_view (h : slotView t = slotView s) : LawsKept s t :=
  have hkept : DrivesKept s t := .of_states (congrArg SlotView.states h)
  ⟨fun hs hr => ⟨slotLaw_of_slotView h hs, hkept.run hr⟩, hkept.modes⟩

theorem LawsKept.ite {c : Prop} [Decidable c] (h : c → LawsKept s t) : LawsKept s (if c then t else s) := by
  split
  · exact h ‹_›
  · exact .refl s

/-! ### What leaves the view -/

theorem slotView_of_outsideAlarms (h : outsideAlarms t = outsideAlarms s) : slotView t = slotView s :=
  slotView_congr (driveStates_of_outsideAlarms h) (tables_of_outsideDrives (outsideDrives_of_outsideAlarms h))
    (points_of_outsideDrives (outsideDrives_of_outsideAlarms h))
    (congrArg Arbiter.supply (by simpa [outsideAlarms] using congrArg State.arbiter h))

theorem slotView_of_startKept (h : startKept t = startKept s) : slotView t = slotView s :=
  slotView_congr (driveStates_of_startKept h) (by simpa [startKept] using congrArg State.tables h)
    (by simpa [startKept] using congrArg State.points h)
    (congrArg Arbiter.supply (by simpa [startKept] using congrArg State.arbiter h))

@[simp] theorem slotView_finishAlarms (s : State) : slotView (finishAlarms s) = slotView s :=
  slotView_of_startKept (startKept_finishAlarms s)

@[simp] theorem slotView_stateCondition (n : Nat) (b : Bool) (s : State) :
    slotView (stateCondition n b s) = slotView s := slotView_of_outsideAlarms (by simp)

@[simp] theorem slotView_postNotice (o : OwnFrame) (s : State) : slotView (postNotice o s) = slotView s :=
  slotView_of_startKept (startKept_postNotice o s)

@[simp] theorem slotView_flushNotices (s : State) : slotView (flushNotices s) = slotView s :=
  (foldl_view slotView _ (fun u o => slotView_postNotice o u) _ _).trans rfl

theorem slotView_of_onLoop (h : OnLoop s t) : slotView t = slotView s := by
  rw [h.eq]
  rfl

@[simp] theorem slotView_setPump {w : PumpRec} (h : w.state = (s.pump p).state) :
    slotView (s.setPump p w) = slotView s := slotView_congr (driveStates_setPump h) rfl rfl rfl

@[simp] theorem slotView_setRake {w : RakeRec} (h : w.state = (s.rake r).state) :
    slotView (s.setRake r w) = slotView s := slotView_congr (driveStates_setRake h) rfl rfl rfl

@[simp] theorem slotView_postCommand (a : Actuator) (c : CommandCode) (g : Byte) (n : Option Nat) (s : State) :
    slotView (postCommand a c g n s) = slotView s :=
  slotView_of_startKept (startKept_postCommand a c g n s)

/-! ### A command that settles the drives -/

theorem drivesKept_activateQuiet (s : State) : DrivesKept s (activateQuiet s) := by
  simp [activateQuiet, (drivesKept_activateAll .quiet s).trans (drivesKept_settleDrives _)]

theorem slotLaw_activateQuiet (hs : SlotLaw s) (hrun : RunOrderTrue s) : SlotLaw (activateQuiet s) := by
  unfold activateQuiet
  split
  · exact slotLaw_settleDrives ((drivesKept_activateAll .quiet s).run hrun)
  · exact hs

/-- A command that ends by settling the drives meets the law of the slot record anew (R79, R80). -/
theorem lawsKept_finishDrives (h : DrivesKept s t) : LawsKept s (finishDrives t) := by
  refine LawsKept.trans (t := activateQuiet (settleDrives t)) ?_ (.of_view (slotView_finishAlarms _))
  have hsettled : DrivesKept s (settleDrives t) := h.trans (drivesKept_settleDrives t)
  exact {
    slots := fun _ hrun => ⟨slotLaw_activateQuiet (slotLaw_settleDrives (h.run hrun)) (hsettled.run hrun),
      (hsettled.trans (drivesKept_activateQuiet _)).run hrun⟩
    modes := (hsettled.trans (drivesKept_activateQuiet _)).modes }

/-! ### The loop port and the transit section (R6 to R14, R24, R29 to R31, R37, R38) -/

theorem lawsKept_onLoop (h : OnLoop s t) : LawsKept s t := .of_view (slotView_of_onLoop h)

theorem slotView_judgeHoldOut (s : State) : slotView (judgeHoldOut s) = slotView s :=
  slotView_of_onLoop (onLoop_judgeHoldOut s)

theorem slotView_offer (f : Frame) (s : State) : slotView (offer f s) = slotView s := by
  unfold offer
  split
  · exact (slotView_judgeHoldOut _).trans rfl
  · rfl

theorem lawsKept_forward (f : Frame) (s : State) : LawsKept s (forward f s) := .of_view (slotView_offer _ s)

theorem slotView_dropTransitHead (s : State) : slotView (dropTransitHead s) = slotView s :=
  (slotView_judgeHoldOut _).trans rfl

theorem lawsKept_startOffer (s : State) : LawsKept s (startOffer s) := by
  unfold startOffer
  split
  · exact .of_view rfl
  · exact .of_view rfl
  · exact .refl s

theorem slotView_noteResponseSent (o : OwnFrame) (s : State) : slotView (noteResponseSent o s) = slotView s := by
  unfold noteResponseSent
  split <;> rfl

theorem lawsKept_frameSent (s : State) : LawsKept s (frameSent s) := by
  unfold frameSent
  dsimp only
  split
  · exact .of_view ((slotView_dropTransitHead _).trans rfl)
  · exact .of_view ((slotView_noteResponseSent _ _).trans rfl)
  · exact .refl s
  · exact .refl s

theorem slotView_returnOwn (o : OwnFrame) (m : Bool) (s : State) : slotView (returnOwn o m s) = slotView s := by
  unfold returnOwn
  split
  · split <;> rfl
  · rfl
  · rfl

theorem lawsKept_cutOff (s : State) : LawsKept s (cutOff (enterBreak s)) := by
  obtain ⟨heq, -, -⟩ := enterBreak_frame s
  have hbreak : slotView (enterBreak s) = slotView s := by
    rw [heq]
    rfl
  refine LawsKept.trans (.of_view hbreak) ?_
  unfold cutOff
  dsimp only
  split
  · exact .of_view ((slotView_dropTransitHead _).trans rfl)
  · exact .of_view ((slotView_returnOwn ..).trans rfl)
  all_goals exact .of_view rfl

theorem slotView_refreshOne (s : State) (a : Actuator) : slotView (refreshOne s a) = slotView s := by
  unfold refreshOne
  split
  · cases a with
    | pump p => exact (slotView_postCommand ..).trans (slotView_setPump rfl)
    | rake r => exact (slotView_postCommand ..).trans (slotView_setRake rfl)
    | annunciator => exact (slotView_postCommand ..).trans rfl
  · rfl

theorem lawsKept_breakEnded (s : State) : LawsKept s (breakEnded s) := by
  rw [breakEnded_eq]
  split
  · exact .of_view ((foldl_view slotView refreshOne slotView_refreshOne actuators _).trans rfl)
  · exact .of_view rfl

end Sys2Proof.Proofs
end

section
/-! PROOF. Every step keeps the law of the slot record, the run order and the modes true (R76, R77, R86, R96, R125,
R174): the station's mode, the requests, the frames received, the starts, and every other command. -/

namespace Sys2Proof.Proofs

open Sys2Proof.Machine Sys2Proof.Safety Sys2Proof.Laws

variable {s t u b : State} {p q : Pump} {r : Side}

/-! ### Outside AUTOMATIC every drive judged is in HAND (R86, R125) -/

theorem pumpState_judgePumpMode_hand (h : s.automatic = false) : ((judgePumpMode p s).pump p).state = .hand := by
  have htarget : s.targetMode p = .hand := by rw [State.targetMode, h]; rfl
  unfold judgePumpMode
  rw [htarget]
  cases hst : (s.pump p).state <;> simp [PumpState.mode, pumpLeavesAuto, hst]

theorem rakeState_judgeRakeMode_hand (h : s.automatic = false) : ((judgeRakeMode r s).rake r).state = .hand := by
  have htarget : s.rakeTargetMode r = .hand := by rw [State.rakeTargetMode, h]; rfl
  unfold judgeRakeMode
  rw [htarget]
  cases hst : (s.rake r).state <;> simp [RakeState.mode, rakeLeavesAuto, RakeRec.rest, hst]

theorem pumpState_eachPump_judgePumpMode_hand (h : s.automatic = false) (p : Pump) :
    ((eachPump judgePumpMode s).pump p).state = .hand := by
  obtain ⟨u, hu, -, hturn⟩ := foldl_turn (P := fun u => u.automatic = false) (E := fun u => (u.pump p).state)
    (f := fun u q => judgePumpMode q u) (l := pumps) (a := p)
    (fun u hu q _ => (automatic_of_outsideGrants (outsideGrants_judgePumpMode q u)).trans hu)
    (fun u _ q _ hq => by rw [pump_judgePumpMode_other (Ne.symm hq)]) (by decide) (mem_pumps p) h
  exact hturn.trans (pumpState_judgePumpMode_hand hu)

theorem rakeState_eachSide_judgeRakeMode_hand (h : s.automatic = false) (r : Side) :
    ((eachSide judgeRakeMode s).rake r).state = .hand := by
  obtain ⟨u, hu, -, hturn⟩ := foldl_turn (P := fun u => u.automatic = false) (E := fun u => (u.rake r).state)
    (f := fun u y => judgeRakeMode y u) (l := sides) (a := r)
    (fun u hu y _ => (automatic_of_outsideGrants (outsideGrants_judgeRakeMode y u)).trans hu)
    (fun u _ y _ hy => by rw [rake_judgeRakeMode_other (Ne.symm hy)]) (by decide) (mem_sides r) h
  exact hturn.trans (rakeState_judgeRakeMode_hand hu)

/-- Every drive judged afresh under the present mode (R86, R125). -/
def judgeModes (s : State) : State := eachSide judgeRakeMode (eachPump judgePumpMode s)

theorem drivesKept_judgeModes (s : State) : DrivesKept s (judgeModes s) :=
  (drivesKept_eachPump drivesKept_judgePumpMode s).trans (drivesKept_eachSide drivesKept_judgeRakeMode _)

theorem tables_judgeModes (s : State) : (judgeModes s).tables = s.tables :=
  tables_of_outsideGrants ((eachSide_view outsideGrants _ outsideGrants_judgeRakeMode _).trans
    (eachPump_view outsideGrants _ outsideGrants_judgePumpMode s))

theorem judgeModes_hand (h : s.automatic = false) :
    (∀ p, ((judgeModes s).pump p).state = .hand) ∧ ∀ r, ((judgeModes s).rake r).state = .hand := by
  have hauto : (eachPump judgePumpMode s).automatic = false :=
    (automatic_of_outsideGrants (eachPump_view outsideGrants _ outsideGrants_judgePumpMode s)).trans h
  refine ⟨fun p => ?_, rakeState_eachSide_judgeRakeMode_hand hauto⟩
  have hpump : (judgeModes s).pump p = (eachPump judgePumpMode s).pump p :=
    eachSide_view (fun u : State => u.pump p) _ (fun y u => pump_judgeRakeMode y u p) _
  rw [hpump]
  exact pumpState_eachPump_judgePumpMode_hand h p

/-! ### The station's mode (R174, R175) -/

/-- Where every drive is in HAND, the modes are true once the settling timer runs in SETTLING alone. -/
theorem modesTrue_of_hand (hpumps : ∀ p, (s.pump p).state = .hand) (hrakes : ∀ r, (s.rake r).state = .hand)
    (hsettling : s.tables.settling.isSome = true ↔ s.tables.mode = .settling) : ModesTrue s where
  settling := hsettling
  hand _ := ⟨hpumps, hrakes⟩
  starting p q hp := by rw [hpumps p] at hp; cases hp

/-- The station's mode taken from its place, the settling timer stopped. -/
def setMode (m : StationMode) (s : State) : State :=
  { s with tables := { s.tables with mode := m, settling := none } }

theorem drivesKept_judgeModes_standby (s : State) : DrivesKept s (judgeModes (setMode .standby s)) where
  run hrun := (drivesKept_judgeModes _).run (s := setMode .standby s) hrun
  modes _ := by
    obtain ⟨hpumps, hrakes⟩ := judgeModes_hand (s := setMode .standby s) rfl
    refine modesTrue_of_hand hpumps hrakes ?_
    rw [tables_judgeModes]
    simp [setMode]

theorem driveStates_setArbiter (x : Arbiter) (s : State) : driveStates { s with arbiter := x } = driveStates s := rfl

theorem drivesKept_leaveForStandby (s : State) : DrivesKept s (leaveForStandby s) :=
  ((drivesKept_judgeModes_standby s).then_states (driveStates_stopPowerReturn _)).then_states
    (driveStates_setArbiter _ _)

theorem lawsKept_toStandby (s : State) : LawsKept s (toStandby s).2 := by
  refine LawsKept.trans (t := { s with tables := { s.tables with wanted := .standby } }) (.of_view rfl) ?_
  unfold toStandby
  dsimp only
  split
  · exact lawsKept_finishDrives (drivesKept_leaveForStandby _)
  · exact .refl _

/-- A station not past STANDBY enters SETTLING with every drive still in HAND. -/
theorem lawsKept_enterSettling (h : s.pastStandby = false) : LawsKept s (enterSettling s) := by
  have hstandby : s.tables.mode = .standby := by simpa [State.pastStandby] using h
  refine ⟨fun hs hrun => ⟨hs, hrun⟩, fun hm => ?_⟩
  obtain ⟨hp, hr⟩ := hm.hand (by rw [State.automatic, hstandby]; rfl)
  exact modesTrue_of_hand hp hr ⟨fun _ => rfl, fun _ => rfl⟩

theorem lawsKept_toAutomatic (s : State) : LawsKept s (toAutomatic s).2 := by
  unfold toAutomatic
  split
  · exact .refl s
  · next h =>
    split
    · exact .refl s
    · refine LawsKept.trans (t := { s with tables := { s.tables with wanted := .automatic } }) (.of_view rfl) ?_
      exact lawsKept_enterSettling (Bool.eq_false_iff.mpr h)

/-- Entering AUTOMATIC takes no state of a drive. -/
theorem drivesKept_setAutomatic (s : State) : DrivesKept s (setMode .automatic s) where
  run := id
  modes h := {
    settling := by simp [setMode]
    hand := fun hauto => absurd hauto (by simp [State.automatic, setMode])
    starting := h.starting }

theorem lawsKept_enterAutomatic (s : State) : LawsKept s (enterAutomatic s) :=
  lawsKept_finishDrives ((((drivesKept_setAutomatic s).trans (drivesKept_judgeModes _)).trans
    (drivesKept_shedCheck _)).then_states (driveStates_startPowerReturn _))

/-! ### Requests (R166 to R178) -/

/-- An answer takes nothing of the state it is given with. -/
theorem lawsKept_answered (a : Answer) (h : LawsKept s t) : LawsKept s (a, t).2 := h

theorem lawsKept_finishAlarms (h : slotView t = slotView s) : LawsKept s (finishAlarms t) :=
  .of_view ((slotView_finishAlarms t).trans h)

/-- A drive judged afresh after a change of its record that leaves its state. -/
theorem drivesKept_judgePumpMode_setPump {w : PumpRec} (h : w.state = (s.pump p).state) :
    DrivesKept s (judgePumpMode p (s.setPump p w)) :=
  (DrivesKept.of_states (driveStates_setPump h)).trans (drivesKept_judgePumpMode p _)

theorem drivesKept_judgeRakeMode_setRake {w : RakeRec} (h : w.state = (s.rake r).state) :
    DrivesKept s (judgeRakeMode r (s.setRake r w)) :=
  (DrivesKept.of_states (driveStates_setRake h)).trans (drivesKept_judgeRakeMode r _)

theorem lawsKept_driveModeSet (d : Drive) (m : Mode) (s : State) : LawsKept s (driveModeSet d m s).2 := by
  unfold driveModeSet
  cases d with
  | pump p =>
    dsimp only
    split
    · exact lawsKept_answered _ (lawsKept_finishDrives (drivesKept_judgePumpMode_setPump rfl))
    · exact .refl s
  | rake r =>
    dsimp only
    split
    · exact lawsKept_answered _ (lawsKept_finishDrives (drivesKept_judgeRakeMode_setRake rfl))
    · exact .refl s

theorem lawsKept_doSetDriveMode (d m : Byte) (s : State) : LawsKept s (doSetDriveMode d m s).2 := by
  unfold doSetDriveMode
  split
  · exact lawsKept_driveModeSet ..
  · exact .refl s

theorem lawsKept_doResetDrive (d : Byte) (s : State) : LawsKept s (doResetDrive d s).2 := by
  unfold doResetDrive
  split
  · exact .refl s
  · next p _ =>
    split
    · exact LawsKept.ite fun _ => lawsKept_finishDrives (drivesKept_resetPump p s)
    · exact .refl s
  · next r _ =>
    split
    · exact lawsKept_answered _ (lawsKept_finishDrives (drivesKept_resetRake r s))
    · exact .refl s

theorem lawsKept_doRakeNow (d : Byte) (s : State) : LawsKept s (doRakeNow d s).2 := by
  unfold doRakeNow
  split
  · exact .refl s
  · next r _ =>
    split
    · split
      · exact .refl s
      · exact lawsKept_answered _ (lawsKept_finishDrives (drivesKept_giveRequest r s))
    · exact .refl s

theorem lawsKept_doForcePoint (n : Byte) (v : BitVec 16) (s : State) : LawsKept s (doForcePoint n v s).2 := by
  unfold doForcePoint
  split
  · exact .refl s
  · split
    · exact .refl s
    · exact lawsKept_answered _ (lawsKept_finishDrives (drivesKept_changePoint ..))

theorem lawsKept_doReleasePoint (n : Byte) (s : State) : LawsKept s (doReleasePoint n s).2 := by
  unfold doReleasePoint
  split
  · exact .refl s
  · split
    · exact .refl s
    · exact lawsKept_answered _ (lawsKept_finishDrives (drivesKept_releaseForce ..))

theorem slotView_ackEntry (n : Nat) (s : State) : slotView (ackEntry n s) = slotView s :=
  slotView_of_outsideAlarms (outsideAlarms_ackEntry n s)

theorem lawsKept_doAckAlarm (n : Byte) (s : State) : LawsKept s (doAckAlarm n s).2 := by
  have slotView_acked : ∀ u n, slotView (ackEntry n u) = slotView u := fun u n => slotView_ackEntry n u
  unfold doAckAlarm
  split
  · exact .refl s
  · split
    · exact lawsKept_answered _ (lawsKept_finishAlarms (foldl_view slotView _ slotView_acked alarmNumbers s))
    · exact lawsKept_answered _ (lawsKept_finishAlarms (slotView_ackEntry _ s))

theorem lawsKept_doCollectSpill (n : BitVec 16) (s : State) : LawsKept s (doCollectSpill n s).2 := by
  have hcollect : slotView (collectSpill n.toNat s).2 = slotView s := by
    unfold collectSpill collected
    split
    · rfl
    · split
      · rfl
      · exact slotView_stateCondition ..
      · exact (slotView_stateCondition ..).trans rfl
  unfold doCollectSpill
  split
  · exact .refl s
  · exact lawsKept_answered _ (lawsKept_finishAlarms hcollect)

theorem lawsKept_doTableBegin (i n : Byte) (s : State) : LawsKept s (doTableBegin i n s).2 := by
  unfold doTableBegin
  split
  · exact .refl s
  · split
    · exact .of_view rfl
    · exact .refl s

theorem lawsKept_doTableSegment (i n : Byte) (d : List Byte) (s : State) :
    LawsKept s (doTableSegment i n d s).2 := by
  unfold doTableSegment
  split
  · exact .refl s
  · split
    · split
      · exact .of_view rfl
      · exact .refl s
    · exact .refl s

theorem lawsKept_doTableAbandon (i : Byte) (s : State) : LawsKept s (doTableAbandon i s).2 := by
  unfold doTableAbandon
  split
  · exact .refl s
  · exact .of_view rfl

theorem driveStates_setShadow (x : TableId) (w : Shadow) (s : State) :
    driveStates (setShadow x w s) = driveStates s := rfl

theorem lawsKept_commitPassed (x : TableId) (m : Method) (gs : List (List Byte)) (s : State) :
    LawsKept s (commitPassed x m gs s).2 := by
  unfold commitPassed
  exact lawsKept_answered _ (lawsKept_finishDrives
    ((DrivesKept.of_states (driveStates_setShadow x _ s)).trans (drivesKept_activateIf _ _ _)))

theorem lawsKept_commitImage (x : TableId) (m : Method) (gs : List (List Byte)) (c : BitVec 16) (s : State) :
    LawsKept s (commitImage x m gs c s).2 := by
  unfold commitImage
  dsimp only
  split
  · exact .refl s
  · split
    · exact .refl s
    · exact lawsKept_commitPassed ..

theorem lawsKept_doTableCommit (i m : Byte) (c : BitVec 16) (s : State) : LawsKept s (doTableCommit i m c s).2 := by
  unfold doTableCommit
  split
  · split
    · split
      · exact .refl s
      · split
        · exact .refl s
        · exact lawsKept_commitImage ..
    · exact .refl s
  · exact .refl s

theorem lawsKept_doSetStationMode (m : Byte) (s : State) : LawsKept s (doSetStationMode m s).2 := by
  unfold doSetStationMode
  split
  · exact lawsKept_toStandby s
  · exact lawsKept_toAutomatic s
  · exact .refl s

theorem slotView_clearCounters (s : State) : slotView (clearCounters s) = slotView s := rfl

theorem lawsKept_markRestart (s : State) : LawsKept s (markRestart s) := by
  unfold markRestart
  split
  · exact .refl s
  · exact .of_view rfl

theorem slotView_setSilence (s : State) :
    slotView { s with alarms := { s.alarms with silence := true } } = slotView s := rfl

/-- A request carried out keeps the laws (R166). -/
theorem lawsKept_carryOut (x : Request) (s : State) : LawsKept s (carryOut x s).2 := by
  cases x
  case setDriveMode d m => exact lawsKept_doSetDriveMode d m s
  case resetDrive d => exact lawsKept_doResetDrive d s
  case rakeNow d => exact lawsKept_doRakeNow d s
  case forcePoint n v => exact lawsKept_doForcePoint n v s
  case releasePoint n => exact lawsKept_doReleasePoint n s
  case ackAlarm n => exact lawsKept_doAckAlarm n s
  case silence => exact lawsKept_answered _ (lawsKept_finishAlarms (slotView_setSilence s))
  case collectSpill n => exact lawsKept_doCollectSpill n s
  case tableBegin i n => exact lawsKept_doTableBegin i n s
  case tableSegment i n d => exact lawsKept_doTableSegment i n d s
  case tableCommit i m c => exact lawsKept_doTableCommit i m c s
  case tableAbandon i => exact lawsKept_doTableAbandon i s
  case setStationMode m => exact lawsKept_doSetStationMode m s
  case clearCounters => exact lawsKept_answered _ (.of_view (slotView_clearCounters s))
  case restart => exact lawsKept_answered _ (lawsKept_markRestart s)
  all_goals exact .refl s

theorem slotView_respond (src code tag : Byte) (restart : Bool) (a : Answer) (s : State) :
    slotView (respond src code tag restart a s) = slotView s := by
  unfold respond countStatus
  split <;> rfl

theorem lawsKept_intake (src : Byte) (payload : List Byte) (s : State) : LawsKept s (intake src payload s) := by
  have hrespond : ∀ code tag restart a, LawsKept s (respond src code tag restart a s) := fun _ _ _ _ =>
    .of_view (slotView_respond ..)
  have hreadable : ∀ code tag held need ps, LawsKept s (judgeReadable src code tag held need ps s) :=
    fun code tag held need ps => by
      unfold judgeReadable
      dsimp only
      split
      · exact hrespond ..
      · split
        · exact hrespond ..
        · exact (lawsKept_carryOut _ s).trans (.of_view (slotView_respond ..))
  have hrequest : ∀ held, LawsKept s (takeRequest src held payload s) := fun held => by
    unfold takeRequest
    split
    · exact hrespond ..
    · exact hrespond ..
    · split
      · exact hrespond ..
      · exact hreadable ..
  unfold intake
  split
  · exact .of_view rfl
  · split
    · exact .of_view rfl
    · exact hrequest _

end Sys2Proof.Proofs
end

section
/-! PROOF. Every step keeps the law of the slot record, the run order and the modes true: frames received, starts and
every other command (R76, R77, R86, R96, R125, R174). -/

namespace Sys2Proof.Proofs

open Sys2Proof.Machine Sys2Proof.Safety Sys2Proof.Laws

variable {s t u b : State} {p q : Pump} {r : Side}

/-! ### A frame received (R17 to R23) -/

theorem slotView_countContent (s : State) : slotView (countContent s) = slotView s := rfl

theorem lawsKept_takeSample (f : Frame) (s : State) : LawsKept s (takeSample f s) := by
  have hpairs : LawsKept s (finishDrives ((samplePairs f.payload).foldl (takePair f.src) s)) :=
    lawsKept_finishDrives (drivesKept_foldl (fun u x => drivesKept_takePair f.src u x) _ s)
  unfold takeSample
  dsimp only
  split
  · split
    · exact hpairs
    · exact hpairs.trans (lawsKept_forward f _)
  · exact (LawsKept.of_view (slotView_countContent s)).trans (lawsKept_forward f _)

theorem lawsKept_judgeCommand (f : Frame) (s : State) : LawsKept s (judgeCommand f s) := by
  unfold judgeCommand
  split
  · exact (LawsKept.of_view (slotView_countContent s)).trans (lawsKept_forward f _)
  · split
    · exact lawsKept_forward f s
    · split
      · exact .of_view rfl
      · exact lawsKept_forward f s

theorem slotView_setClock (n : Nat) (s : State) : slotView (setClock n s) = slotView s := by
  have hweir : ∀ w u, slotView (weirClockSet w u) = slotView u := fun w u => by
    unfold weirClockSet
    dsimp only
    split <;> rfl
  exact (eachWeir_view slotView weirClockSet hweir _).trans rfl

theorem lawsKept_takeTime (f : Frame) (s : State) : LawsKept s (takeTime f s) := by
  unfold takeTime
  split
  · exact .of_view (slotView_setClock _ s)
  · exact .of_view rfl
  · exact .of_view rfl
  · exact .of_view rfl

theorem lawsKept_classifyKind (f : Frame) (s : State) : LawsKept s (classifyKind f s) := by
  unfold classifyKind
  dsimp only
  split
  · exact lawsKept_takeSample f s
  · split
    · exact lawsKept_forward f s
    · exact lawsKept_judgeCommand f s
  · split
    · exact lawsKept_intake ..
    · exact lawsKept_forward f s
  · split
    · exact lawsKept_takeTime f s
    · split
      · exact (lawsKept_takeTime f s).trans (lawsKept_forward f _)
      · exact lawsKept_forward f s
  all_goals exact lawsKept_forward f s

theorem lawsKept_classify (f : Frame) (s : State) : LawsKept s (classify f s) := by
  unfold classify
  split
  · exact lawsKept_finishDrives (drivesKept_ownReturned f s)
  · split
    · exact .of_view rfl
    · exact lawsKept_classifyKind f s

/-! ### Starts (R176) -/

theorem driveStates_start (addr : Byte) (rate : BitVec 2) (s : State) :
    driveStates (start addr rate s) = driveStates (startMode (startBlocks (startBase addr rate s))) :=
  driveStates_of_startKept (startKept_start addr rate s)

/-- The drives as a start leaves them: every one in HAND, the run order empty. -/
theorem start_hand (addr : Byte) (rate : BitVec 2) (s : State) :
    (∀ p, ((start addr rate s).pump p).state = .hand) ∧ (∀ r, ((start addr rate s).rake r).state = .hand) ∧
      (start addr rate s).seq.run = [] := by
  have hstates := driveStates_start addr rate s
  rw [startMode_frame] at hstates
  exact ⟨fun p => (pumpState_of_driveStates hstates p).trans (by cases p <;> rfl),
    fun r => (rakeState_of_driveStates hstates r).trans (by cases r <;> rfl), run_of_driveStates hstates⟩

/-- Drives that all stand in HAND hold no grant. -/
theorem slotLaw_of_hand (hpumps : ∀ p, (s.pump p).state = .hand) (hrakes : ∀ r, (s.rake r).state = .hand) :
    SlotLaw s :=
  .inl (grants_eq_zero_iff.mpr fun d => by
    cases d with
    | pump p => rw [holdsGrant, hpumps]; rfl
    | rake r => rw [holdsGrant, hrakes]; rfl)

theorem runOrderTrue_of_hand (hpumps : ∀ p, (s.pump p).state = .hand) (hrun : s.seq.run = []) : RunOrderTrue s := by
  unfold RunOrderTrue
  rw [hrun]
  exact ⟨List.nodup_nil, fun p => by simp [hpumps p]⟩

theorem settling_start (addr : Byte) (rate : BitVec 2) (s : State) :
    (start addr rate s).tables.settling.isSome = true ↔ (start addr rate s).tables.mode = .settling := by
  obtain ⟨-, -, -, -, hmode, hsettling⟩ := (restored_startBase addr rate s).fresh
  rw [(fromBlocks_start addr rate s).tables]
  unfold startMode enterSettling
  split
  · simp
  · change (startBase addr rate s).tables.settling.isSome = true ↔ (startBase addr rate s).tables.mode = .settling
    simp [hmode, hsettling]

theorem lawsKept_start (addr : Byte) (rate : BitVec 2) (s u : State) : LawsKept s (start addr rate u) := by
  obtain ⟨hpumps, hrakes, hrun⟩ := start_hand addr rate u
  exact ⟨fun _ _ => ⟨slotLaw_of_hand hpumps hrakes, runOrderTrue_of_hand hpumps hrun⟩,
    fun _ => modesTrue_of_hand hpumps hrakes (settling_start addr rate u)⟩

/-! ### Every command -/

theorem slotView_completeWrite (agrees : Bool) (s : State) : slotView (completeWrite agrees s) = slotView s := by
  have hwrite : ∀ u, slotView (startWrite u) = slotView u := fun u => by
    unfold startWrite
    split <;> rfl
  unfold completeWrite
  split
  · rfl
  · dsimp only
    split
    · exact (hwrite _).trans rfl
    · exact (slotView_stateCondition ..).trans ((congrArg slotView rfl).trans ((hwrite _).trans rfl))

theorem slotView_repeatAlarm (n : Nat) (s : State) : slotView (repeatAlarm n s) = slotView s := rfl

theorem driveStates_formRecord (s : State) : driveStates (formRecord s) = driveStates s := rfl

theorem lawsKept_holdInReleased (h : exec .holdInReleased s = .next t) : LawsKept s t := by
  cases h
  split
  · exact lawsKept_finishAlarms ((slotView_stateCondition ..).trans rfl)
  · exact .of_view rfl

/-- A command that is neither a request nor a start keeps the laws. -/
theorem lawsKept_exec_event {c : Instr} (hreq : requestOf c = none)
    (hup : ∀ a r b, c ≠ .powerUp a r b) (hrel : ∀ a r, c ≠ .resetRelease a r)
    (hbegin : ∀ a r, c ≠ .restartBegin a r) (h : exec c s = .next t) : LawsKept s t := by
  have hdrives : ∀ {c : Prop} [Decidable c] {u : State}, DrivesKept s u →
      LawsKept s (if c then finishDrives u else s) := fun hu => LawsKept.ite fun _ => lawsKept_finishDrives hu
  cases c
  case powerUp => exact absurd rfl (hup _ _ _)
  case resetRelease => exact absurd rfl (hrel _ _)
  case restartBegin => exact absurd rfl (hbegin _ _)
  case characterReceived d e => cases h; exact lawsKept_onLoop (onLoop_characterReceived d e s)
  case characterError e =>
    cases h
    cases e
    · exact lawsKept_onLoop (onLoop_characterError _ s _)
    · exact lawsKept_onLoop (onLoop_characterError _ s _)
  case gapTimerExpiry =>
    cases h
    exact LawsKept.ite fun _ => .of_view (by rw [gapReached_eq]; rfl)
  case frameReceived f =>
    change execFrameReceived f s = _ at h
    unfold execFrameReceived at h
    split at h
    · cases h
      exact LawsKept.ite fun _ => (lawsKept_onLoop ((onLoop_takeHanded f s).trans (onLoop_countCompleted _))).trans
        (lawsKept_classify f _)
    · cases h
  case strobeEnd => cases h; exact LawsKept.ite fun _ => .of_view rfl
  case transmitStart => cases h; exact LawsKept.ite fun _ => lawsKept_startOffer s
  case frameSent => cases h; exact LawsKept.ite fun _ => lawsKept_frameSent s
  case holdInAsserted => cases h; exact .of_view rfl
  case holdInReleased => exact lawsKept_holdInReleased h
  case stallTimerExpiry =>
    cases h
    exact LawsKept.ite fun _ => lawsKept_finishAlarms ((slotView_stateCondition ..).trans rfl)
  case breakDetected => cases h; exact LawsKept.ite fun _ => lawsKept_cutOff s
  case loopReset => cases h; exact LawsKept.ite fun _ => .of_view rfl
  case breakEnd => cases h; exact LawsKept.ite fun _ => lawsKept_breakEnded s
  case loopHealthTimerExpiry => cases h; exact LawsKept.ite fun _ => .of_view rfl
  case lapTimeout => cases h; exact hdrives (drivesKept_lapTimedOut s)
  case pointSecondTimerExpiry => cases h; exact hdrives (drivesKept_pointSecond s)
  case balanceUpdate o =>
    cases h
    exact hdrives (((drivesKept_activateAll .nextPeriod s).then_states (driveStates_formRecord _)).trans
      (drivesKept_deliverRecord o _))
  case staggerTimerExpiry => cases h; exact hdrives (.of_states (driveStates_setArbiter _ s))
  case powerReturnTimerExpiry => cases h; exact hdrives (.of_states (driveStates_setArbiter _ s))
  case startConfirmExpiry p => cases h; exact hdrives (drivesKept_startConfirmExpired p s)
  case stopConfirmExpiry p => cases h; exact hdrives (drivesKept_stopConfirmExpired p s)
  case overcurrentTimerExpiry p => cases h; exact hdrives (drivesKept_overcurrentReached p s)
  case travelTimerExpiry r => cases h; exact hdrives (drivesKept_travelExpired r s)
  case jamCurrentTimerExpiry r => cases h; exact hdrives (drivesKept_jamCurrentReached r s)
  case reverseTimerExpiry r => cases h; exact hdrives (drivesKept_reverseExpired r s)
  case renotifyTimerExpiry n =>
    cases h
    exact LawsKept.ite fun _ => .of_view ((slotView_flushNotices _).trans (slotView_repeatAlarm n s))
  case summaryTimerExpiry => cases h; exact LawsKept.ite fun _ => .of_view ((slotView_flushNotices _).trans rfl)
  case settlingTimerExpiry => cases h; exact LawsKept.ite fun _ => lawsKept_enterAutomatic s
  case writeCompletion b =>
    cases h
    exact LawsKept.ite fun _ => lawsKept_finishAlarms (slotView_completeWrite b s)
  case runningSeconds => cases h; exact .of_view rfl
  case resetAsserted => cases h; exact .of_view rfl
  case mainPowerLost => cases h; exact .of_view rfl
  all_goals cases hreq

theorem lawsKept_exec {c : Instr} (h : exec c s = .next t) : LawsKept s t := by
  cases hreq : requestOf c with
  | some x =>
    obtain ⟨src, tag, x⟩ := x
    rw [exec_request hreq] at h
    cases h
    exact LawsKept.ite fun _ => lawsKept_intake ..
  | none =>
    by_cases hstart : ∃ addr rate, StartsWith c addr rate
    · obtain ⟨addr, rate, ⟨held, rfl⟩ | rfl | rfl⟩ := hstart
      · simp only [exec, execPowerUp, Host.Outcome.next.injEq] at h
        split at h
        · exact h ▸ .of_view rfl
        · exact h ▸ lawsKept_start addr rate s _
      · simp only [exec, execResetRelease, Host.Outcome.next.injEq] at h
        split at h
        · exact h ▸ lawsKept_start addr rate s _
        · exact h ▸ .of_view rfl
      · simp only [exec, execRestartBegin, Host.Outcome.next.injEq] at h
        split at h
        · exact h ▸ lawsKept_start addr rate s _
        · exact h ▸ .refl s
    · refine lawsKept_exec_event hreq ?_ ?_ ?_ h
      · exact fun a r b hc => hstart ⟨a, r, .inl ⟨b, hc⟩⟩
      · exact fun a r hc => hstart ⟨a, r, .inr (.inl hc)⟩
      · exact fun a r hc => hstart ⟨a, r, .inr (.inr hc)⟩

theorem slotView_setPending (l : List Instr) (s : State) : slotView { s with pending := l } = slotView s := rfl

theorem lawsKept_step (h : step s = .next t) : LawsKept s t := by
  unfold step at h
  split at h
  · cases h
    exact .of_view rfl
  · exact (LawsKept.of_view (slotView_setPending _ s)).trans (lawsKept_exec h)

/-- Settles O55, by what each operation within an event keeps of the run order (`DrivesKept`) and by the settling of
the drives that ends it, which meets the law of the slot record anew (`slotLaw_settleDrives`). -/
theorem everyStepKeepsTheSlotLaw : Obligations.EveryStepKeepsTheSlotLaw :=
  fun _ _ hslots hrun h => (lawsKept_step h).slots hslots hrun

/-- Settles O57, by what each operation within an event keeps of the modes (`DrivesKept`), and by the commands that
change the station's mode, which leave every drive in HAND or find it there. -/
theorem everyStepKeepsTheModesTrue : Obligations.EveryStepKeepsTheModesTrue :=
  fun _ _ hmodes h => (lawsKept_step h).modes hmodes

end Sys2Proof.Proofs
end

section
/-! SUPPORT. What a start, a stop, a trip and a rake's grant leave of the drive's record, of the orders, of the arbiter
and of the command posted (R91 to R93, R96, R117, R126). -/

namespace Sys2Proof.Proofs

open Sys2Proof.Machine Sys2Proof.Safety Sys2Proof.Laws

variable {s t u : State} {p q : Pump} {r : Side} {a : Actuator} {c : CommandCode}

/-! ### Commands posted (R26) -/

/-- Work on another drive leaves what is posted for one. -/
theorem PostsFor.posted {d : Actuator} (h : PostsFor d s t) (ha : a ≠ d) (hg : t.transit.gate = s.transit.gate)
    (hs : Posted s a c) : Posted t a c := posted_congr (h.others a ha) hg hs

theorem posted_of_transit (h : t.transit = s.transit) (hs : Posted s a c) : Posted t a c :=
  posted_congr (by rw [commandsFor, h, commandsFor]) (by rw [h]) hs

theorem posted_finishAlarms (ha : a ≠ .annunciator) (hs : Posted s a c) : Posted (finishAlarms s) a c :=
  posted_congr (commandsFor_finishAlarms ha s) (gate_of_outsideDrives (outsideDrives_finishAlarms s)) hs

theorem seq_postPump (p : Pump) (c : CommandCode) (s : State) :
    (postPump p c s).seq = (s.setPump p { s.pump p with command := c, confirmed := false }).seq := by
  simp [postPump]

theorem seq_postRake (r : Side) (c : CommandCode) (s : State) : (postRake r c s).seq = s.seq := by
  simp [postRake]

theorem arbiter_postCommand (a : Actuator) (c : CommandCode) (g : Byte) (n : Option Nat) (s : State) :
    (postCommand a c g n s).arbiter = s.arbiter := by
  have h := congrArg State.arbiter (startKept_postCommand a c g n s)
  exact h

theorem arbiter_postRake (r : Side) (c : CommandCode) (s : State) : (postRake r c s).arbiter = s.arbiter :=
  arbiter_postCommand ..

theorem chip_postPump (p : Pump) (c : CommandCode) (s : State) : (postPump p c s).chip = s.chip :=
  chip_of_outsideDrives (outsideDrives_of_outsideGrants (outsideGrants_postPump p c s))

theorem arbiter_ended (u : State) : (ended u).arbiter = (settleDrives u).arbiter :=
  (annunciatorJudged_finishAlarms _).arbiter

theorem posted_ended (ha : a ≠ .annunciator) (hs : Posted (settleDrives u) a c) : Posted (ended u) a c :=
  posted_finishAlarms ha hs

theorem sourceAction_of_tables (h : t.tables = s.tables) : t.sourceAction p = s.sourceAction p := by
  funext f
  unfold State.sourceAction
  cases f <;> simp [State.sourceSetting, State.pumpEntry, State.pumpTable, h]

/-! ### A pump started (R91, R92) -/

/-- A pump's record at a start, RUN posted (R91). -/
def startedRecord (p : Pump) (s : State) : PumpRec :=
  { s.pump p with
    state := .starting
    history := pushHistory (s.pump p).history s.clock.running
    startConfirm := some s.now
    command := .run
    confirmed := false }

/-- A pump in STARTING with RUN posted, its feedback not yet judged (R91). -/
def startPosted (p : Pump) (s : State) : State :=
  postPump p .run (s.setPump p
    { s.pump p with
      state := .starting
      history := pushHistory (s.pump p).history s.clock.running
      startConfirm := some s.now })

theorem outsideGrants_startPosted (p : Pump) (s : State) : outsideGrants (startPosted p s) = outsideGrants s :=
  (outsideGrants_postPump ..).trans (outsideGrants_setPump _ _ _ rfl)

theorem startPump_eq (p : Pump) (s : State) :
    startPump p s = if s.feedbackActive p then enterRunning p (startPosted p s) else startPosted p s := by
  rw [← feedbackActive_of_outsideGrants (outsideGrants_startPosted p s)]
  rfl

theorem pump_startPosted (p : Pump) (s : State) : (startPosted p s).pump p = startedRecord p s := by
  rw [startPosted, pump_postPump, if_pos rfl, State.pump_setPump_same]
  rfl

theorem run_startPosted (p : Pump) (s : State) : (startPosted p s).seq.run = s.seq.run := by
  rw [startPosted, seq_postPump]
  rfl

theorem now_startPosted (p : Pump) (s : State) : (startPosted p s).now = s.now := now_congr (chip_postPump ..)

theorem posted_startPosted (p : Pump) (s : State) : Posted (startPosted p s) (.pump p) .run := posted_postPump _ _ _

theorem posted_startPump (p : Pump) (s : State) : Posted (startPump p s) (.pump p) .run := by
  rw [startPump_eq]
  split
  · exact posted_of_transit rfl (posted_startPosted p s)
  · exact posted_startPosted p s

theorem pump_enterRunning (p : Pump) (s : State) : (enterRunning p s).pump p =
    { s.pump p with state := .running, startConfirm := none, minRun := some s.now } :=
  (pump_joinRunOrder ..).trans (State.pump_setPump_same ..)

theorem length_pushHistory {l : List Nat} (h : l.length ≤ 12) (n : Nat) :
    (pushHistory l n).length = min 12 (l.length + 1) := by
  unfold pushHistory
  split
  · simp
    omega
  · simp
    omega

theorem getLast_pushHistory (l : List Nat) (n : Nat) : (pushHistory l n).getLast? = some n := by
  unfold pushHistory
  split <;> simp

/-! ### A latch that inhibits starting (R117) -/

/-- A pump's record as a latch takes it to TRIPPED, STOP posted (R117). -/
def trippedRecord (w : PumpRec) : PumpRec :=
  { w with state := .tripped, minRun := none, startConfirm := none, stopConfirm := none,
           command := .stop, confirmed := false }

theorem pump_tripInhibited (h : (s.pump p).state = .idle) : (tripInhibited p s).pump p =
    if (s.pump p).latch.bind (s.sourceAction p) = some .inhibitStart then trippedRecord (s.pump p) else s.pump p := by
  have hrelease : releaseDrive p s = s := by rw [releaseDrive, h]
  unfold tripInhibited
  by_cases hlatch : (s.pump p).latch.bind (s.sourceAction p) = some .inhibitStart
  · rw [if_pos ⟨hlatch, h⟩, if_pos hlatch, protectTo, pump_postPump, if_pos rfl, hrelease, State.pump_setPump_same]
    rfl
  · rw [if_neg fun hc => hlatch hc.1, if_neg hlatch]

theorem run_tripInhibited_idle (h : (s.pump p).state = .idle) :
    (tripInhibited p s).seq.run = s.seq.run ∧ (tripInhibited p s).seq.duty = s.seq.duty := by
  have hrelease : releaseDrive p s = s := by rw [releaseDrive, h]
  unfold tripInhibited
  split
  · rw [protectTo, seq_postPump, hrelease]
    exact ⟨rfl, rfl⟩
  · exact ⟨rfl, rfl⟩

theorem posted_tripInhibited (h : Posted s (.pump p) .stop) : Posted (tripInhibited p s) (.pump p) .stop := by
  unfold tripInhibited
  split
  · exact posted_postPump _ _ _
  · exact h

/-! ### A pump stopped (R93) -/

/-- A pump in STOPPING with STOP posted, its feedback not yet judged (R93). -/
def stopPosted (p : Pump) (s : State) : State :=
  postPump p .stop ((releaseDrive p s).setPump p
    { (releaseDrive p s).pump p with
      state := .stopping, minRun := none, startConfirm := none, stopConfirm := some (releaseDrive p s).now })

theorem outsideGrants_stopPosted (p : Pump) (s : State) : outsideGrants (stopPosted p s) = outsideGrants s := by
  refine (outsideGrants_postPump ..).trans (Eq.trans ?_ (outsideGrants_releaseDrive p s))
  exact outsideGrants_setPump _ _ _ rfl

theorem now_of_outsideGrants (h : outsideGrants t = outsideGrants s) : t.now = s.now :=
  now_congr (chip_of_outsideDrives (outsideDrives_of_outsideGrants h))

theorem enterStopping_eq (p : Pump) (s : State) :
    enterStopping p s = if s.feedbackActive p then stopPosted p s else pumpStopped p (stopPosted p s) := by
  rw [← feedbackActive_of_outsideGrants (outsideGrants_stopPosted p s)]
  rfl

theorem pump_stopPosted (p : Pump) (s : State) : (stopPosted p s).pump p =
    { s.pump p with state := .stopping, minRun := none, startConfirm := none, stopConfirm := some s.now,
                    command := .stop, confirmed := false } := by
  have hnow : (releaseDrive p s).now = s.now := now_of_outsideGrants (outsideGrants_releaseDrive p s)
  rw [stopPosted, pump_postPump, if_pos rfl, State.pump_setPump_same, hnow, pump_releaseDrive]

theorem posted_stopPosted (p : Pump) (s : State) : Posted (stopPosted p s) (.pump p) .stop := posted_postPump _ _ _

theorem run_stopPosted (h : (s.pump p).state = .running) :
    (stopPosted p s).seq.run = s.seq.run.filter fun q => decide (q ≠ p) := by
  rw [stopPosted, seq_postPump]
  exact (run_releaseDrive_eq p s).trans (if_pos h)

theorem duty_releaseDrive (p : Pump) (s : State) : (releaseDrive p s).seq.duty = s.seq.duty := by
  unfold releaseDrive
  split <;> rfl

theorem duty_stopPosted (p : Pump) (s : State) : (stopPosted p s).seq.duty = s.seq.duty := by
  rw [stopPosted, seq_postPump]
  exact duty_releaseDrive p s

theorem run_pumpStopped (p : Pump) (s : State) : (pumpStopped p s).seq.run = s.seq.run :=
  (run_tripInhibited_idle (congrArg PumpRec.state (State.pump_setPump_same ..))).1

/-- What the confirmed stop of a pump leaves of its record: its minimum off timer started, STOP its command, in IDLE
or, by a latch that inhibits starting, in TRIPPED (R93, R117). -/
theorem pump_pumpStopped (p : Pump) (s : State) (h : (s.pump p).command = .stop) :
    ((pumpStopped p s).pump p).minOff = some s.now ∧ ((pumpStopped p s).pump p).command = .stop ∧
      ((pumpStopped p s).pump p).state =
        if (s.pump p).latch.bind (s.sourceAction p) = some .inhibitStart then .tripped else .idle := by
  have hpump : ∀ w, (toDutyTail p (s.setPump p w)).pump p = w := fun w => State.pump_setPump_same ..
  have hsource : ∀ w, (toDutyTail p (s.setPump p w)).sourceAction p = s.sourceAction p := fun w =>
    sourceAction_of_tables rfl
  rw [pumpStopped, pump_tripInhibited (by rw [hpump]), hpump, hsource]
  dsimp only
  split
  · exact ⟨rfl, rfl, rfl⟩
  · exact ⟨rfl, h, rfl⟩

theorem posted_pumpStopped (h : Posted s (.pump p) .stop) : Posted (pumpStopped p s) (.pump p) .stop :=
  posted_tripInhibited (posted_of_transit rfl h)

/-! ### A rake granted (R126, R128) -/

theorem rake_judgeJamTimer (r : Side) (s : State) :
    ∃ j, (judgeJamTimer r s).rake r = { s.rake r with jam := j } := by
  unfold judgeJamTimer
  dsimp only
  split_ifs
  · exact ⟨_, rfl⟩
  · exact ⟨_, State.rake_setRake_same ..⟩
  · exact ⟨_, State.rake_setRake_same ..⟩
  · exact ⟨_, rfl⟩

theorem transit_judgeJamTimer (r : Side) (s : State) : (judgeJamTimer r s).transit = s.transit := by
  unfold judgeJamTimer
  dsimp only
  split_ifs <;> rfl

theorem arbiter_judgeJamTimer (r : Side) (s : State) : (judgeJamTimer r s).arbiter = s.arbiter := by
  unfold judgeJamTimer
  dsimp only
  split_ifs <;> rfl

theorem rake_grantRake (r : Side) (s : State) : ∃ j, (grantRake r s).rake r =
    { (s.rake r).rest .raking with travel := some s.now, command := .run, confirmed := false, jam := j } := by
  obtain ⟨j, hj⟩ := rake_judgeJamTimer r (postRake r .run (setPreempt r false (s.setRake r
    { (s.rake r).rest .raking with travel := some s.now })))
  refine ⟨j, hj.trans ?_⟩
  rw [rake_postRake, if_pos rfl, rake_setPreempt, State.rake_setRake_same]

theorem posted_grantRake (r : Side) (s : State) : Posted (grantRake r s) (.rake r) .run :=
  posted_of_transit (transit_judgeJamTimer ..) (posted_postRake _ _ _)

theorem preempt_grantRake (r : Side) (s : State) : (grantRake r s).arbiter.preempt.get r = false := by
  rw [grantRake, arbiter_judgeJamTimer, arbiter_postRake]
  exact (Two.get_set _ _ _ _).trans (if_pos rfl)

end Sys2Proof.Proofs
end

section
/-! PROOF. The expiry of the stagger and of the power-return timer (R77 to R79, R81, R83, R91, R127, R128): the next
waiting pump starts; a waiting rake takes a free slot, or in urgent need the slot of a pump. -/

namespace Sys2Proof.Proofs

open Sys2Proof.Machine Sys2Proof.Safety Sys2Proof.Laws

variable {s t u v : State} {p q : Pump} {r y : Side} {c : Instr} {a : Arbiter}

/-! ### The expiry (R77, R78) -/

/-- The arbiter as the expiry `c` of a slot timer leaves it to the settling of the drives. -/
structure SlotTimerExpired (c : Instr) (s : State) (a : Arbiter) : Prop where
  exec : exec c s = .next (ended { s with arbiter := a })
  supply : a.supply = s.arbiter.supply
  preempt : a.preempt = s.arbiter.preempt
  staggerEnds : c = .staggerTimerExpiry → a.stagger = none
  staggerStands : s.arbiter.stagger = none → a.stagger = none
  powerReturns : c = .powerReturnTimerExpiry → a.powerReturn = .expired
  powerStands : s.powerReturned = true → a.powerReturn = .expired

theorem exists_slotTimerExpired (hon : s.on = true) (hs : Settled s)
    (hc : (c = .staggerTimerExpiry ∧ s.arbiter.stagger.isSome = true) ∨
      (c = .powerReturnTimerExpiry ∧ s.arbiter.powerReturn.isRunning = true)) :
    ∃ a, SlotTimerExpired c s a := by
  have hended : ∀ a : Arbiter, finishDrives { s with arbiter := a } = ended { s with arbiter := a } := fun a =>
    finishDrives_eq _ hs.quiet
  have hexpired : s.powerReturned = true → s.arbiter.powerReturn = .expired := fun h => by
    simpa [State.powerReturned] using h
  rcases hc with ⟨rfl, hruns⟩ | ⟨rfl, hruns⟩
  · refine ⟨{ s.arbiter with stagger := none }, ?_, rfl, rfl, fun _ => rfl, fun _ => rfl, by simp, hexpired⟩
    simp [exec, execStaggerTimerExpiry, hon, hruns, hended]
  · refine ⟨{ s.arbiter with powerReturn := .expired }, ?_, rfl, rfl, by simp, id, fun _ => rfl, fun _ => rfl⟩
    simp [exec, execPowerReturnTimerExpiry, hon, hruns, hended]

theorem SlotTimerExpired.capacity (h : SlotTimerExpired c s a) :
    ({ s with arbiter := a } : State).capacity = s.capacity := capacity_congr rfl h.supply

theorem SlotTimerExpired.freeSlots (h : SlotTimerExpired c s a) :
    ({ s with arbiter := a } : State).freeSlots = s.freeSlots := by
  rw [State.freeSlots, h.capacity]
  rfl

theorem SlotTimerExpired.overOccupied (h : SlotTimerExpired c s a) :
    ({ s with arbiter := a } : State).overOccupied = s.overOccupied := by
  rw [State.overOccupied, h.capacity]
  rfl

theorem SlotTimerExpired.settled (h : SlotTimerExpired c s a) (hover : s.overOccupied = false) :
    settleDrives { s with arbiter := a } = grantPass { s with arbiter := a } := by
  rw [settleDrives, shedCheck_eq (h.overOccupied.trans hover)]

theorem powerReturn_of_outsideGrants (h : outsideGrants t = outsideGrants s) :
    t.arbiter.powerReturn = s.arbiter.powerReturn := by
  have hp := congrArg (fun u : State => u.arbiter.powerReturn) h
  exact hp

/-! ### The next pump started (R77, R79, R91) -/

theorem foldl_fixed_of_mem {α : Type} {f : State → α → State} {as : List α} (hf : ∀ b ∈ as, f s b = s) :
    as.foldl f s = s := by
  induction as with
  | nil => rfl
  | cons b as ih => rw [List.foldl_cons, hf b List.mem_cons_self, ih fun b hb => hf b (List.mem_cons_of_mem _ hb)]

/-- With no rake waiting the grant pass is its pass over the duty order. -/
theorem grantPass_eq_duty (h : ∀ r, (s.rake r).state ≠ .waitSlot) :
    grantPass s = s.seq.duty.foldl (fun s p => grantCandidate p s) s := by
  have hurgent : eachSide grantUrgent s = s := foldl_fixed (fun r => by rw [grantUrgent, waiting_eq_false (h r)]; rfl) _
  have hrakes : ∀ r, ((s.seq.duty.foldl (fun s p => grantCandidate p s) s).rake r).state ≠ .waitSlot := fun r => by
    have hr : RakeStands r s (s.seq.duty.foldl (fun s p => grantCandidate p s) s) :=
      foldl_keeps (P := RakeStands r s) (fun u q hu => hu.trans (rakeStands_grantCandidate q u)) (.refl r s) _
    rw [hr.rake]
    exact h r
  rw [grantPass, hurgent]
  exact foldl_fixed (fun r => by rw [grantOther, waiting_eq_false (hrakes r)]; rfl) _

theorem grantCandidate_of_not_waiting (h : (s.pump p).state ≠ .startWait) : grantCandidate p s = s :=
  if_neg fun hc => h hc.1

/-- A pump started takes the start slot, in STARTING or by the stagger. -/
theorem startSlotOpen_startPump (p : Pump) (s : State) : (startPump p s).startSlotOpen = false := by
  rw [Bool.eq_false_iff]
  intro hopen
  obtain ⟨hnone, hstagger, -, -⟩ := startSlotOpen_iff.mp hopen
  rw [startPump_eq] at hnone hstagger
  split at hstagger
  · cases hstagger
  · next hf =>
    rw [if_neg hf] at hnone
    exact hnone p (congrArg PumpRec.state (pump_startPosted p s))

/-- The waiting pump that stands earliest in the duty order is all that the grant pass starts. -/
theorem grantPass_starts {before after : List Pump} (hrakes : ∀ r, (s.rake r).state ≠ .waitSlot)
    (hduty : s.seq.duty = before ++ p :: after) (hbefore : ∀ q ∈ before, (s.pump q).state ≠ .startWait)
    (hwait : (s.pump p).state = .startWait) (heligible : s.eligible p = true) (hfree : 0 < s.freeSlots)
    (hopen : s.startSlotOpen = true) : grantPass s = startPump p s := by
  have hstart : grantCandidate p s = startPump p s := by
    rw [grantCandidate, if_pos ⟨hwait, hopen, hfree⟩, if_pos heligible]
  have hclosed : ∀ q, grantCandidate q (startPump p s) = startPump p s := fun q =>
    if_neg fun hc => by rw [startSlotOpen_startPump] at hc; cases hc.2.1
  rw [grantPass_eq_duty hrakes, hduty, List.foldl_append,
    foldl_fixed_of_mem fun q hq => grantCandidate_of_not_waiting (hbefore q hq), List.foldl_cons, hstart,
    foldl_fixed hclosed]

/-! ### One rake waits (R79, R81) -/

/-- Work on A and B that leaves the other rake's turn without effect. -/
theorem eachSide_of_one {f : Side → State → State} (h : ∀ y, y ≠ r → f y s = s ∧ f y (f r s) = f r s) :
    eachSide f s = f r s := by
  cases r with
  | a => exact (h .b (by decide)).2
  | b => exact congrArg (f .b) (h .a (by decide)).1

theorem urgent_of_outsideGrants (h : outsideGrants t = outsideGrants s) (r : Side) : t.urgent r = s.urgent r :=
  congrArg ScreenRec.blinded (screen_of_outsideDrives (outsideDrives_of_outsideGrants h) r)

theorem not_startWait_grantUrgent (h : ∀ p, (s.pump p).state ≠ .startWait) (r : Side) (p : Pump) :
    ((grantUrgent r s).pump p).state ≠ .startWait := by
  have hshed : ∀ q, ((shedPump q s).pump p).state ≠ .startWait := fun q => by
    by_cases hq : p = q
    · subst hq
      unfold shedPump
      split
      · rcases stopped_enterStopping p s with hst | hst | hst <;> rw [hst] <;> decide
      · exact h p
    · rw [pump_shedPump_other hq]
      exact h p
  have hpreempt : ((preempt r s).pump p).state ≠ .startWait := by
    unfold preempt
    split
    · split
      · exact h p
      · exact hshed _
    · exact h p
  unfold grantUrgent grantIfFree
  split
  · split
    · rw [pump_grantRake]
      exact hpreempt
    · exact hpreempt
  · exact h p

/-- With one rake waiting and no pump, the grant pass is that rake's turn, after preemption where it is urgent. -/
theorem grantPass_one_rake (hwait : (s.rake r).state = .waitSlot) (hothers : ∀ y, y ≠ r → (s.rake y).state ≠ .waitSlot)
    (hpumps : ∀ p, (s.pump p).state ≠ .startWait) (hreturned : s.powerReturned = true) (hauto : s.automatic = true) :
    grantPass s = if s.urgent r then grantIfFree r (preempt r s) else grantIfFree r s := by
  have hturn : ∀ y, y ≠ r → ((grantUrgent r s).rake y).state ≠ .waitSlot := fun y hy => by
    rw [(rakeStands_grantUrgent (hothers y hy) r).rake]
    exact hothers y hy
  have hurgent : eachSide grantUrgent s = grantUrgent r s := eachSide_of_one fun y hy =>
    ⟨by rw [grantUrgent, waiting_eq_false (hothers y hy)]; rfl,
      if_neg (by rw [waiting_eq_false (hturn y hy)]; decide)⟩
  have hduty : (grantUrgent r s).seq.duty.foldl (fun s p => grantCandidate p s) (grantUrgent r s) = grantUrgent r s :=
    foldl_fixed (fun p => grantCandidate_of_not_waiting (not_startWait_grantUrgent hpumps r p)) _
  have hother : eachSide grantOther (grantUrgent r s) = grantOther r (grantUrgent r s) := eachSide_of_one fun y hy => by
    refine ⟨if_neg (by rw [waiting_eq_false (hturn y hy)]; decide), if_neg ?_⟩
    rw [waiting_eq_false]
    · decide
    · rw [(rakeStands_grantOther (hturn y hy) r).rake]
      exact hturn y hy
  rw [grantPass, hurgent]
  rw [hduty, hother]
  have hkept := urgent_of_outsideGrants (outsideGrants_grantUrgent r s) r
  cases hu : s.urgent r
  · have hstand : grantUrgent r s = s := if_neg (by simp [State.waiting, hu])
    rw [hstand, grantOther, if_pos (by simp [State.waiting, hwait, hu, hreturned, hauto])]
    rfl
  · rw [grantOther, if_neg (by simp [State.waiting, hkept, hu]), grantUrgent,
      if_pos (by simp [State.waiting, hwait, hu, hreturned, hauto])]
    rfl

theorem preempt_of_free (h : 0 < s.freeSlots) : preempt r s = s := if_neg fun hc => by omega

/-- A rake that is granted nothing and displaces no pump waits on. -/
theorem preempt_of_none (h : s.urgent r = false ∨ s.arbiter.preempt.get r = true ∨ s.seq.run = []) :
    s.urgent r = false ∨ preempt r s = s := by
  rcases h with h | h | h
  · exact .inl h
  · exact .inr (if_neg fun hc => by rw [h] at hc; cases hc.2)
  · refine .inr ?_
    unfold preempt
    split
    · rw [h]
      rfl
    · rfl

/-! ### The slot of the pump displaced (R76, R81) -/

theorem freeSlots_eq (s : State) : s.freeSlots = s.capacity - (allDrives.filter (occupies s)).length := by
  rw [State.freeSlots, occupancy_eq]

/-- The pump displaced keeps the slot as long as its feedback stays active. -/
theorem occupies_enterStopping (p : Pump) (s : State) (d : Drive) :
    occupies (enterStopping p s) d = if d = .pump p then s.feedbackActive p else occupies s d := by
  have hrunning := running_of_outsideGrants (outsideGrants_enterStopping p s)
  rw [occupies, hrunning]
  split
  · next hd =>
    subst hd
    have hheld : holdsGrant (enterStopping p s) (.pump p) = false := not_granted_of_stopped (stopped_enterStopping p s)
    rw [hheld]
    rfl
  · next hd =>
    cases d with
    | pump q =>
      rw [holdsGrant, pump_enterStopping_other (by simpa using hd)]
      rfl
    | rake y =>
      rw [holdsGrant, rake_enterStopping]
      rfl

theorem freeSlots_setPreempt (r : Side) (b : Bool) (s : State) : (setPreempt r b s).freeSlots = s.freeSlots := rfl

theorem capacity_enterStopping (p : Pump) (s : State) : (enterStopping p s).capacity = s.capacity :=
  capacity_of_outsideGrants (outsideGrants_enterStopping p s)

theorem freeSlots_enterStopping_active (hrunning : (s.pump p).state = .running) (hf : s.feedbackActive p = true) :
    (enterStopping p s).freeSlots = s.freeSlots := by
  have hoccupies : occupies (enterStopping p s) = occupies s := by
    funext d
    rw [occupies_enterStopping]
    split
    · next hd => rw [hf, hd, occupies, holdsGrant, hrunning]; rfl
    · rfl
  rw [freeSlots_eq, freeSlots_eq, hoccupies, capacity_enterStopping]

theorem freeSlots_enterStopping_inactive (hrunning : (s.pump p).state = .running) (hf : s.feedbackActive p = false)
    (hover : s.overOccupied = false) : 0 < (enterStopping p s).freeSlots := by
  have hheld : holdsGrant s (.pump p) = true := by rw [holdsGrant, hrunning]; rfl
  have hmem : Drive.pump p ∈ allDrives := by simp [allDrives, mem_pumps]
  have hfewer : (allDrives.filter (occupies (enterStopping p s))).length < (allDrives.filter (occupies s)).length := by
    have hfilter : allDrives.filter (occupies (enterStopping p s)) =
        (allDrives.filter (occupies s)).filter fun d => decide (d ≠ .pump p) := by
      rw [List.filter_filter]
      refine List.filter_congr fun d _ => ?_
      rw [occupies_enterStopping]
      split
      · next hd => simp [hf, hd]
      · next hd => simp [hd]
    rw [hfilter, List.length_filter_lt_length_iff_exists]
    exact ⟨.pump p, List.mem_filter.mpr ⟨hmem, by rw [occupies, hheld]; rfl⟩, by simp⟩
  have hlaw : SlotLaw s := slotLaw_iff.mpr hover
  have hgrants : 0 < s.grants := by
    rw [grants_eq]
    exact List.length_pos_of_mem (List.mem_filter.mpr ⟨hmem, hheld⟩)
  unfold SlotLaw at hlaw
  rw [occupancy_eq] at hlaw
  rw [freeSlots_eq, capacity_enterStopping]
  omega

end Sys2Proof.Proofs
end

section
/-! PROOF. The statement about the expiry of the stagger and of the power-return timer, assembled (R77 to R79, R81,
R83, R91, R127, R128). -/

namespace Sys2Proof.Proofs

open Sys2Proof.Machine Sys2Proof.Safety Sys2Proof.Laws

variable {s t u v : State} {p q : Pump} {r y : Side} {c : Instr} {a : Arbiter}

/-! ### A pump started (R91, R92) -/

/-- What the start of a pump leaves in `t`, begun in `s` (R91, R92). -/
structure PumpStarted (p : Pump) (s t : State) : Prop where
  history : (t.pump p).history = pushHistory (s.pump p).history s.clock.running
  command : (t.pump p).command = .run
  confirmed : (t.pump p).confirmed = false
  others : ∀ q, q ≠ p → t.pump q = s.pump q
  waits : s.feedbackActive p = false → (t.pump p).state = .starting ∧ (t.pump p).startConfirm = some s.now ∧
    t.seq.run = s.seq.run
  runs : s.feedbackActive p = true → (t.pump p).state = .running ∧ (t.pump p).startConfirm = none ∧
    (t.pump p).minRun = some s.now ∧ t.seq.run = s.seq.run ++ [p] ∧ t.arbiter.stagger = some s.now

theorem pumpStarted_startPump (p : Pump) (s : State) : PumpStarted p s (startPump p s) := by
  have hothers : ∀ q, q ≠ p → (startPump p s).pump q = s.pump q := fun q hq => pump_startPump_other hq s
  cases hf : s.feedbackActive p
  · have hstart : startPump p s = startPosted p s := by rw [startPump_eq, hf]; rfl
    rw [hstart] at hothers ⊢
    have hpump := pump_startPosted p s
    refine ⟨?_, ?_, ?_, hothers, fun _ => ⟨?_, ?_, run_startPosted p s⟩, fun h => ?_⟩
    iterate 5 rw [hpump]; rfl
    rw [hf] at h
    cases h
  · have hstart : startPump p s = enterRunning p (startPosted p s) := by rw [startPump_eq, hf]; rfl
    rw [hstart] at hothers ⊢
    have hpump := pump_enterRunning p (startPosted p s)
    rw [pump_startPosted, now_startPosted] at hpump
    refine ⟨?_, ?_, ?_, hothers, fun h => ?_, fun _ => ⟨?_, ?_, ?_, ?_, ?_⟩⟩
    iterate 3 rw [hpump]; rfl
    · rw [hf] at h
      cases h
    iterate 3 rw [hpump]
    · exact congrArg (· ++ [p]) (run_startPosted p s)
    · exact congrArg some (now_startPosted p s)

/-! ### A rake granted, and a pump displaced (R81, R128) -/

/-- What the grant of a slot leaves of a rake in `t`, given in `s` (R128). -/
def RakeGranted (r : Side) (s t : State) : Prop :=
  (t.rake r).state = .raking ∧ (t.rake r).travel = some s.now ∧
    (t.rake r).attempts = 0 ∧ (t.rake r).parkSeen = false ∧ (t.rake r).command = .run ∧
    Posted t (.rake r) .run ∧ t.arbiter.preempt.get r = false

theorem rakeGranted_ended (hsettled : settleDrives u = grantRake r v) (hnow : v.now = s.now) :
    RakeGranted r s (ended u) := by
  obtain ⟨j, hrake⟩ := rake_grantRake r v
  have hend : (ended u).rake r = _ := (rake_ended u r).trans ((congrArg (State.rake · r) hsettled).trans hrake)
  refine ⟨?_, ?_, ?_, ?_, ?_, posted_ended (by simp) (hsettled ▸ posted_grantRake r v), ?_⟩
  · rw [hend]; rfl
  · rw [hend, hnow]
  · rw [hend]; rfl
  · rw [hend]; rfl
  · rw [hend]
  · rw [arbiter_ended, hsettled]
    exact preempt_grantRake r v

/-- The pump displaced stops, and the run order loses its tail (R81). -/
theorem run_enterStopping_tail {before : List Pump} (hrun : RunOrderTrue s) (htail : s.seq.run = before ++ [p]) :
    (enterStopping p s).seq.run = before := by
  obtain ⟨hnodup, hmem⟩ := hrun
  have hrunning : (s.pump p).state = .running := (hmem p).mp (by simp [htail])
  have hposted : (stopPosted p s).seq.run = before := by
    rw [htail, List.nodup_append] at hnodup
    obtain ⟨-, -, hdisjoint⟩ := hnodup
    rw [run_stopPosted hrunning, htail, List.filter_append, List.filter_eq_self.mpr fun q hq =>
      decide_eq_true (hdisjoint q hq p List.mem_cons_self)]
    simp
  rw [enterStopping_eq]
  split
  · exact hposted
  · exact (run_pumpStopped p _).trans hposted

/-- A pump whose feedback is no longer active has stopped at once (R93, R117). -/
theorem pump_enterStopping_inactive (hf : s.feedbackActive p = false) :
    ((enterStopping p s).pump p).minOff = some s.now ∧ ((enterStopping p s).pump p).command = .stop ∧
      ((enterStopping p s).pump p).state =
        if (s.pump p).latch.bind (s.sourceAction p) = some .inhibitStart then .tripped else .idle := by
  have hpump := pump_stopPosted p s
  have hstop := pump_pumpStopped p (stopPosted p s) (by rw [hpump])
  have hnow : (stopPosted p s).now = s.now := now_of_outsideGrants (outsideGrants_stopPosted p s)
  have haction : (stopPosted p s).sourceAction p = s.sourceAction p :=
    sourceAction_of_tables (tables_of_outsideGrants (outsideGrants_stopPosted p s))
  rw [hnow, haction, hpump] at hstop
  rw [enterStopping_eq, if_neg (by rw [hf]; decide)]
  exact hstop

theorem posted_enterStopping (p : Pump) (s : State) : Posted (enterStopping p s) (.pump p) .stop := by
  rw [enterStopping_eq]
  split
  · exact posted_stopPosted p s
  · exact posted_pumpStopped (posted_stopPosted p s)

/-- An urgent rake displaces the pump at the tail of the run order (R81). -/
theorem preempt_eq {before : List Pump} (hrun : RunOrderTrue s) (hfree : s.freeSlots = 0)
    (hmark : s.arbiter.preempt.get r = false) (htail : s.seq.run = before ++ [p]) :
    preempt r s = setPreempt r true (enterStopping p s) := by
  have hrunning : (s.pump p).state = .running := (hrun.2 p).mp (by simp [htail])
  have hshed : shedPump p s = enterStopping p s := if_pos (by rw [hrunning]; rfl)
  rw [preempt, if_pos ⟨hfree, hmark⟩]
  simp only [htail, List.getLast?_append, List.getLast?_singleton, Option.some_or]
  rw [hshed]

/-! ### Part 1: no rake waits -/

theorem pumpStarts_of_expiry (h : SlotTimerExpired c s a) (hshapes : Shapes s) (hover : s.overOccupied = false)
    (hrakes : ∀ r, (s.rake r).state ≠ .waitSlot) {before after : List Pump} (hduty : s.seq.duty = before ++ p :: after)
    (hbefore : ∀ q ∈ before, (s.pump q).state ≠ .startWait) (hwait : (s.pump p).state = .startWait)
    (heligible : s.eligible p = true) (hfree : 0 < s.freeSlots) (hauto : s.automatic = true)
    (hstarting : ∀ q, (s.pump q).state ≠ .starting) (hstagger : a.stagger = none) (hreturn : a.powerReturn = .expired) :
    let t := ended { s with arbiter := a }
    (t.pump p).history.getLast? = some s.clock.running ∧
      (t.pump p).history.length = min 12 ((s.pump p).history.length + 1) ∧
      (t.pump p).command = .run ∧ (t.pump p).confirmed = false ∧ Posted t (.pump p) .run ∧
      (∀ q, q ≠ p → t.pump q = s.pump q) ∧
      (s.feedbackActive p = false → (t.pump p).state = .starting ∧
        (t.pump p).startConfirm = some s.now ∧ t.seq.run = s.seq.run) ∧
      (s.feedbackActive p = true → (t.pump p).state = .running ∧
        (t.pump p).startConfirm = none ∧ (t.pump p).minRun = some s.now ∧
        t.seq.run = s.seq.run ++ [p] ∧ t.arbiter.stagger = some s.now) := by
  intro t
  have hopen : ({ s with arbiter := a } : State).startSlotOpen = true :=
    startSlotOpen_iff.mpr ⟨hstarting, hstagger, by simp [State.powerReturned, hreturn], hauto⟩
  have hsettled : settleDrives { s with arbiter := a } = startPump p { s with arbiter := a } :=
    (h.settled hover).trans
      (grantPass_starts hrakes hduty hbefore hwait heligible (by rw [h.freeSlots]; exact hfree) hopen)
  have hpump : ∀ q, t.pump q = (startPump p { s with arbiter := a }).pump q := fun q => by rw [pump_ended, hsettled]
  have hrun : t.seq.run = (startPump p { s with arbiter := a }).seq.run := by rw [seq_ended, hsettled]
  have harbiter : t.arbiter = (startPump p { s with arbiter := a }).arbiter := by rw [arbiter_ended, hsettled]
  obtain ⟨hhistory, hcommand, hconfirmed, hothers, hstart, hruns⟩ := pumpStarted_startPump p { s with arbiter := a }
  rw [hpump, hrun, harbiter]
  refine ⟨?_, ?_, hcommand, hconfirmed, posted_ended (by simp) (hsettled ▸ posted_startPump p _),
    fun q hq => (hpump q).trans (hothers q hq), hstart, hruns⟩
  · rw [hhistory]
    exact getLast_pushHistory ..
  · rw [hhistory]
    exact length_pushHistory (hshapes.history p) _

theorem screens_postPump (p : Pump) (c : CommandCode) (s : State) : (postPump p c s).screens = s.screens := by
  simp [postPump]

theorem screens_grantCandidate (s : State) (p : Pump) : (grantCandidate p s).screens = s.screens := by
  have hposted : (startPosted p s).screens = s.screens := screens_postPump ..
  unfold grantCandidate
  split
  · rw [startPump_eq]
    split_ifs
    · exact hposted
    · exact hposted
    · rfl
  · rfl

/-- With no rake waiting the expiry leaves the screens and rakes. -/
theorem screens_of_expiry (h : SlotTimerExpired c s a) (hover : s.overOccupied = false)
    (hrakes : ∀ r, (s.rake r).state ≠ .waitSlot) : (ended { s with arbiter := a }).screens = s.screens := by
  rw [screens_ended, h.settled hover, grantPass_eq_duty (s := { s with arbiter := a }) hrakes]
  exact foldl_view State.screens _ screens_grantCandidate _ _

/-- With no drive waiting the drives are settled as they stand. -/
theorem settled_of_none (h : SlotTimerExpired c s a) (hover : s.overOccupied = false)
    (hrakes : ∀ r, (s.rake r).state ≠ .waitSlot) (hpumps : ∀ p, (s.pump p).state ≠ .startWait) :
    settleDrives { s with arbiter := a } = { s with arbiter := a } :=
  settleDrives_eq (h.overOccupied.trans hover) hpumps hrakes

theorem outsideDrives_of_expiry (a : Arbiter) (s : State) :
    outsideDrives (ended { s with arbiter := a }) = outsideDrives s := outsideDrives_ended _

theorem powerReturn_of_expiry (hreturn : a.powerReturn = .expired) :
    (ended { s with arbiter := a }).arbiter.powerReturn = .expired := by
  rw [arbiter_ended, powerReturn_of_outsideGrants (outsideGrants_settleDrives _)]
  exact hreturn

/-! ### Part 2: one rake waits and no pump -/

section OneRake
variable (h : SlotTimerExpired c s a) (hover : s.overOccupied = false) (hauto : s.automatic = true)
  (hreturn : a.powerReturn = .expired) (hwait : (s.rake r).state = .waitSlot)
  (hothers : ∀ y, y ≠ r → (s.rake y).state ≠ .waitSlot) (hpumps : ∀ p, (s.pump p).state ≠ .startWait)
include h hover hauto hreturn hwait hothers hpumps

theorem settled_one_rake : settleDrives { s with arbiter := a } =
    if s.urgent r then grantIfFree r (preempt r { s with arbiter := a }) else grantIfFree r { s with arbiter := a } :=
  (h.settled hover).trans (grantPass_one_rake hwait hothers hpumps (by simp [State.powerReturned, hreturn]) hauto)

theorem rakeTakesFreeSlot (hfree : 0 < s.freeSlots) :
    RakeGranted r s (ended { s with arbiter := a }) ∧ (ended { s with arbiter := a }).seq = s.seq := by
  have hslot : 0 < ({ s with arbiter := a } : State).freeSlots := h.freeSlots.symm ▸ hfree
  have hsettled : settleDrives { s with arbiter := a } = grantRake r { s with arbiter := a } := by
    rw [settled_one_rake h hover hauto hreturn hwait hothers hpumps, preempt_of_free hslot, ite_self]
    exact if_pos hslot
  exact ⟨rakeGranted_ended hsettled rfl, by rw [seq_ended, hsettled, seq_grantRake]⟩

theorem rakeWaitsOn (hfree : s.freeSlots = 0)
    (hnone : s.urgent r = false ∨ s.arbiter.preempt.get r = true ∨ s.seq.run = []) :
    settleDrives { s with arbiter := a } = { s with arbiter := a } := by
  have hslot : ¬0 < ({ s with arbiter := a } : State).freeSlots := by rw [h.freeSlots, hfree]; decide
  have hstand : grantIfFree r { s with arbiter := a } = { s with arbiter := a } := if_neg hslot
  rw [settled_one_rake h hover hauto hreturn hwait hothers hpumps]
  rcases preempt_of_none (s := { s with arbiter := a }) (h.preempt.symm ▸ hnone) with hu | hpreempt
  · rw [if_neg (by rw [show s.urgent r = false from hu]; decide), hstand]
  · rw [hpreempt, hstand, ite_self]

theorem rakeDisplacesPump {before : List Pump} (hrun : RunOrderTrue s) (hfree : s.freeSlots = 0)
    (hurgent : s.urgent r = true) (hmark : s.arbiter.preempt.get r = false) (htail : s.seq.run = before ++ [p]) :
    settleDrives { s with arbiter := a } =
      grantIfFree r (setPreempt r true (enterStopping p { s with arbiter := a })) := by
  have hclear : a.preempt.get r = false := (congrArg (Two.get · r) h.preempt).trans hmark
  rw [settled_one_rake h hover hauto hreturn hwait hothers hpumps, if_pos hurgent,
    preempt_eq (s := { s with arbiter := a }) hrun (h.freeSlots.trans hfree) hclear htail]

omit hreturn hpumps hauto hwait in
theorem otherRake_of_expiry (hy : y ≠ r) : (ended { s with arbiter := a }).rake y = s.rake y := by
  rw [rake_ended, h.settled hover, (rakeStands_grantPass (s := { s with arbiter := a }) (hothers y hy)).rake]
  rfl

end OneRake

theorem seq_grantIfFree (r : Side) (s : State) : (grantIfFree r s).seq = s.seq := by
  unfold grantIfFree
  split
  · exact seq_grantRake r s
  · rfl

theorem posted_grantIfFree {k : CommandCode} (h : Posted s (.pump p) k) : Posted (grantIfFree r s) (.pump p) k :=
  (PostsFor.refl (.rake r) s).grantIfFree.posted (by simp)
    (gate_of_outsideDrives (outsideDrives_of_outsideGrants (outsideGrants_grantIfFree r s))) h

section Displaced
variable {before : List Pump} (hrun : RunOrderTrue s) (htail : s.seq.run = before ++ [p])
  (hsettled : settleDrives u = grantIfFree r (setPreempt r true (enterStopping p s)))
include hsettled

theorem seq_displaced : (ended u).seq = (enterStopping p s).seq := by
  have h : (setPreempt r true (enterStopping p s)).seq = (enterStopping p s).seq := rfl
  rw [seq_ended, hsettled, seq_grantIfFree, h]

theorem pump_displaced (q : Pump) : (ended u).pump q = (enterStopping p s).pump q := by
  rw [State.pump, seq_displaced hsettled, State.pump]

theorem posted_displaced : Posted (ended u) (.pump p) .stop := by
  have h : Posted (setPreempt r true (enterStopping p s)) (.pump p) .stop := posted_enterStopping p s
  exact posted_ended (by simp) (hsettled ▸ posted_grantIfFree h)

theorem command_displaced : ((ended u).pump p).command = .stop := by
  rw [pump_displaced hsettled, enterStopping_eq]
  split
  · rw [pump_stopPosted]
  · exact (pump_pumpStopped p _ (by rw [pump_stopPosted])).2.1

include hrun htail

/-- While the feedback of the pump displaced stays active the rake waits (R81). -/
theorem displaced_active (hfree : s.freeSlots = 0) (hf : s.feedbackActive p = true) :
    ((ended u).pump p).state = .stopping ∧ ((ended u).pump p).stopConfirm = some s.now ∧ (ended u).rake r = s.rake r ∧
    (ended u).arbiter.preempt.get r = true ∧ (ended u).seq.duty = s.seq.duty := by
  have hrunning : (s.pump p).state = .running := (hrun.2 p).mp (by simp [htail])
  have hslot : ¬0 < (setPreempt r true (enterStopping p s)).freeSlots := by
    rw [freeSlots_setPreempt, freeSlots_enterStopping_active hrunning hf, hfree]
    decide
  have hstop : enterStopping p s = stopPosted p s := by rw [enterStopping_eq, if_pos hf]
  have hpump : (ended u).pump p = _ := (pump_displaced hsettled p).trans (hstop ▸ pump_stopPosted p s)
  have hseq := seq_displaced hsettled
  rw [grantIfFree, if_neg hslot] at hsettled
  refine ⟨by rw [hpump], by rw [hpump], ?_, ?_, by rw [hseq, hstop, duty_stopPosted]⟩
  · rw [rake_ended, hsettled]
    exact rake_enterStopping p s r
  · rw [arbiter_ended, hsettled]
    exact (Two.get_set _ _ _ _).trans (if_pos rfl)

/-- With its feedback no longer active the pump displaced has stopped, and the rake has its slot (R81). -/
theorem displaced_inactive (hover : s.overOccupied = false) (hf : s.feedbackActive p = false) :
    RakeGranted r s (ended u) ∧ ((ended u).pump p).minOff = some s.now ∧ ((ended u).pump p).state =
      if (s.pump p).latch.bind (s.sourceAction p) = some .inhibitStart then .tripped else .idle := by
  have hrunning : (s.pump p).state = .running := (hrun.2 p).mp (by simp [htail])
  have hslot : 0 < (setPreempt r true (enterStopping p s)).freeSlots := by
    rw [freeSlots_setPreempt]
    exact freeSlots_enterStopping_inactive hrunning hf hover
  have hpump := pump_displaced hsettled p
  rw [grantIfFree, if_pos hslot] at hsettled
  obtain ⟨hoff, -, hstate⟩ := pump_enterStopping_inactive hf
  exact ⟨rakeGranted_ended hsettled (now_of_outsideGrants (outsideGrants_enterStopping p s)),
    by rw [hpump, hoff], by rw [hpump, hstate]⟩

end Displaced

/-- Settles O25: what the grant pass at a slot timer's expiry does, by the pass over the duty order where no rake waits
and by the waiting rake's turn where no pump does. -/
theorem slotTimersLetTheNextDriveStart : Obligations.SlotTimersLetTheNextDriveStart := by
  unfold Obligations.SlotTimersLetTheNextDriveStart
  constructor
  · intro c s hon hs hshapes hover hc hrakes
    obtain ⟨a, h⟩ := exists_slotTimerExpired hon hs hc
    refine ⟨_, h.exec, outsideDrives_of_expiry a s, screens_of_expiry h hover hrakes,
      fun hc => powerReturn_of_expiry (h.powerReturns hc), fun hpumps => ?_, ?_⟩
    · have hsettled := settled_of_none h hover hrakes hpumps
      exact ⟨by rw [seq_ended, hsettled], fun hc => by rw [arbiter_ended, hsettled]; exact h.staggerEnds hc⟩
    · intro before after p hduty hbefore hwait heligible hfree hauto hstarting hstagger hreturn
      exact pumpStarts_of_expiry h hshapes hover hrakes hduty hbefore hwait heligible hfree hauto hstarting
        (hstagger.elim h.staggerEnds h.staggerStands) (hreturn.elim h.powerReturns h.powerStands)
  · intro c r s hon hs hrun hover hauto hc hwait hothers hpumps granted
    obtain ⟨a, h⟩ := exists_slotTimerExpired hon hs (hc.imp_left fun hc => ⟨hc.1, hc.2.1⟩)
    have hreturn : a.powerReturn = .expired :=
      hc.elim (fun hc => h.powerStands hc.2.2) (fun hc => h.powerReturns hc.1)
    refine ⟨_, h.exec, outsideDrives_of_expiry a s, fun y hy => otherRake_of_expiry h hover hothers hy,
      rakeTakesFreeSlot h hover hauto hreturn hwait hothers hpumps, fun hfree hnone => ?_,
      fun before p hfree hurgent hmark htail => ?_⟩
    · have hsettled := rakeWaitsOn h hover hauto hreturn hwait hothers hpumps hfree hnone
      exact ⟨by rw [rake_ended, hsettled]; rfl, by rw [seq_ended, hsettled],
        by rw [arbiter_ended, hsettled]; exact h.preempt⟩
    · have hslots : ({ s with arbiter := a } : State).freeSlots = 0 := h.freeSlots.trans hfree
      have hsettled := rakeDisplacesPump h hover hauto hreturn hwait hothers hpumps hrun hfree hurgent hmark htail
      exact ⟨(congrArg Sequencer.run (seq_displaced hsettled)).trans (run_enterStopping_tail hrun htail),
        fun q hq => (pump_displaced hsettled q).trans (pump_enterStopping_other hq _), command_displaced hsettled,
        posted_displaced hsettled, displaced_active (s := { s with arbiter := a }) hrun htail hsettled hslots,
        displaced_inactive (s := { s with arbiter := a }) hrun htail hsettled (h.overOccupied.trans hover)⟩

end Sys2Proof.Proofs
end

section
/-! PROOF. The supply judged: its loss withdraws every grant, its return starts the power-return timer (R74, R75, R78,
R82, R83, R117). -/

namespace Sys2Proof.Proofs

open Sys2Proof.Machine Sys2Proof.Safety Sys2Proof.Laws

variable {s t u v : State} {p q : Pump} {r y : Side}

/-! ### The supply state and its conditions (R74, R75) -/

/-- The supply state taken from its reading (R74). -/
def withReading (s : State) : State := { s with arbiter := { s.arbiter with supply := s.supplyReading } }

/-- The supply state taken from its reading, its conditions stated (R75). -/
def supplyTaken (s : State) : State := stateSupply (withReading s)

theorem judgeSupply_lost (h : s.supplyReading = .lost) (hs : s.arbiter.supply ≠ .lost) :
    judgeSupply s = supplyLost (supplyTaken s) := by
  rw [judgeSupply, if_neg (h ▸ hs), if_pos h]
  rfl

theorem judgeSupply_returned (h : s.supplyReading ≠ .lost) (hs : s.arbiter.supply = .lost) :
    judgeSupply s = startPowerReturn (supplyTaken s) := by
  rw [judgeSupply, if_neg (hs ▸ h.symm), if_neg h, if_pos hs]
  rfl

theorem outsideAlarms_supplyTaken (s : State) : outsideAlarms (supplyTaken s) = outsideAlarms (withReading s) :=
  outsideAlarms_stateSupply _

theorem arbiter_supplyTaken (s : State) :
    (supplyTaken s).arbiter = { s.arbiter with supply := s.supplyReading } :=
  arbiter_of_outsideAlarms (outsideAlarms_supplyTaken s)

theorem seq_supplyTaken (s : State) : (supplyTaken s).seq = (withReading s).seq :=
  seq_of_outsideAlarms (outsideAlarms_supplyTaken s)

theorem screens_supplyTaken (s : State) : (supplyTaken s).screens = (withReading s).screens :=
  screens_of_outsideAlarms (outsideAlarms_supplyTaken s)

theorem outsideDrives_supplyTaken (s : State) : outsideDrives (supplyTaken s) = outsideDrives s :=
  (outsideDrives_of_outsideAlarms (outsideAlarms_supplyTaken s)).trans rfl

theorem pump_supplyTaken (s : State) (p : Pump) : (supplyTaken s).pump p = s.pump p := by
  rw [State.pump, seq_supplyTaken]
  rfl

theorem rake_supplyTaken (s : State) (r : Side) : (supplyTaken s).rake r = s.rake r := by
  rw [State.rake, screens_supplyTaken]
  rfl

theorem now_supplyTaken (s : State) : (supplyTaken s).now = s.now :=
  now_congr (chip_of_outsideDrives (outsideDrives_supplyTaken s))

theorem tables_supplyTaken (s : State) : (supplyTaken s).tables = s.tables :=
  tables_of_outsideDrives (outsideDrives_supplyTaken s)

/-- SUPPLY_LOST and ON_GENERATOR follow the supply state (R75). -/
theorem conditions_supplyTaken (h : s.alarms.entries.length = 73) :
    ((supplyTaken s).alarm 21).condition = decide (s.supplyReading = .lost) ∧
      ((supplyTaken s).alarm 22).condition = decide (s.supplyReading = .generator) := by
  have hentries : (withReading s).alarms.entries.length = 73 := h
  have hstated : ∀ b, (stateCondition 21 b (withReading s)).alarms.entries.length = 73 := fun b =>
    (worked_stateCondition (.refl _) _ _).entries.trans hentries
  have hlost : Listed (withReading s) 21 := ⟨by decide, by omega⟩
  have hgenerator : ∀ b, Listed (stateCondition 21 b (withReading s)) 22 := fun b =>
    ⟨by decide, by rw [hstated]; decide⟩
  constructor
  · exact (congrArg AlarmEntry.condition (alarm_stateCondition_ne (hgenerator _) (by decide) (by decide) _)).trans
      (condition_stateCondition hlost _)
  · exact condition_stateCondition (hgenerator _) _

/-! ### The supply's return (R78, R83) -/

theorem powerReturnTime_congr (h : t.tables = s.tables) : t.powerReturnTime = s.powerReturnTime := by
  unfold State.powerReturnTime State.station
  rw [h]

theorem arbiter_startPowerReturn (s : State) : (startPowerReturn s).arbiter = { s.arbiter with
    powerReturn := if s.powerReturnTime = 0 then .expired else .running s.now } := rfl

theorem arbiter_supplyReturned (h : s.supplyReading ≠ .lost) (hs : s.arbiter.supply = .lost) :
    (judgeSupply s).arbiter = { s.arbiter with
      supply := s.supplyReading
      powerReturn := if s.powerReturnTime = 0 then .expired else .running s.now } := by
  rw [judgeSupply_returned h hs, arbiter_startPowerReturn, arbiter_supplyTaken, now_supplyTaken,
    powerReturnTime_congr (tables_supplyTaken s)]

theorem conditions_supplyReturned (h : s.supplyReading ≠ .lost) (hs : s.arbiter.supply = .lost)
    (h73 : s.alarms.entries.length = 73) : ((judgeSupply s).alarm 21).condition = false ∧
      ((judgeSupply s).alarm 22).condition = decide (s.supplyReading = .generator) := by
  obtain ⟨hlost, hgenerator⟩ := conditions_supplyTaken h73
  have halarm : ∀ n, (judgeSupply s).alarm n = (supplyTaken s).alarm n := fun n => by
    rw [judgeSupply_returned h hs]
    rfl
  rw [halarm, halarm, hlost, hgenerator]
  exact ⟨decide_eq_false h, rfl⟩

theorem capacity_of_supply {x : StationTable} (hx : s.station = some x) (h : s.arbiter.supply ≠ .lost) :
    s.capacity = if s.arbiter.supply = .mains then x.mainsSlots else x.generatorSlots := by
  unfold State.capacity
  rw [hx]
  cases hsupply : s.arbiter.supply
  · rfl
  · rfl
  · exact absurd hsupply h

theorem capacity_lost (h : s.arbiter.supply = .lost) : s.capacity = 0 := by
  unfold State.capacity
  rw [h]
  split <;> rfl

/-! ### A pump at the supply's loss (R82, R117) -/

/-- The states of a pump that a loss of supply stops (R82). -/
def stoppedBySupply (st : PumpState) : Prop := st = .starting ∨ st = .running ∨ st = .stopping

/-- A pump in IDLE with STOP posted and its minimum off timer started, as the loss of supply leaves it (R82). -/
def idledPump (p : Pump) (s : State) : State :=
  postPump p .stop ((releaseDrive p s).setPump p
    { (releaseDrive p s).pump p with
      state := .idle, startConfirm := none, stopConfirm := none, minOff := some (releaseDrive p s).now })

theorem pumpSupplyLost_eq (h : stoppedBySupply (s.pump p).state) :
    pumpSupplyLost p s = tripInhibited p (idledPump p s) := by
  unfold pumpSupplyLost
  rcases h with h | h | h <;> rw [h] <;> rfl

theorem pumpSupplyLost_of_not (h : ¬stoppedBySupply (s.pump p).state) : pumpSupplyLost p s = s := by
  unfold stoppedBySupply at h
  unfold pumpSupplyLost
  split <;> simp_all

theorem outsideGrants_idledPump (p : Pump) (s : State) : outsideGrants (idledPump p s) = outsideGrants s := by
  refine (outsideGrants_postPump ..).trans (Eq.trans ?_ (outsideGrants_releaseDrive p s))
  exact outsideGrants_setPump _ _ _ rfl

theorem pump_idledPump (p : Pump) (s : State) : (idledPump p s).pump p =
    { s.pump p with state := .idle, startConfirm := none, stopConfirm := none, minOff := some s.now,
                    command := .stop, confirmed := false } := by
  have hnow : (releaseDrive p s).now = s.now := now_of_outsideGrants (outsideGrants_releaseDrive p s)
  rw [idledPump, pump_postPump, if_pos rfl, State.pump_setPump_same, hnow, pump_releaseDrive]

/-- What the loss of supply leaves of a pump's record that it stops (R82, R117). -/
def PumpLost (p : Pump) (s : State) (w : PumpRec) : Prop :=
  w.state = (if (s.pump p).latch.bind (s.sourceAction p) = some .inhibitStart then .tripped else .idle) ∧
    w.startConfirm = none ∧ w.stopConfirm = none ∧ w.minOff = some s.now ∧ w.command = .stop

theorem pumpLost_pumpSupplyLost (h : stoppedBySupply (s.pump p).state) :
    PumpLost p s ((pumpSupplyLost p s).pump p) := by
  have hpump := pump_idledPump p s
  have haction : (idledPump p s).sourceAction p = s.sourceAction p :=
    sourceAction_of_tables (tables_of_outsideGrants (outsideGrants_idledPump p s))
  rw [pumpSupplyLost_eq h, pump_tripInhibited (by rw [hpump]), haction, hpump]
  unfold PumpLost
  dsimp only
  split
  · exact ⟨rfl, rfl, rfl, rfl, rfl⟩
  · exact ⟨rfl, rfl, rfl, rfl, rfl⟩

theorem posted_pumpSupplyLost (h : stoppedBySupply (s.pump p).state) :
    Posted (pumpSupplyLost p s) (.pump p) .stop := by
  rw [pumpSupplyLost_eq h]
  exact posted_tripInhibited (posted_postPump _ _ _)

theorem PostsFor.pumpSupplyLost (p : Pump) (s : State) : PostsFor (.pump p) s (pumpSupplyLost p s) := by
  by_cases h : stoppedBySupply (s.pump p).state
  · rw [pumpSupplyLost_eq h]
    exact (((PostsFor.refl _ s).releaseDrive p).setPump p _ |>.postPump .stop).tripInhibited
  · rw [pumpSupplyLost_of_not h]
    exact .refl _ s

theorem duty_pumpSupplyLost (p : Pump) (s : State) : (pumpSupplyLost p s).seq.duty = s.seq.duty := by
  by_cases h : stoppedBySupply (s.pump p).state
  · rw [pumpSupplyLost_eq h, (run_tripInhibited_idle (by rw [pump_idledPump])).2, idledPump, seq_postPump]
    exact duty_releaseDrive p s
  · rw [pumpSupplyLost_of_not h]

/-! ### The supply's loss (R82) -/

/-- A drive's part of the state: a pump's record with the commands that wait for it, and what no loss of supply
touches. -/
def pumpPart (p : Pump) (s : State) : PumpRec × List OwnFrame := (s.pump p, commandsFor (.pump p) s)

def rakePart (r : Side) (s : State) : RakeRec × List OwnFrame := (s.rake r, commandsFor (.rake r) s)

theorem outsideGrants_eachPump_supplyLost (s : State) : outsideGrants (eachPump pumpSupplyLost s) = outsideGrants s :=
  eachPump_view outsideGrants _ outsideGrants_pumpSupplyLost s

/-- The pumps and rakes once the supply is lost, before the power-return timer is stopped. -/
def drivesLost (s : State) : State := eachSide shedRake (eachPump pumpSupplyLost s)

theorem outsideGrants_drivesLost (s : State) : outsideGrants (drivesLost s) = outsideGrants s :=
  (eachSide_view outsideGrants _ outsideGrants_shedRake _).trans (outsideGrants_eachPump_supplyLost s)

theorem pumpPart_drivesLost (p : Pump) (s : State) :
    ∃ u, outsideGrants u = outsideGrants s ∧ pumpPart p u = pumpPart p s ∧
      pumpPart p (drivesLost s) = pumpPart p (pumpSupplyLost p u) := by
  obtain ⟨u, hu, hpart, hturn⟩ := foldl_turn (P := fun u => outsideGrants u = outsideGrants s) (E := pumpPart p)
    (f := fun u q => pumpSupplyLost q u) (l := pumps) (a := p)
    (fun u hu q _ => (outsideGrants_pumpSupplyLost q u).trans hu)
    (fun u _ q _ hq => Prod.ext (pump_pumpSupplyLost_other (Ne.symm hq) u)
      ((PostsFor.pumpSupplyLost q u).others _ (by simpa using Ne.symm hq))) (by decide) (mem_pumps p) rfl
  have hrakes : pumpPart p (drivesLost s) = pumpPart p (eachPump pumpSupplyLost s) :=
    eachSide_view (pumpPart p) _ (fun r v => Prod.ext (pump_shedRake r v p)
      ((PostsFor.refl (.rake r) v).shedRake.others _ (by simp))) _
  exact ⟨u, hu, hpart, hrakes.trans hturn⟩

theorem rakePart_drivesLost (r : Side) (s : State) :
    ∃ u, outsideGrants u = outsideGrants s ∧ rakePart r u = rakePart r s ∧
      rakePart r (drivesLost s) = rakePart r (shedRake r u) := by
  obtain ⟨u, hu, hpart, hturn⟩ := foldl_turn
    (P := fun u => outsideGrants u = outsideGrants s) (E := rakePart r)
    (f := fun u y => shedRake y u) (l := sides) (a := r) (s := eachPump pumpSupplyLost s)
    (fun u hu y _ => (outsideGrants_shedRake y u).trans hu)
    (fun u _ y _ hy => Prod.ext (rake_shedRake_other (Ne.symm hy) u)
      ((PostsFor.refl (.rake y) u).shedRake.others _ (by simpa using Ne.symm hy))) (by decide) (mem_sides r)
    (outsideGrants_eachPump_supplyLost s)
  have hpumps : rakePart r (eachPump pumpSupplyLost s) = rakePart r s :=
    eachPump_view (rakePart r) _ (fun p v => Prod.ext (rake_pumpSupplyLost p v r)
      ((PostsFor.pumpSupplyLost p v).others _ (by simp))) s
  exact ⟨u, hu, hpart.trans hpumps, hturn⟩

end Sys2Proof.Proofs
end

section
/-! PROOF. What the loss of supply leaves of every drive (R75, R78, R82, R117). -/

namespace Sys2Proof.Proofs

open Sys2Proof.Machine Sys2Proof.Safety Sys2Proof.Laws

variable {s t u v : State} {p q : Pump} {r y : Side}

/-! ### Each drive at the supply's loss (R82) -/

theorem gate_of_outsideGrants (h : outsideGrants t = outsideGrants s) : t.transit.gate = s.transit.gate :=
  gate_of_outsideDrives (outsideDrives_of_outsideGrants h)

theorem pump_drivesLost (h : stoppedBySupply (s.pump p).state) :
    PumpLost p s ((drivesLost s).pump p) ∧ Posted (drivesLost s) (.pump p) .stop := by
  obtain ⟨u, hu, hpart, hturn⟩ := pumpPart_drivesLost p s
  have hpump : u.pump p = s.pump p := congrArg Prod.fst hpart
  have hlost : (drivesLost s).pump p = (pumpSupplyLost p u).pump p := congrArg Prod.fst hturn
  have hcommands : commandsFor (.pump p) (drivesLost s) = commandsFor (.pump p) (pumpSupplyLost p u) :=
    congrArg Prod.snd hturn
  have hstopped : stoppedBySupply (u.pump p).state := hpump ▸ h
  have hrecord := pumpLost_pumpSupplyLost hstopped
  have hgate : (drivesLost s).transit.gate = (pumpSupplyLost p u).transit.gate :=
    gate_of_outsideGrants ((outsideGrants_drivesLost s).trans (hu.symm.trans (outsideGrants_pumpSupplyLost p u).symm))
  unfold PumpLost at hrecord
  rw [hpump, sourceAction_of_tables (tables_of_outsideGrants hu), now_of_outsideGrants hu, ← hlost] at hrecord
  exact ⟨hrecord, posted_congr hcommands hgate (posted_pumpSupplyLost hstopped)⟩

theorem pump_drivesLost_of_not (h : ¬stoppedBySupply (s.pump p).state) : (drivesLost s).pump p = s.pump p := by
  obtain ⟨u, -, hpart, hturn⟩ := pumpPart_drivesLost p s
  have hpump : u.pump p = s.pump p := congrArg Prod.fst hpart
  have hlost : (drivesLost s).pump p = (pumpSupplyLost p u).pump p := congrArg Prod.fst hturn
  rw [hlost, pumpSupplyLost_of_not (by rwa [hpump]), hpump]

/-- What the loss of supply leaves of a rake's record at work (R82). -/
theorem rake_shedRake (h : (s.rake r).state.granted = true) :
    (shedRake r s).rake r = { (s.rake r).rest .waitSlot with command := .stop, confirmed := false } := by
  rw [shedRake, if_pos h, rake_postRake, if_pos rfl, State.rake_setRake_same]

theorem rake_drivesLost (h : (s.rake r).state.granted = true) :
    (drivesLost s).rake r = { (s.rake r).rest .waitSlot with command := .stop, confirmed := false } ∧
      Posted (drivesLost s) (.rake r) .stop := by
  obtain ⟨u, hu, hpart, hturn⟩ := rakePart_drivesLost r s
  have hrake : u.rake r = s.rake r := congrArg Prod.fst hpart
  have hlost : (drivesLost s).rake r = (shedRake r u).rake r := congrArg Prod.fst hturn
  have hcommands : commandsFor (.rake r) (drivesLost s) = commandsFor (.rake r) (shedRake r u) :=
    congrArg Prod.snd hturn
  have hgranted : (u.rake r).state.granted = true := hrake ▸ h
  have hgate : (drivesLost s).transit.gate = (shedRake r u).transit.gate :=
    gate_of_outsideGrants ((outsideGrants_drivesLost s).trans (hu.symm.trans (outsideGrants_shedRake r u).symm))
  have hposted : Posted (shedRake r u) (.rake r) .stop := by
    rw [shedRake, if_pos hgranted]
    exact posted_postRake _ _ _
  exact ⟨by rw [hlost, rake_shedRake hgranted, hrake], posted_congr hcommands hgate hposted⟩

theorem rake_drivesLost_of_not (h : (s.rake r).state.granted = false) : (drivesLost s).rake r = s.rake r := by
  obtain ⟨u, -, hpart, hturn⟩ := rakePart_drivesLost r s
  have hrake : u.rake r = s.rake r := congrArg Prod.fst hpart
  have hlost : (drivesLost s).rake r = (shedRake r u).rake r := congrArg Prod.fst hturn
  rw [hlost, shedRake, if_neg (by rw [hrake, h]; decide), hrake]

theorem not_granted_pumpLost {w : PumpRec} (h : PumpLost p s w) : w.state.granted = false := by
  obtain ⟨hstate, -⟩ := h
  rw [hstate]
  split <;> rfl

theorem stoppedBySupply_of_granted {st : PumpState} (h : st.granted = true) : stoppedBySupply st := by
  cases st <;> simp_all [PumpState.granted, stoppedBySupply]

/-- No drive holds a grant once the supply is lost (R82). -/
theorem grants_drivesLost (s : State) : (drivesLost s).grants = 0 := by
  refine grants_eq_zero_iff.mpr fun d => ?_
  cases d with
  | pump p =>
    change ((drivesLost s).pump p).state.granted = false
    by_cases h : stoppedBySupply (s.pump p).state
    · exact not_granted_pumpLost (pump_drivesLost h).1
    · rw [pump_drivesLost_of_not h]
      exact Bool.eq_false_iff.mpr fun hg => h (stoppedBySupply_of_granted hg)
  | rake r =>
    change ((drivesLost s).rake r).state.granted = false
    cases h : (s.rake r).state.granted
    · rw [rake_drivesLost_of_not h, h]
    · rw [(rake_drivesLost h).1]
      rfl

/-- Where no grant is held a true run order is empty. -/
theorem run_eq_nil (hrun : RunOrderTrue s) (h : s.grants = 0) : s.seq.run = [] := by
  refine List.eq_nil_iff_forall_not_mem.mpr fun p hp => ?_
  have hheld : holdsGrant s (.pump p) = false := grants_eq_zero_iff.mp h (.pump p)
  rw [holdsGrant, (hrun.2 p).mp hp] at hheld
  cases hheld

theorem duty_drivesLost (s : State) : (drivesLost s).seq.duty = s.seq.duty := by
  have hrake : ∀ r v, (shedRake r v).seq.duty = v.seq.duty := fun r v => by
    unfold shedRake
    split
    · rw [seq_postRake]
      rfl
    · rfl
  exact (eachSide_view (fun u : State => u.seq.duty) _ hrake _).trans
    (eachPump_view (fun u : State => u.seq.duty) _ duty_pumpSupplyLost s)

/-! ### The supply judged lost (R74, R75, R82) -/

section Lost
variable (h : s.supplyReading = .lost) (hs : s.arbiter.supply ≠ .lost)
include h hs

theorem judgeSupply_eq_drivesLost : judgeSupply s = stopPowerReturn (drivesLost (supplyTaken s)) :=
  judgeSupply_lost h hs

theorem pump_supplyLost (hp : stoppedBySupply (s.pump p).state) :
    PumpLost p s ((judgeSupply s).pump p) ∧ Posted (judgeSupply s) (.pump p) .stop := by
  have hpump := pump_supplyTaken s p
  obtain ⟨hlost, hposted⟩ := pump_drivesLost (s := supplyTaken s) (p := p) (by rw [hpump]; exact hp)
  unfold PumpLost at hlost
  rw [hpump, sourceAction_of_tables (tables_supplyTaken s), now_supplyTaken] at hlost
  rw [judgeSupply_eq_drivesLost h hs]
  exact ⟨hlost, posted_of_transit rfl hposted⟩

theorem pump_supplyLost_of_not (hp : ¬stoppedBySupply (s.pump p).state) : (judgeSupply s).pump p = s.pump p := by
  have hpump := pump_supplyTaken s p
  rw [judgeSupply_eq_drivesLost h hs]
  exact (pump_drivesLost_of_not (by rwa [hpump])).trans hpump

theorem rake_supplyLost (hr : (s.rake r).state.granted = true) :
    (judgeSupply s).rake r = { (s.rake r).rest .waitSlot with command := .stop, confirmed := false } ∧
      Posted (judgeSupply s) (.rake r) .stop := by
  have hrake := rake_supplyTaken s r
  obtain ⟨hlost, hposted⟩ := rake_drivesLost (s := supplyTaken s) (r := r) (by rw [hrake]; exact hr)
  rw [hrake] at hlost
  rw [judgeSupply_eq_drivesLost h hs]
  exact ⟨hlost, posted_of_transit rfl hposted⟩

theorem rake_supplyLost_of_not (hr : (s.rake r).state.granted = false) : (judgeSupply s).rake r = s.rake r := by
  have hrake := rake_supplyTaken s r
  rw [judgeSupply_eq_drivesLost h hs]
  exact (rake_drivesLost_of_not (by rwa [hrake])).trans hrake

theorem grants_supplyLost : (judgeSupply s).grants = 0 := by
  rw [judgeSupply_eq_drivesLost h hs]
  exact grants_drivesLost (supplyTaken s)

theorem arbiter_supplyLost :
    (judgeSupply s).arbiter.supply = .lost ∧ (judgeSupply s).arbiter.powerReturn = .stopped := by
  rw [judgeSupply_eq_drivesLost h hs]
  refine ⟨?_, rfl⟩
  have hkept := congrArg (fun u : State => u.arbiter.supply) (outsideGrants_drivesLost (supplyTaken s))
  refine Eq.trans hkept ?_
  exact (congrArg Arbiter.supply (arbiter_supplyTaken s)).trans h

theorem duty_supplyLost : (judgeSupply s).seq.duty = s.seq.duty := by
  rw [judgeSupply_eq_drivesLost h hs]
  exact (duty_drivesLost (supplyTaken s)).trans (congrArg Sequencer.duty (seq_supplyTaken s))

theorem conditions_supplyLost (h73 : s.alarms.entries.length = 73) :
    ((judgeSupply s).alarm 21).condition = true ∧ ((judgeSupply s).alarm 22).condition = false := by
  obtain ⟨hlost, hgenerator⟩ := conditions_supplyTaken h73
  have halarms : (drivesLost (supplyTaken s)).alarms = (supplyTaken s).alarms :=
    alarms_of_outsideGrants (outsideGrants_drivesLost (supplyTaken s))
  have halarm : ∀ n, (judgeSupply s).alarm n = (supplyTaken s).alarm n := fun n => by
    rw [judgeSupply_eq_drivesLost h hs]
    exact congrArg (fun x : Alarms => x.entries.getD (n - 1) (AlarmEntry.start 0)) halarms
  rw [halarm, halarm, hlost, hgenerator, h]
  exact ⟨rfl, rfl⟩

end Lost

end Sys2Proof.Proofs
end

section
/-! PROOF. The reactions to a change of a point beside the supply's (R55): what they leave of the supply state and its
conditions, and a pump at rest that stays at rest. -/

namespace Sys2Proof.Proofs

open Sys2Proof.Machine Sys2Proof.Safety Sys2Proof.Laws

variable {s t u v : State} {p q : Pump} {r y : Side} {β : Type} {E : State → β} {m : Mode} {w : PumpRec}

/-! ### Views that no reaction of a drive touches (R55) -/

/-- A view that grants and sheds, the drives' records and the pumps' conditions leave alone. -/
structure DriveBlind (E : State → β) : Prop where
  grants : ∀ {s t : State}, outsideGrants t = outsideGrants s → E t = E s
  pump : ∀ (p : Pump) (w : PumpRec) (s : State), E (s.setPump p w) = E s
  rake : ∀ (r : Side) (w : RakeRec) (s : State), E (s.setRake r w) = E s
  conditions : ∀ (p : Pump) (s : State), E (statePumpConditions p s) = E s

namespace DriveBlind
variable (hE : DriveBlind E)
include hE

theorem judgePump (p : Pump) (s : State) : E (judgePump p s) = E s := by
  rw [Machine.judgePump, hE.grants (outsideGrants_judgeMove p _), hE.conditions]
  unfold judgeLatch
  split
  · exact hE.pump ..
  · rfl

theorem judgeSelector (p : Pump) (s : State) : E (judgeSelector p s) = E s := by
  rw [Machine.judgeSelector, hE.grants (outsideGrants_judgePumpMode p _), hE.pump]

theorem judgeFault (p : Pump) (f : FaultSource) (s : State) : E (judgeFault p f s) = E s := by
  unfold Machine.judgeFault
  dsimp only
  split_ifs
  · rfl
  · exact (hE.judgePump ..).trans (hE.pump ..)
  · exact (hE.conditions ..).trans (hE.pump ..)

theorem judgeOvercurrent (p : Pump) (s : State) : E (judgeOvercurrent p s) = E s := by
  unfold Machine.judgeOvercurrent
  dsimp only
  split_ifs
  · rfl
  · exact hE.pump ..
  · exact (hE.conditions ..).trans (hE.pump ..)

theorem feedbackChanged (p : Pump) (b : Bool) (s : State) : E (feedbackChanged p b s) = E s := by
  have hfell : E (feedbackFell p b s) = E s := by
    unfold feedbackFell
    split
    · exact hE.pump ..
    · rfl
  have hmoves : ∀ v, E (feedbackMoves p v) = E v := fun v => by
    unfold feedbackMoves
    split
    · split
      · exact hE.grants (outsideGrants_enterRunning p v)
      · rfl
    · split
      · rfl
      · exact hE.grants (outsideGrants_pumpStopped p v)
    · rfl
  have hreturned : ∀ v, E (feedbackReturned p b v) = E v := fun v => by
    unfold feedbackReturned
    split
    · exact hE.judgePump p v
    · rfl
  rw [Machine.feedbackChanged, hreturned, hmoves, hfell]

theorem pumpPointChanged (n : Nat) (old : PointRec) (p : Pump) (s : State) : E (pumpPointChanged n old p s) = E s := by
  rw [Machine.pumpPointChanged, guarded_view E _ _ (hE.judgeFault p .f3), guarded_view E _ _ (hE.judgeFault p .f2),
    guarded_view E _ _ (hE.judgeFault p .f1), guarded_view E _ _ (hE.judgeSelector p),
    guarded_view E _ _ (hE.judgeOvercurrent p), guarded_view E _ _ (hE.feedbackChanged p _)]

theorem judgePark (r : Side) (s : State) : E (judgePark r s) = E s := by
  have hcomplete : E (completeCycle r s) = E s := by
    rw [completeCycle, hE.grants (outsideGrants_judgeRequest r _), hE.grants (outsideGrants_postRake r _ _), hE.rake]
  unfold Machine.judgePark
  dsimp only
  split
  · split
    · rfl
    · split_ifs
      exacts [hE.rake .., hcomplete, rfl]
  · rfl

theorem rakePointChanged (n : Nat) (r : Side) (s : State) : E (rakePointChanged n r s) = E s := by
  rw [Machine.rakePointChanged, guarded_view E _ _ fun w => hE.grants (outsideGrants_judgeJamTimer r w),
    guarded_view E _ _ (hE.judgePark r)]

end DriveBlind

/-- The drives told of a change of a point (R55), the supply apart. -/
def drivesTold (n : Nat) (old : PointRec) (s : State) : State :=
  eachSide (rakePointChanged n) (eachPump (pumpPointChanged n old) s)

theorem DriveBlind.drivesTold (hE : DriveBlind E) (n : Nat) (old : PointRec) (s : State) :
    E (drivesTold n old s) = E s :=
  (eachSide_view E _ (hE.rakePointChanged n) _).trans (eachPump_view E _ (hE.pumpPointChanged n old) s)

/-! ### The supply state and its conditions -/

/-- What the supply's part of the arbiter and its two alarm entries hold. -/
structure SupplyPart where
  supply : Supply
  powerReturn : PowerReturn
  lost : Option AlarmEntry
  generator : Option AlarmEntry

def supplyPart (s : State) : SupplyPart where
  supply := s.arbiter.supply
  powerReturn := s.arbiter.powerReturn
  lost := s.alarms.entries[20]?
  generator := s.alarms.entries[21]?

theorem supplyPart_congr (ha : t.arbiter.supply = s.arbiter.supply) (hp : t.arbiter.powerReturn = s.arbiter.powerReturn)
    (he : ∀ k, k = 20 ∨ k = 21 → t.alarms.entries[k]? = s.alarms.entries[k]?) : supplyPart t = supplyPart s := by
  unfold supplyPart
  rw [ha, hp, he 20 (.inl rfl), he 21 (.inr rfl)]

theorem supply_of_outsideGrants (h : outsideGrants t = outsideGrants s) : t.arbiter.supply = s.arbiter.supply := by
  have hs := congrArg (fun u : State => u.arbiter.supply) h
  exact hs

theorem supplyPart_of_outsideGrants (h : outsideGrants t = outsideGrants s) : supplyPart t = supplyPart s :=
  supplyPart_congr (supply_of_outsideGrants h) (powerReturn_of_outsideGrants h)
    fun _ _ => by rw [alarms_of_outsideGrants h]

/-- The statement of a condition leaves every other entry. -/
theorem entry_stateCondition {n k : Nat} (hk : n - 1 ≠ k) (b : Bool) (s : State) :
    (stateCondition n b s).alarms.entries[k]? = s.alarms.entries[k]? := by
  have hset : ∀ (e : AlarmEntry) (v : State), (v.setAlarm n e).alarms.entries[k]? = v.alarms.entries[k]? :=
    fun e v => by rw [State.setAlarm_alarms_entries, List.getElem?_set_ne hk]
  unfold stateCondition
  split
  · rfl
  · rw [followCondition_eq]
    split
    · exact hset _ s
    · rw [entries_changeAlarm, hset, hset]

theorem supplyPart_stateCondition {n : Nat} (h21 : n ≠ 21) (h22 : n ≠ 22) (b : Bool) (s : State) :
    supplyPart (stateCondition n b s) = supplyPart s := by
  have hframe := arbiter_of_outsideAlarms (outsideAlarms_stateCondition n b s)
  exact supplyPart_congr (by rw [hframe]) (by rw [hframe]) fun k hk => entry_stateCondition (by omega) b s

theorem driveBlind_supplyPart : DriveBlind supplyPart where
  grants := supplyPart_of_outsideGrants
  pump _ _ _ := rfl
  rake _ _ _ := rfl
  conditions p s := by
    rw [statePumpConditions, supplyPart_stateCondition (by cases p <;> decide) (by cases p <;> decide),
      supplyPart_stateCondition (by cases p <;> decide) (by cases p <;> decide)]

theorem supplyPart_statePointFailed (n : Nat) (s : State) : supplyPart (statePointFailed n s) = supplyPart s :=
  supplyPart_stateCondition (by omega) (by omega) _ s

theorem supplyPart_ended (s : State) : supplyPart (ended s) = supplyPart s := by
  have harbiter := arbiter_ended s
  have hsettled := outsideGrants_settleDrives s
  exact supplyPart_congr (by rw [harbiter, supply_of_outsideGrants hsettled])
    (by rw [harbiter, powerReturn_of_outsideGrants hsettled]) fun _ _ => by rw [entries_ended]

theorem supply_of_supplyPart (h : supplyPart t = supplyPart s) : t.arbiter.supply = s.arbiter.supply :=
  congrArg SupplyPart.supply h

theorem powerReturn_of_supplyPart (h : supplyPart t = supplyPart s) :
    t.arbiter.powerReturn = s.arbiter.powerReturn := congrArg SupplyPart.powerReturn h

theorem alarm_of_supplyPart (h : supplyPart t = supplyPart s) :
    t.alarm 21 = s.alarm 21 ∧ t.alarm 22 = s.alarm 22 := by
  have hlost : t.alarms.entries[20]? = s.alarms.entries[20]? := congrArg SupplyPart.lost h
  have hgenerator : t.alarms.entries[21]? = s.alarms.entries[21]? := congrArg SupplyPart.generator h
  exact ⟨congrArg (fun e : Option AlarmEntry => e.getD (AlarmEntry.start 0)) hlost,
    congrArg (fun e : Option AlarmEntry => e.getD (AlarmEntry.start 0)) hgenerator⟩

/-! ### A pump at rest (R55, R82) -/

/-- A pump of a mode that holds no grant, with STOP its command where it is in AUTO. -/
structure AtRest (m : Mode) (w : PumpRec) : Prop where
  grant : w.state.granted = false
  mode : w.state.mode = m
  command : m = .auto → w.command = .stop

theorem AtRest.congr {w' : PumpRec} (h : AtRest m w) (hs : w'.state = w.state) (hc : w'.command = w.command) :
    AtRest m w' := ⟨hs ▸ h.grant, hs ▸ h.mode, hc ▸ h.command⟩

theorem pump_protectTo (st : PumpState) (p : Pump) (s : State) : (protectTo st p s).pump p =
    { s.pump p with state := st, minRun := none, startConfirm := none, stopConfirm := none,
                    command := .stop, confirmed := false } := by
  rw [protectTo, pump_postPump, if_pos rfl, State.pump_setPump_same, pump_releaseDrive]

theorem atRest_protectTo {st : PumpState} (hm : m = .auto) (hg : st.granted = false) (hst : st.mode = .auto) :
    AtRest m ((protectTo st p s).pump p) := by
  rw [pump_protectTo]
  exact ⟨hg, hm ▸ hst, fun _ => rfl⟩

section AtRest
variable (h : AtRest m (s.pump p))
include h

theorem AtRest.setPump (hs : w.state = (s.pump p).state) (hc : w.command = (s.pump p).command) :
    AtRest m ((s.setPump p w).pump p) := by
  rw [State.pump_setPump_same]
  exact h.congr hs hc

theorem AtRest.statePumpConditions : AtRest m ((statePumpConditions p s).pump p) := by
  rw [pump_statePumpConditions]
  exact h

theorem AtRest.judgeMove : AtRest m ((judgeMove p s).pump p) := by
  unfold Machine.judgeMove
  dsimp only
  split
  · exact h
  · next hauto =>
    have hm : m = .auto := h.mode ▸ not_not.mp hauto
    split_ifs
    exacts [atRest_protectTo hm rfl rfl, h, atRest_protectTo hm rfl rfl, h, atRest_protectTo hm rfl rfl, h]

theorem AtRest.judgeLatch : AtRest m ((judgeLatch p s).pump p) := by
  unfold Machine.judgeLatch
  split
  · exact h.setPump rfl rfl
  · exact h

theorem AtRest.judgePump : AtRest m ((judgePump p s).pump p) := h.judgeLatch.statePumpConditions.judgeMove

theorem AtRest.judgeFault (f : FaultSource) : AtRest m ((judgeFault p f s).pump p) := by
  have hset : AtRest m ((s.setSources p ((s.pump p).sources.setFault f
      (s.installed p && s.faultReading p f))).pump p) := h.setPump rfl rfl
  unfold Machine.judgeFault
  dsimp only
  split
  · exact h
  · split
    · exact hset.judgePump
    · exact hset.statePumpConditions

theorem AtRest.judgeOvercurrent : AtRest m ((judgeOvercurrent p s).pump p) := by
  unfold Machine.judgeOvercurrent
  dsimp only
  split
  · split
    · exact h
    · exact h.setPump rfl rfl
  · exact AtRest.statePumpConditions (h.setPump rfl rfl)

theorem AtRest.feedbackFell (b : Bool) : AtRest m ((feedbackFell p b s).pump p) := by
  unfold Machine.feedbackFell
  split
  · exact h.setPump rfl rfl
  · exact h

/-- A pump that stops on its feedback is still at rest (R93). -/
theorem AtRest.feedbackMoves : AtRest m ((feedbackMoves p s).pump p) := by
  unfold Machine.feedbackMoves
  split
  · next hst =>
    have hgrant := h.grant
    rw [hst] at hgrant
    cases hgrant
  · next hst =>
    have hm : m = .auto := by rw [← h.mode, hst]; rfl
    split
    · exact h
    · obtain ⟨-, hcommand, hstate⟩ := pump_pumpStopped p s (h.command hm)
      refine ⟨?_, ?_, fun _ => hcommand⟩ <;> rw [hstate]
      · split <;> rfl
      · rw [hm]
        split <;> rfl
  · exact h

theorem AtRest.feedbackReturned (b : Bool) : AtRest m ((feedbackReturned p b s).pump p) := by
  unfold Machine.feedbackReturned
  split
  · exact h.judgePump
  · exact h

theorem AtRest.feedbackChanged (b : Bool) : AtRest m ((feedbackChanged p b s).pump p) :=
  ((h.feedbackFell b).feedbackMoves).feedbackReturned b

theorem AtRest.guarded {c : State → Bool} {f : State → State} (hf : AtRest m ((f s).pump p)) :
    AtRest m ((guarded c f s).pump p) := by
  unfold Machine.guarded
  split
  · exact hf
  · exact h

end AtRest

theorem AtRest.postStop (h : AtRest m (s.pump p)) : AtRest m ((postPump p .stop s).pump p) := by
  rw [pump_postPump, if_pos rfl]
  exact ⟨h.grant, h.mode, fun _ => rfl⟩

theorem atRest_pumpLeavesAuto {st : PumpState} (hg : st.granted = false) (hm : st.mode ≠ .auto) :
    AtRest st.mode ((pumpLeavesAuto p st s).pump p) := by
  rw [pumpLeavesAuto, pump_withdraw, State.pump_setPump_same]
  exact ⟨hg, rfl, fun h => absurd h hm⟩

/-- A pump at rest in AUTO that its selector takes out of AUTO is at rest there (R86, R88). -/
theorem atRest_judgePumpMode (h : AtRest .auto (s.pump p)) : ∃ m, AtRest m ((judgePumpMode p s).pump p) := by
  unfold judgePumpMode
  dsimp only
  rw [h.mode]
  cases s.targetMode p with
  | off => exact ⟨_, (atRest_pumpLeavesAuto (st := .off) rfl (by decide)).postStop⟩
  | hand => exact ⟨_, atRest_pumpLeavesAuto (st := .hand) rfl (by decide)⟩
  | auto => exact ⟨_, h⟩

theorem atRest_guarded_judgeSelector {c : State → Bool} (h : AtRest .auto (s.pump p)) :
    ∃ m, AtRest m ((guarded c (judgeSelector p) s).pump p) := by
  unfold guarded
  split
  · exact atRest_judgePumpMode (h.setPump rfl rfl)
  · exact ⟨_, h⟩

theorem atRest_pumpPointChanged (n : Nat) (old : PointRec) (h : AtRest .auto (s.pump p)) :
    ∃ m, AtRest m ((pumpPointChanged n old p s).pump p) := by
  have hfeedback := h.guarded (c := fun s => s.holds n fun r => r.feedback.get p) (h.feedbackChanged old.active)
  have hcurrent := hfeedback.guarded (c := fun s => s.holds n fun r => r.current.get p) hfeedback.judgeOvercurrent
  obtain ⟨m, hm⟩ := atRest_guarded_judgeSelector (c := fun s => s.holds n fun r => r.selector.get p) hcurrent
  have hf1 := hm.guarded (c := fun s => s.holds n fun r => r.f1.get p) (hm.judgeFault .f1)
  have hf2 := hf1.guarded (c := fun s => s.holds n fun r => r.f2.get p) (hf1.judgeFault .f2)
  exact ⟨m, hf2.guarded (hf2.judgeFault .f3)⟩

/-! ### The other drives' reactions, and the end of the event -/

theorem pump_pumpPointChanged_other (h : q ≠ p) (n : Nat) (old : PointRec) (s : State) :
    (pumpPointChanged n old p s).pump q = s.pump q := by
  rw [pumpPointChanged, guarded_view (State.pump · q) _ _ (pump_judgeFault_other h .f3),
    guarded_view (State.pump · q) _ _ (pump_judgeFault_other h .f2),
    guarded_view (State.pump · q) _ _ (pump_judgeFault_other h .f1),
    guarded_view (State.pump · q) _ _ (pump_judgeSelector_other h),
    guarded_view (State.pump · q) _ _ (pump_judgeOvercurrent_other h),
    guarded_view (State.pump · q) _ _ (pump_feedbackChanged_other h _)]

theorem pump_rakePointChanged (n : Nat) (r : Side) (s : State) (q : Pump) :
    (rakePointChanged n r s).pump q = s.pump q := by
  rw [rakePointChanged, guarded_view (State.pump · q) _ _ fun v => pump_judgeJamTimer r v q,
    guarded_view (State.pump · q) _ _ fun v => pump_judgePark r v q]

/-- A pump at rest in AUTO is still at rest when the drives have been told of the change of a point. -/
theorem atRest_drivesTold (n : Nat) (old : PointRec) (h : AtRest .auto (s.pump p)) :
    ∃ m, AtRest m ((drivesTold n old s).pump p) := by
  obtain ⟨u, -, hpump, hturn⟩ := foldl_turn (P := fun _ => True) (E := fun u : State => u.pump p)
    (f := fun u q => pumpPointChanged n old q u) (l := pumps) (a := p) (s := s) (fun _ _ _ _ => trivial)
    (fun u _ q _ hq => pump_pumpPointChanged_other (Ne.symm hq) n old u) (by decide) (mem_pumps p) trivial
  have hrakes : (drivesTold n old s).pump p = (eachPump (pumpPointChanged n old) s).pump p :=
    eachSide_view (fun u : State => u.pump p) _ (fun r v => pump_rakePointChanged n r v p) _
  have hu : AtRest .auto (u.pump p) := by rw [show u.pump p = s.pump p from hpump]; exact h
  obtain ⟨m, hm⟩ := atRest_pumpPointChanged n old hu
  refine ⟨m, ?_⟩
  rw [hrakes]
  exact (congrArg (AtRest m) hturn).mpr hm

theorem pump_shedDrive_of_not_granted (h : (s.pump p).state.granted = false) (d : Drive) :
    (shedDrive d s).pump p = s.pump p := by
  cases d with
  | pump q =>
    by_cases hq : p = q
    · subst hq
      rw [shedDrive, shedPump, if_neg (by rw [h]; decide)]
    · exact pump_shedPump_other hq s
  | rake r => exact pump_shedRake r s p

/-- The shedding check leaves a pump that holds no grant (R80). -/
theorem pump_shedCheck_of_not_granted (h : (s.pump p).state.granted = false) : (shedCheck s).pump p = s.pump p :=
  foldl_keeps (P := fun u => u.pump p = s.pump p) (fun u d hu => by
    split
    · exact (pump_shedDrive_of_not_granted (by rw [hu, h]) d).trans hu
    · exact hu) rfl _

/-- With no capacity the settled drives hold no grant, and the grant pass finds no slot (R75, R76). -/
theorem settleDrives_of_no_capacity (hrun : RunOrderTrue s) (h : s.capacity = 0) :
    settleDrives s = shedCheck s ∧ (shedCheck s).grants = 0 ∧ (shedCheck s).seq.run = [] := by
  have hcapacity : (shedCheck s).capacity = 0 := (capacity_of_outsideGrants (outsideGrants_shedCheck s)).trans h
  have hgrants : (shedCheck s).grants = 0 := by
    have hlaw := slotLaw_shedCheck hrun
    unfold SlotLaw at hlaw
    omega
  have hempty : (shedCheck s).seq.run = [] := run_eq_nil ((drivesKept_shedCheck s).run hrun) hgrants
  refine ⟨?_, hgrants, hempty⟩
  rw [settleDrives]
  generalize shedCheck s = u at hcapacity hempty ⊢
  have hfree : u.freeSlots = 0 := by rw [State.freeSlots, hcapacity, Nat.zero_sub]
  have hrake : ∀ r, grantIfFree r u = u := fun r => if_neg (by omega)
  have hpreempt : ∀ r, preempt r u = u := fun r => by
    unfold preempt
    split
    · rw [hempty]
      rfl
    · rfl
  have hurgent : eachSide grantUrgent u = u := foldl_fixed (fun r => by
    rw [grantUrgent, hpreempt, hrake, ite_self]) _
  have hduty : u.seq.duty.foldl (fun s p => grantCandidate p s) u = u := foldl_fixed (fun p =>
    if_neg fun hc => by omega) _
  have hother : eachSide grantOther u = u := foldl_fixed (fun r => by rw [grantOther, hrake, ite_self]) _
  rw [grantPass, hurgent, hduty, hother]

end Sys2Proof.Proofs
end

section
/-! PROOF. A SAMPLE that changes the supply, and the statement about the loss and the return of supply assembled (R74,
R75, R78, R82, R83, R117). -/

namespace Sys2Proof.Proofs

open Sys2Proof.Machine Sys2Proof.Safety Sys2Proof.Laws

variable {s t u v : State} {p q : Pump} {r y : Side} {f : Frame} {tap : Tap} {d : PointDef} {x raw : Int} {g : Quality}
  {supply : Supply}

/-! ### One pair of a SAMPLE frame (R19, R41, R45) -/

/-- What the drives' statements read of a state. -/
structure DriveSide (s t : State) : Prop where
  arbiter : t.arbiter = s.arbiter
  seq : t.seq = s.seq
  screens : t.screens = s.screens
  alarms : t.alarms = s.alarms
  tables : t.tables = s.tables

theorem driveSide_forward (f : Frame) (s : State) : DriveSide s (forward f s) := by
  rw [forward_eq]
  exact ⟨rfl, rfl, rfl, rfl, rfl⟩

theorem driveSide_arrived (f : Frame) (s : State) : DriveSide s (arrived f s) := by
  rw [arrived_eq]
  exact ⟨rfl, rfl, rfl, rfl, rfl⟩

theorem DriveSide.pump (h : DriveSide s t) (p : Pump) : t.pump p = s.pump p := by
  rw [State.pump, h.seq, State.pump]

theorem DriveSide.alarm (h : DriveSide s t) (n : Nat) : t.alarm n = s.alarm n := by
  rw [State.alarm, h.alarms, State.alarm]

theorem DriveSide.station (h : DriveSide s t) : t.station = s.station := by
  rw [State.station, h.tables, State.station]

theorem DriveSide.capacity (h : DriveSide s t) : t.capacity = s.capacity :=
  capacity_congr h.station (by rw [h.arbiter])

theorem DriveSide.grants (h : DriveSide s t) : t.grants = s.grants := by
  rw [grants_eq, grants_eq, holdsGrant_of_driveStates (driveStates_congr h.seq h.screens h.tables)]

/-- A SAMPLE frame of one pair hands its value over for its tap, and its event ends (R19, R41). -/
theorem exec_samplePair {channel hi lo : Byte} (hf : Foreign s f) (hs : Settled s) (hkind : f.kind = some .sample)
    (hpayload : f.payload = [channel, hi, lo]) (htap : s.tapOf f.src channel = some tap) :
    ∃ t, exec (.frameReceived f) s = .next t ∧
      DriveSide (ended (takeRaw tap (join16 hi lo).toInt (arrived f s))) t := by
  have htaken : sampled f s = ended (takeRaw tap (join16 hi lo).toInt (arrived f s)) := by
    rw [sampled, hpayload]
    simp only [samplePairs, List.foldl_cons, List.foldl_nil]
    rw [takePair, tapOf_arrived, htap]
  refine ⟨_, exec_wholePairs hf hs.quiet hkind (by rw [hpayload, sampleLengthOk_iff]; simp), ?_⟩
  rw [htaken]
  split
  · exact ⟨rfl, rfl, rfl, rfl, rfl⟩
  · exact driveSide_forward f _

/-! ### A value taken by the supply source point (R45, R55, R74) -/

/-- A sample is GOOD or CLAMPED, and so usable (R44, R47). -/
theorem usable_of_sample (h : tap.sample d raw = some (x, g)) : g.usable = true := by
  obtain ⟨w, -, hw⟩ := Option.map_eq_some_iff.mp h
  have hg : (if w.2 || (d.cls.fit (tap.scale w.1)).2 then Quality.clamped else Quality.good) = g :=
    congrArg Prod.snd hw
  rw [← hg]
  split <;> rfl

/-- The state with a sample accepted by a point, nothing told (R45). -/
def accepted (n : Nat) (x : Int) (g : Quality) (s : State) : State := s.setPoint n ((s.pointRec n).accept x g)

/-- The supply source point of `s` takes the sample `x` of the grade `g`, which changes its record. -/
structure SupplySampled (n : Nat) (x : Int) (g : Quality) (s : State) : Prop where
  role : s.role (·.supply) = some n
  forced : (s.pointRec n).forced = false
  size : n < s.points.recs.length
  usable : g.usable = true
  changes : (s.pointRec n).value ≠ x ∨ (s.pointRec n).quality ≠ g

theorem SupplySampled.arrived {n : Nat} (h : SupplySampled n x g s) (f : Frame) :
    SupplySampled n x g (arrived f s) := by
  rw [arrived_eq]
  exact ⟨h.role, h.forced, h.size, h.usable, h.changes⟩

theorem supplySampled {raw : Int} (hshapes : Shapes s) (hdef : s.pointDef tap.target = some d)
    (hsample : tap.sample d raw = some (x, g)) (hrole : s.role (·.supply) = some tap.target)
    (hforced : (s.pointRec tap.target).forced = false)
    (hchanges : (s.pointRec tap.target).value ≠ x ∨ (s.pointRec tap.target).quality ≠ g) :
    SupplySampled tap.target x g s where
  role := hrole
  forced := hforced
  size := by rw [hshapes.points]; exact target_of_pointDef hshapes hdef
  usable := usable_of_sample hsample
  changes := hchanges

section Sampled
variable {n : Nat} (h : SupplySampled n x g s)
include h

theorem SupplySampled.pointRec : (accepted n x g s).pointRec n = (s.pointRec n).accept x g :=
  (State.pointRec_setPoint (s := s) n n _ h.size).trans (if_pos rfl)

theorem SupplySampled.value : ((accepted n x g s).pointRec n).value = x ∧
    ((accepted n x g s).pointRec n).quality = g := by
  rw [h.pointRec, accept_eq, h.forced]
  exact ⟨rfl, rfl⟩

/-- The supply reads the value taken (R74). -/
theorem SupplySampled.reading : (accepted n x g s).supplyReading =
    if x = 0 then .lost else if x = 1 then .mains else if x = 2 then .generator else s.arbiter.supply := by
  obtain ⟨hvalue, hquality⟩ := h.value
  have hrole : (accepted n x g s).roleRec (·.supply) = some ((accepted n x g s).pointRec n) := by
    have hsame : (accepted n x g s).role (·.supply) = some n := h.role
    rw [State.roleRec, hsame]
    rfl
  rw [State.supplyReading, hrole]
  dsimp only
  rw [hquality, hvalue, if_pos h.usable]
  rfl

/-- The sample taken, the supply is judged first, then the drives are told (R55). -/
theorem SupplySampled.takeRaw (hdef : s.pointDef tap.target = some d) (hn : tap.target = n)
    (hsample : tap.sample d raw = some (x, g)) : takeRaw tap raw s =
      statePointFailed n (drivesTold n (s.pointRec n) (judgeSupply (accepted n x g s))) := by
  obtain ⟨hvalue, hquality⟩ := h.value
  have hchanged : ¬((s.pointRec n).value = ((accepted n x g s).pointRec n).value ∧
      (s.pointRec n).quality = ((accepted n x g s).pointRec n).quality) := by
    rw [hvalue, hquality]
    exact fun hc => h.changes.elim (fun hv => hv hc.1) fun hq => hq hc.2
  have hholds : (accepted n x g s).holds n (·.supply) = true := decide_eq_true h.role
  have htold : changePoint n ((s.pointRec n).accept x g) s =
      drivesTold n (s.pointRec n) (judgeSupply (accepted n x g s)) := by
    rw [changePoint, pointChanged]
    refine (if_neg hchanged).trans ?_
    rw [drivesTold]
    congr 2
    exact if_pos hholds
  subst hn
  rw [Machine.takeRaw, hdef]
  dsimp only
  rw [hsample]
  dsimp only
  rw [htold]

end Sampled

/-! ### The supply lost by a SAMPLE (R82) -/

theorem drivesKept_drivesTold (n : Nat) (old : PointRec) (s : State) : DrivesKept s (drivesTold n old s) :=
  (drivesKept_eachPump (drivesKept_pumpPointChanged n old) s).trans
    (drivesKept_eachSide (drivesKept_rakePointChanged n) _)

theorem atRest_of_pumpLost {w : PumpRec} (h : PumpLost p s w) : AtRest .auto w := by
  obtain ⟨hstate, -, -, -, hcommand⟩ := h
  refine ⟨?_, ?_, fun _ => hcommand⟩ <;> rw [hstate] <;> split <;> rfl

/-- The drives, and then POINT_FAILED, told of the change of a point (R51, R55). -/
def changeTold (n : Nat) (old : PointRec) (s : State) : State := statePointFailed n (drivesTold n old s)

theorem supplyPart_changeTold (n : Nat) (old : PointRec) (s : State) :
    supplyPart (changeTold n old s) = supplyPart s := by
  rw [changeTold, supplyPart_statePointFailed, driveBlind_supplyPart.drivesTold]

theorem drivesKept_changeTold (n : Nat) (old : PointRec) (s : State) : DrivesKept s (changeTold n old s) := by
  have hstates := driveStates_statePointFailed n (drivesTold n old s)
  exact (drivesKept_drivesTold n old s).then_states hstates

theorem pump_changeTold (n : Nat) (old : PointRec) (s : State) (p : Pump) :
    (changeTold n old s).pump p = (drivesTold n old s).pump p := by
  rw [changeTold, statePointFailed, pump_stateCondition]

section Lost
variable {n : Nat} {old : PointRec} (hrun : RunOrderTrue s) (hsupply : s.arbiter.supply = .lost)
include hrun hsupply

/-- With the supply lost the drives settle by shedding alone (R75, R76). -/
theorem settled_changeTold : settleDrives (changeTold n old s) = shedCheck (changeTold n old s) ∧
    (shedCheck (changeTold n old s)).grants = 0 ∧ (shedCheck (changeTold n old s)).seq.run = [] :=
  settleDrives_of_no_capacity ((drivesKept_changeTold n old s).run hrun)
    (capacity_lost ((supply_of_supplyPart (supplyPart_changeTold n old s)).trans hsupply))

/-- A pump at rest as the supply's loss is told is so at the end of the event (R75, R82). -/
theorem atRest_ended (hrest : AtRest .auto (s.pump p)) : ∃ m, AtRest m ((ended (changeTold n old s)).pump p) := by
  obtain ⟨m, hm⟩ := atRest_drivesTold n old hrest
  rw [← pump_changeTold] at hm
  refine ⟨m, ?_⟩
  rw [pump_ended, (settled_changeTold hrun hsupply).1, pump_shedCheck_of_not_granted hm.grant]
  exact hm

/-- With the supply lost the event ends with no grant and an empty run order (R75, R76, R82). -/
theorem noGrant_ended : (ended (changeTold n old s)).grants = 0 ∧ (ended (changeTold n old s)).seq.run = [] := by
  obtain ⟨hsettled, hgrants, hempty⟩ := settled_changeTold (n := n) (old := old) hrun hsupply
  have hstates : driveStates (ended (changeTold n old s)) = driveStates (shedCheck (changeTold n old s)) := by
    rw [ended, driveStates_finishAlarms, hsettled]
  exact ⟨by rw [grants_eq, holdsGrant_of_driveStates hstates, ← grants_eq, hgrants],
    by rw [run_of_driveStates hstates, hempty]⟩

end Lost

theorem supplyPart_told (n : Nat) (old : PointRec) (s : State) :
    supplyPart (ended (changeTold n old s)) = supplyPart s := by
  rw [supplyPart_ended, supplyPart_changeTold]

/-- Where a pump at rest is not in AUTO its command is free; in AUTO it is STOP. -/
theorem AtRest.stopped {m : Mode} {w : PumpRec} (h : AtRest m w) :
    w.state ≠ .starting ∧ w.state ≠ .running ∧ (w.state.mode = .auto → w.command = .stop) :=
  ⟨ne_starting_of_not_granted h.grant, ne_running_of_not_granted h.grant,
    fun hauto => h.command (h.mode.symm.trans hauto)⟩

section Sample
variable {channel hi lo : Byte} (hf : Foreign s f) (hs : Settled s) (hshapes : Shapes s)
  (hkind : f.kind = some .sample) (hpayload : f.payload = [channel, hi, lo])
  (htap : s.tapOf f.src channel = some tap) (hdef : s.pointDef tap.target = some d)
  (hsample : tap.sample d (join16 hi lo).toInt = some (x, g)) (hrole : s.role (·.supply) = some tap.target)
  (hforced : (s.pointRec tap.target).forced = false)
  (hchanges : (s.pointRec tap.target).value ≠ x ∨ (s.pointRec tap.target).quality ≠ g)
include hf hs hshapes hkind hpayload htap hdef hsample hrole hforced hchanges

/-- A SAMPLE that changes the supply source point: the supply is judged by the value taken, the change is told, and
the event ends (R45, R55, R74). -/
theorem exec_supplySample : ∃ t b old, exec (.frameReceived f) s = .next t ∧
    DriveSide (ended (changeTold tap.target old (judgeSupply b))) t ∧ DriveSide s b ∧ b.now = s.now ∧
    b.supplyReading =
      if x = 0 then .lost else if x = 1 then .mains else if x = 2 then .generator else s.arbiter.supply := by
  obtain ⟨t, hexec, hside⟩ := exec_samplePair hf hs hkind hpayload htap
  have harrived := driveSide_arrived f s
  have hsampled := (supplySampled hshapes hdef hsample hrole hforced hchanges).arrived f
  have hdef' : (arrived f s).pointDef tap.target = some d := by
    rw [State.pointDef, State.pointDefs, harrived.tables]
    exact hdef
  rw [hsampled.takeRaw hdef' rfl hsample] at hside
  refine ⟨t, accepted tap.target x g (arrived f s), _, hexec, hside, ?_, ?_, ?_⟩
  · exact ⟨harrived.arbiter, harrived.seq, harrived.screens, harrived.alarms, harrived.tables⟩
  · exact now_congr (chip_arrived f s)
  · rw [hsampled.reading, harrived.arbiter]

/-- A SAMPLE that brings the supply source point to NONE (R82). -/
theorem supplyLost_by_sample (hrun : RunOrderTrue s) (hx : x = 0) (hsupply : s.arbiter.supply ≠ .lost) :
    ∃ t, exec (.frameReceived f) s = .next t ∧ t.arbiter.supply = .lost ∧ t.capacity = 0 ∧ t.grants = 0 ∧
      t.seq.run = [] ∧ t.arbiter.powerReturn = .stopped ∧ (t.alarm 21).condition = true ∧
      (t.alarm 22).condition = false ∧
      ∀ p, (s.pump p).state = .starting ∨ (s.pump p).state = .running →
        (t.pump p).state ≠ .starting ∧ (t.pump p).state ≠ .running ∧
          ((t.pump p).state.mode = .auto → (t.pump p).command = .stop) := by
  obtain ⟨t, b, old, hexec, hside, hb, -, hreading⟩ := exec_supplySample hf hs hshapes hkind hpayload htap hdef hsample
    hrole hforced hchanges
  rw [if_pos hx] at hreading
  have hsupply' : b.arbiter.supply ≠ .lost := by rwa [hb.arbiter]
  have hrun' : RunOrderTrue b := runOrderTrue_of_driveStates (driveStates_congr hb.seq hb.screens hb.tables) hrun
  obtain ⟨hlost, hstopped⟩ := arbiter_supplyLost hreading hsupply'
  obtain ⟨hpresent, hgenerator⟩ := conditions_supplyLost hreading hsupply' (by rw [hb.alarms]; exact hshapes.alarms)
  have hpart := supplyPart_told tap.target old (judgeSupply b)
  have hrunLost := (drivesKept_judgeSupply b).run hrun'
  obtain ⟨hgrants, hempty⟩ := noGrant_ended (n := tap.target) (old := old) hrunLost hlost
  obtain ⟨h21, h22⟩ := alarm_of_supplyPart hpart
  have hend : t.arbiter.supply = .lost := by rw [hside.arbiter, supply_of_supplyPart hpart, hlost]
  refine ⟨t, hexec, hend, capacity_lost hend, hside.grants.trans hgrants, by rw [hside.seq, hempty], ?_, ?_, ?_,
    fun p hp => ?_⟩
  · rw [hside.arbiter, powerReturn_of_supplyPart hpart, hstopped]
  · rw [hside.alarm, h21, hpresent]
  · rw [hside.alarm, h22, hgenerator]
  · have hp' : stoppedBySupply (b.pump p).state := by
      rw [hb.pump]
      exact hp.imp_right .inl
    have hrest := atRest_of_pumpLost (pump_supplyLost hreading hsupply' hp').1
    obtain ⟨m, hm⟩ := atRest_ended (n := tap.target) (old := old) hrunLost hlost hrest
    rw [hside.pump]
    exact hm.stopped

/-- A SAMPLE that brings the supply back (R83). -/
theorem supplyReturned_by_sample (hsupply : s.arbiter.supply = .lost)
    (hx : (x = 1 ∧ supply = .mains) ∨ (x = 2 ∧ supply = .generator)) :
    ∃ t, exec (.frameReceived f) s = .next t ∧ t.arbiter.supply = supply ∧
      t.arbiter.powerReturn = (if s.powerReturnTime = 0 then .expired else .running s.now) ∧
      (t.alarm 21).condition = false ∧ (t.alarm 22).condition = decide (supply = .generator) := by
  obtain ⟨t, b, old, hexec, hside, hb, hnow, hreading⟩ := exec_supplySample hf hs hshapes hkind hpayload htap hdef
    hsample hrole hforced hchanges
  have hreads : b.supplyReading = supply ∧ supply ≠ .lost := by
    rw [hreading]
    rcases hx with ⟨rfl, rfl⟩ | ⟨rfl, rfl⟩ <;> exact ⟨rfl, by decide⟩
  obtain ⟨hreads, hne⟩ := hreads
  have hreturned : b.supplyReading ≠ .lost := hreads ▸ hne
  have hsupply' : b.arbiter.supply = .lost := by rw [hb.arbiter, hsupply]
  have harbiter := arbiter_supplyReturned hreturned hsupply'
  have hentries : b.alarms.entries.length = 73 := by rw [hb.alarms, hshapes.alarms]
  obtain ⟨hpresent, hgenerator⟩ := conditions_supplyReturned hreturned hsupply' hentries
  have hpart := supplyPart_told tap.target old (judgeSupply b)
  obtain ⟨h21, h22⟩ := alarm_of_supplyPart hpart
  refine ⟨t, hexec, ?_, ?_, ?_, ?_⟩
  · rw [hside.arbiter, supply_of_supplyPart hpart, harbiter, hreads]
  · rw [hside.arbiter, powerReturn_of_supplyPart hpart, harbiter, hnow, powerReturnTime_congr hb.tables]
  · rw [hside.alarm, h21, hpresent]
  · rw [hside.alarm, h22, hgenerator, hreads]

end Sample

/-! ### The statement -/

/-- The supply judged back (R78, R83). -/
theorem judgeSupply_return (hreading : s.supplyReading ≠ .lost) (hsupply : s.arbiter.supply = .lost) :
    (∀ x, s.station = some x → (judgeSupply s).capacity =
      if s.supplyReading = .mains then x.mainsSlots else x.generatorSlots) ∧
    (judgeSupply s).seq = s.seq ∧ (judgeSupply s).screens = s.screens := by
  have harbiter := arbiter_supplyReturned hreading hsupply
  refine ⟨fun x hx => ?_, ?_, ?_⟩
  · have hstation : (judgeSupply s).station = some x := by
      rw [State.station, tables_of_outsideDrives (outsideDrives_judgeSupply s)]
      exact hx
    rw [capacity_of_supply hstation (by rw [harbiter]; exact hreading), harbiter]
  · rw [judgeSupply_returned hreading hsupply]
    exact seq_supplyTaken s
  · rw [judgeSupply_returned hreading hsupply]
    exact screens_supplyTaken s

/-- What the loss of supply leaves of a rake (R82). -/
theorem rake_judgeSupply_lost (hreading : s.supplyReading = .lost) (hsupply : s.arbiter.supply ≠ .lost)
    (hr : (s.rake r).state = .raking ∨ (s.rake r).state = .reversing) :
    ((judgeSupply s).rake r).state = .waitSlot ∧ ((judgeSupply s).rake r).command = .stop ∧
      ((judgeSupply s).rake r).travel = none ∧ ((judgeSupply s).rake r).reverse = none ∧
      ((judgeSupply s).rake r).jam = none ∧ ((judgeSupply s).rake r).attempts = 0 ∧
      Posted (judgeSupply s) (.rake r) .stop := by
  have hgranted : (s.rake r).state.granted = true := by rcases hr with h | h <;> rw [h] <;> rfl
  obtain ⟨hrake, hposted⟩ := rake_supplyLost hreading hsupply hgranted
  rw [hrake]
  exact ⟨rfl, rfl, rfl, rfl, rfl, rfl, hposted⟩

/-- Settles O28: the supply judged lost or returned (`judgeSupply_lost`, `judgeSupply_returned`), and the same within
a SAMPLE's event, in which no other reaction touches the supply's part and no capacity is left to grant from. -/
theorem lossAndReturnOfSupply : Obligations.LossAndReturnOfSupply := by
  refine ⟨?_, ?_, ?_, ?_⟩
  · intro f channel hi lo tap d g s hf hs hshapes hrun hkind hpayload htap hdef hsample hrole hforced hsupply hchanges
    exact supplyLost_by_sample hf hs hshapes hkind hpayload htap hdef hsample hrole hforced hchanges hrun rfl hsupply
  · intro f channel hi lo tap d v g supply s hf hs hshapes hkind hpayload htap hdef hsample hrole hforced hsupply hv
      hchanges
    exact supplyReturned_by_sample hf hs hshapes hkind hpayload htap hdef hsample hrole hforced hchanges hsupply hv
  · intro s hreading hsupply hshapes t
    obtain ⟨hcapacity, hseq, hscreens⟩ := judgeSupply_return hreading hsupply
    obtain ⟨hlost, hgenerator⟩ := conditions_supplyReturned hreading hsupply hshapes.alarms
    exact ⟨arbiter_supplyReturned hreading hsupply, hcapacity, hlost, hgenerator, hseq, hscreens,
      outsideDrives_judgeSupply s⟩
  · intro s hreading hsupply hrun hshapes t
    obtain ⟨hlost, hstopped⟩ := arbiter_supplyLost hreading hsupply
    have hgrants := grants_supplyLost hreading hsupply
    obtain ⟨hpresent, hgenerator⟩ := conditions_supplyLost hreading hsupply hshapes.alarms
    refine ⟨hlost, capacity_lost hlost, hgrants, hstopped, run_eq_nil ((drivesKept_judgeSupply s).run hrun) hgrants,
      duty_supplyLost hreading hsupply, fun p hp => ?_, fun p h1 h2 h3 => ?_,
      fun r hr => rake_judgeSupply_lost hreading hsupply hr, fun r h1 h2 => ?_, hpresent, hgenerator,
      outsideDrives_judgeSupply s⟩
    · obtain ⟨⟨hstate, hstart, hstop, hoff, hcommand⟩, hposted⟩ := pump_supplyLost hreading hsupply hp
      exact ⟨hstate, hstart, hstop, hoff, hcommand, hposted⟩
    · exact pump_supplyLost_of_not hreading hsupply fun h => h.elim h1 fun h => h.elim h2 h3
    · refine rake_supplyLost_of_not hreading hsupply ?_
      cases hst : (s.rake r).state <;> simp_all [RakeState.granted]

end Sys2Proof.Proofs
end
